-- ==== Sys2Proof/Word.lean ====
section
/-! DEFINITION. Sys2Proof/Word.lean: the words of the VT-7120 and the texts of its command line.
Widths follow 00_scope.md (registers are 32 bits, bit 0 least significant) and 06_timescales.md R189 (the stamp). -/

namespace Sys2Proof

/-- A register value (00_scope.md section 5: registers are 32 bits wide). -/
abbrev Word := BitVec 32

/-- One octet. -/
abbrev Byte := BitVec 8

/-- The stamp, a 72-bit count of 2^-32 s: 40 bits of seconds above 32 bits of fraction (R189). -/
abbrev Stamp := BitVec 72

/-- Characters of a command line or of a response. -/
abbrev Text := List Char

end Sys2Proof
end

