-- ==== Sys2Proof/Syntax.lean ====
section
/-! DEFINITION. Sys2Proof/Syntax.lean: the commands of the VT-7120, one constructor for each row of
spec/opcode_table.json (95_what_each_step_holds.md: each row is one whole, indivisible step), with the operands
that the governing rules read from outside the part: pin instants, measured values, message fields, arguments.
The table gives no encoding, so the operands are the model's reading of each row (DESIGN CHOICE, unsafe: notes/assumptions/2.md). -/

namespace Sys2Proof

/-- A field-side source (03_power_fabric.md Table 3-1); `vbk` is the hold-up node. The order of the FSUP codes. -/
inductive Source where
  | vfld | iso | vbat | vbk
  deriving DecidableEq, Repr

/-- The two references that take marks (07_references.md section 1). -/
inductive RefSrc where
  | pps | rf
  deriving DecidableEq, Repr

/-- A side of the part (01_two_sides.md). -/
inductive Side where
  | host | field
  deriving DecidableEq, Repr

/-- A barrier lane (04_barrier.md section 2). -/
inductive Lane where
  | fh | hf
  deriving DecidableEq, Repr

/-- The two wake outputs (09_alarms_periods.md section 4). -/
inductive WakeOut where
  | ponH | ponF
  deriving DecidableEq, Repr

/-- The period sets (09_alarms_periods.md section 6). -/
inductive PerSet where
  | day | trip
  deriving DecidableEq, Repr

/-- Human mode, machine mode, machine mode with check codes on responses (15_command_line.md R541). -/
inductive UMode where
  | human | machine | machineChk
  deriving DecidableEq, Repr

/-- The calibration items (13_calibration.md Table 13-1). -/
inductive CalItem where
  | tdc | adc | xl | ltab | bar | synth | iq | pa
  deriving DecidableEq, Repr

/-- The states that `RF.STATE` can name (16_commands.md Table 16-12). -/
inductive RfTarget where
  | sleep | idle | stby | rx
  deriving DecidableEq, Repr

/-- The keys of `REF.SET` (16_commands.md Table 16-5). -/
inductive RefKey where
  | rank | bw | step | leap | ppsen | rfen | rfint
  deriving DecidableEq, Repr

/-- The telemetry groups (14_inservice_test.md Table 14-2). -/
inductive TelGroup where
  | frame | uart | bar | sup | nvm | tdc | cal | rf | flag | test
  | domF (i : Nat)
  | domH (i : Nat)
  deriving DecidableEq, Repr

/-- The argument of `TMARK` (07_references.md R234, R235); the fraction is in units of 10^-9 s. -/
inductive TmarkArg where
  | pps (s : Nat)
  | rf (id : Nat) (s : Nat) (nano : Nat)
  deriving DecidableEq, Repr

/-- The argument of `AL` (16_commands.md R596): an item `none` is written masked; the action set has the bits of
`ACT` (Table 9-4). -/
inductive AlArg where
  | set (n : Nat) (hour min sec dow year month date : Option Nat) (acts : BitVec 5)
  | off (n : Nat)
  deriving DecidableEq, Repr

/-- The argument of `TICKER`. -/
inductive TickerArg where
  | run (n : Nat) (acts : BitVec 5)
  | off
  deriving DecidableEq, Repr

/-- The argument of `BAT.PLAN`. -/
inductive BatPlanArg where
  | plan (mask : Nat) (period : Nat)
  | on
  | off
  deriving DecidableEq, Repr

/-- The argument of `PER?`. -/
inductive PerArg where
  | chan (n : Nat)
  | ev
  deriving DecidableEq, Repr

/-- The commands executed on the field side and carried by `CMDX` (04_barrier.md Table 4-6); the argument words and
codes of `CMDX` stand only in the Layout Table, so the command itself is carried (DESIGN CHOICE, safe: notes/assumptions/12.md). -/
inductive FieldCmd where
  | evq (n : Nat)
  | tq (n : Nat)
  | snap
  | tripOpen (id : Word)
  | tripClose
  | keepSave
  | keepLoad
  | note (t : Text)
  | jExport (range : Option (Nat × Nat))
  | jVerify (range : Option (Nat × Nat))
  | jErase
  | sealKey (p : Nat) (t : Text)
  | calRun (item : CalItem) (index : Option Nat)
  | calLoad (line : Nat) (bytes : List Byte)
  | calLoadGo
  | calCommit
  | test (forced : Bool)
  | testFail (code index : Nat) (measured limit : Int)
  deriving DecidableEq, Repr

/-- The message types of Table 4-5. -/
inductive MsgType where
  | idle | ack | nak | loop | tick | echo | regdat | mark | stat | regrd | evt | regwr | samp | cmdx | jdat | jreq
  | rspx | pwrq | pwra | wake
  deriving DecidableEq, Repr

/-- A transaction: one message, or a run of messages of one type with one `SEQ` (R108), as its payload words;
a `CMDX` also carries its command. -/
structure Txn where
  ty : MsgType
  seq : BitVec 4
  words : List Word
  cmd : Option FieldCmd
  deriving DecidableEq, Repr

/-- One run of the ADC calibration on one core (13_calibration.md R469): the offset, and the ratios of the four
reference networks. -/
structure AdcRun where
  ofs : Int
  ratio : List Int
  deriving DecidableEq, Repr

/-- What a calibration slice measured (13_calibration.md R466, R471, R474), in the item's units. -/
structure CalMeas where
  /-- TDC: the 32 INL entries in 0.1 ps; barrier asymmetry: the value of A in ps; crystal load: the predicted
  residuals of the run's choice and of the current selection, in 0.1 ppb -/
  vals : List Int
  /-- crystal load: the segments the run chose, and the segments measured bad -/
  choice : Word
  bad : Word
  deriving DecidableEq, Repr

/-- What a journal service slice read of one slot (R442): its position in the read, the `ECCST` code, and the slot as
read where it is uncorrectable. -/
structure SlotRead where
  pos : Nat
  ecc : BitVec 2
  value : BitVec 256
  deriving DecidableEq, Repr

/-- A packet as it arrives over the air (18_radio.md sections 2 and 6). -/
structure RxFrame where
  /-- the 16 PHR bits, first received bit in bit 0 -/
  phr : BitVec 16
  psdu : List Byte
  rssi : Int
  deriving DecidableEq, Repr

/-- The commands (block steps) of the VT-7120: one constructor per row of the table, in the table's order. -/
inductive Instr where
  /-- `FRAME_BOUNDARY` (R32). At tick 0 of every field frame the field side runs tick housekeeping in the order of Table 2-3. -/
  | frameBoundary
  /-- `TICKER_FIRE` (R325). The interval ticker fires at every N-th stamp frame boundary and performs TKR_ACT. -/
  | tickerFire
  /-- `PON_PULSE_END` (R330). A pulse-mode wake output is released when its PONx_LEN frame count expires. -/
  | ponPulseEnd (o : WakeOut)
  /-- `ALARM_ACTION_SLICE` (R314). A priority-4 slice performs the action set of a firing alarm, sending WAKE, driving PON_F, starting SNAP or staging the ALARM record. -/
  | alarmActionSlice
  /-- `WATCHDOG_RESTART` (R47). If housekeeping or a foreground slice overruns its window, the watchdog stops all slices, restarts the scheduler and writes a BOOT record. -/
  | watchdogRestart
  /-- `FIELD_WRITE_COMMIT` (R55). The field-window writes of a line commit together at housekeeping item 1 of the next field frame. -/
  | fieldWriteCommit
  /-- `MARK_EVALUATE` (R239). Marks received in a frame are evaluated in stamp order at housekeeping item 6 of the next frame, updating runs, the loop and adoptions. -/
  | markEvaluate
  /-- `MARK_MISS` (R242). A reference misses one mark each time 1.5 × T of stamp time passes without an evaluated mark. -/
  | markMiss (r : RefSrc)
  /-- `REFERENCE_IDLE` (R253). A Lost reference becomes Idle when 512 frames pass with no mark that qualifies it or opens a run. -/
  | referenceIdle (r : RefSrc)
  /-- `HANDOVER_COMPLETE` (R272). A hand-over to PPS or RADIO completes after 64 frames, stepping at the 64th boundary if the offset exceeds STEP_LIMIT. -/
  | handoverComplete
  /-- `SLEW_END` (R264). A slew ends when its remaining correction reaches 0. -/
  | slewEnd
  /-- `HOLDOVER_LONG_SET` (R282). HOLDOVER_LONG sets when HOLD_SEC reaches 86 400. -/
  | holdoverLongSet
  /-- `DIE_TEMP_READ` (R289). The die temperature is read at frame 0 of every 64th or 4th stamp second, by mode. -/
  | dieTempRead (t : BitVec 16)
  /-- `LEARNING_HALF_END` (R297). At the end of a 256 s half-window, a half with fewer than 8 consistent marks aborts the window. -/
  | learningHalfEnd
  /-- `LEARNING_WINDOW_CLOSE` (R300). At the end of a 512 s window, agreeing half estimates update the two bracketing table entries, or the window counts as rejected. -/
  | learningWindowClose
  /-- `LEARNED_TABLE_SUMMARY` (R311). Once per 86 400 s with an accepted window, a CAL record summarises the learned table. -/
  | learnedTableSummary
  /-- `CRYSTAL_HANDOVER` (R166). At the first RC frame boundary after the crystal is judged running, the tick moves to the crystal and BOOT 0x04 is staged. -/
  | crystalHandover
  /-- `CRYSTAL_START_FAIL` (R169). If the crystal is not running 128 start frames after POR release, TEST_FAIL sets and a TEST record is staged. -/
  | crystalStartFail
  /-- `CRYSTAL_RESTART` (R169). While the crystal has not started, the oscillator is restarted every 64 frames. -/
  | crystalRestart
  /-- `SOURCE_FALL` (R61). A selected source falling below its fall threshold moves the power path within 2.0 µs to the next valid source or VBK. -/
  | sourceFall
  /-- `DEMOTION_DECIDE` (R63). At the first tick after a drop the field side decides the pending demotion. -/
  | demotionDecide (tick : Nat) (back : Bool)
  /-- `SOURCE_QUALIFY` (R67). A source held above its rise threshold for 66 ticks qualifies and is promoted if it ranks higher. -/
  | sourceQualify (src : Source) (tick : Nat) (srcMv vbatMv : Nat)
  /-- `VBK_POR` (R77). VBK falling below V_BKH fires the backup-core power-on detector, so the next start is cold. -/
  | vbkPor
  /-- `FIELD_COLD_START` (R154). At POR release of a cold start the field side resets stamp, calendar, KEEP bytes and kept fields and stages BOOT 0x01. -/
  | fieldColdStart
  /-- `CAL_RESTORE_DONE` (R174). The calibration working set is restored from copy A, copy B or fuses and a CAL record names the source. -/
  | calRestoreDone (aOk bOk : Bool)
  /-- `JOURNAL_MOUNT` (R422). The journal mounts from the wear map, seals an open block after a cold start and flushes staged records. -/
  | journalMount (mapOk keyAOk keyBOk : Bool)
  /-- `VBAT_MEASURE` (R86). VBAT is measured under a 1.0 mA load at its scheduled times and BATLOW is judged. -/
  | vbatMeasure (mv : Nat)
  /-- `BATPLAN_DUE` (R83). While FSUP is 2, the coin-cell plan requests conversions of BATPLAN_CH at every BATPLAN_PER-th stamp second. -/
  | batplanDue
  /-- `PWRQ_SEND` (R70). The host side sends PWRQ when LINK sets, at every change of offer and every 64 frames. -/
  | pwrqSend
  /-- `VHOST_FALL` (R72). VHOST below 3.0 V withdraws the isolated power offer and stops the link within 1 frame. -/
  | vhostFall
  /-- `EV_EDGE` (R356). An edge on an enabled event input starts its lane's ring and is captured fine or coarse. -/
  | evEdge (i : Fin 8) (rising : Bool) (tick ps n1 : Nat) (moving : Bool)
  /-- `FILTER_HOLD_COMPLETE` (R357). When a FILT 2–4 hold completes, the pending edge becomes an event stamped at its last raw edge. -/
  | filterHoldComplete (i : Fin 8) (tick : Nat)
  /-- `EVENT_QUEUE` (R363). A captured event is queued and its EVENT record staged at t2 for a fine stamp or t1 for a coarse one. -/
  | eventQueue (i : Fin 8) (tick n2 : Nat)
  /-- `STAGING_ROOM_RETURN` (R379). When staging has room again, an OVF record with cause staging full is staged. -/
  | stagingRoomReturn
  /-- `CONVERSION_START` (R390). Due conversions are assigned to free ADC cores in priority order and start at the next boundary. -/
  | conversionStart
  /-- `CONTINUITY_CHECK` (R395). The probe-fault comparators check continuity of the pads in use at tick 64 of a conversion. -/
  | continuityCheck (core : Fin 2) (padsOk : Bool)
  /-- `CONVERSION_LATCH_BUSY` (R387). If the core latch still holds an untaken result at tick 128, the conversion ends, T_SLIP counts and it waits again. -/
  | conversionLatchBusy (core : Fin 2)
  /-- `CONVERSION_END` (R388). A conversion ends two frames after its start, latching its result with the boundary's sample stamp. -/
  | conversionEnd (core : Fin 2) (milliOhm : Nat) (padsOk : Bool)
  /-- `CONVERSION_COMPLETION` (R394). A priority-2 slice linearises the result, checks OPEN and SHORT and updates the result and its set. -/
  | conversionCompletion (core : Fin 2)
  /-- `FLUSH_REQUEST` (R44). A routine flush is requested when a block fills or the oldest staged record reaches 48 frames. -/
  | flushRequest
  /-- `FLUSH_PRIORITY_RAISE` (R44). A routine flush not started when its record reaches 60 frames is raised to priority 1. -/
  | flushPriorityRaise
  /-- `FLUSH_SLICE` (R418). A flush slice programs staged records into the open block's free slots with verify-after-write. -/
  | flushSlice (corr : Nat)
  /-- `SCRUB_SLICE` (R443). A background slice checks BCH on 16 slots, and on a closed data block its seal. -/
  | scrubSlice (corr : List Nat) (uncorr : List Nat) (sealOk : Bool)
  /-- `WRAP_ERASE` (R437). Under WRAP the field side erases the oldest exported block when fewer than 4 erased blocks remain. -/
  | wrapErase
  /-- `JOURNAL_SERVICE_SLICE` (R431). A priority-6 slice reads and checks blocks for export and verify jobs and prepares JDAT. -/
  | journalServiceSlice (reads : List SlotRead)
  /-- `CAL_ITEM_DUE` (R453). A calibration item falls due and starts when its source, enable and link conditions allow. -/
  | calItemDue (item : CalItem) (lane : Fin 4)
  /-- `CAL_SLICE` (R466). A background calibration slice collects hits or measurements for one run of an item. -/
  | calSlice (m : CalMeas)
  /-- `ADC_CAL_FRAME` (R469). In the booked frame f_c both cores run both ADC calibration runs. -/
  | adcCalFrame (core0run1 core1run1 core0run2 core1run2 : AdcRun)
  /-- `ADC_CAL_COMPUTE` (R470). The ADC result is computed in the background lane of f_c + 1 and applied or rejected at f_c + 2. -/
  | adcCalCompute
  /-- `CAL_STORE_DUE` (R489). A dirty working set falls due for storing by time, applied result, load or commit. -/
  | calStoreDue
  /-- `CAL_STORE_SLICE` (R491). Background slices write and check copy A, then copy B. -/
  | calStoreSlice (readBackOk : Bool)
  /-- `OVERLAY_REWRITE` (R697). When a learned limit changes the overlay is rewritten to S2, checked, then S3. -/
  | overlayRewrite (readBackOk : Bool)
  /-- `TEST_SLICE` (R506). A test slice of the rotation runs in slack at most once per PACE frames. -/
  | testSlice (side : Side) (applicable pass : Bool) (measured limit : Int)
  /-- `TELEMETRY_SLICE` (R35). A background telemetry slice folds domain ON counts into retained storage. -/
  | telemetrySlice
  /-- `TICK_RECEIVE` (R135). The host side answers a valid TICK with ECHO, checks the frame number and updates the mirror counter. -/
  | tickReceive (seq : BitVec 4) (ovr : BitVec 18) (dly : BitVec 14)
  /-- `LINK_LOSS` (R142). With no valid TICK for 4 frames the host side clears LINK and the mirror freewheels. -/
  | linkLoss
  /-- `FIELD_UNLINK` (R140). With no valid ECHO for 4 frames the field side is unlinked and stops sending TICK. -/
  | fieldUnlink
  /-- `ECHO_RECEIVE` (R133). The field side measures the round trip from ECHO for the next DLY. -/
  | echoReceive (seq : BitVec 4) (train : Bool) (crcf : Byte) (rtt : Nat)
  /-- `IDLE_RECEIVE` (R130). An IDLE message wakes the receiver and is otherwise ignored. -/
  | idleReceive (lane : Lane)
  /-- `STAT_RECEIVE` (R614). The host side updates its copy of the field-owned status bits from STAT. -/
  | statReceive (seq : BitVec 4) (bits : Word)
  /-- `EVT_RECEIVE` (R374). The host side takes an event entry from EVT and acknowledges it. -/
  | evtReceive (seq : BitVec 4) (w0 w1 w2 : Word)
  /-- `SAMP_RECEIVE` (R405). The host side takes a sample result from SAMP. -/
  | sampReceive (seq : BitVec 4) (w0 w1 w2 w3 : Word)
  /-- `JDAT_RECEIVE` (R431). The host side takes journal slots from JDAT for an export or verify job. -/
  | jdatReceive (seq : BitVec 4) (w0 w1 : Word) (data : List Word)
  /-- `RSPX_RECEIVE` (R557). The host side takes a field command's result from RSPX and completes the line's response. -/
  | rspxReceive (seq : BitVec 4) (w0 : Word) (data : List Word)
  /-- `PWRA_RECEIVE` (R71). The host side takes the field's FSUP and ISO state from PWRA. -/
  | pwraReceive (seq : BitVec 4) (w0 : Word)
  /-- `WAKE_RECEIVE` (R331). The host side drives or releases PON_H and asserts ATTN as WAKE directs. -/
  | wakeReceive (seq : BitVec 4) (w0 : Word)
  /-- `REGDAT_RECEIVE` (R113). The host side takes a register value answering its REGRD. -/
  | regdatReceive (seq : BitVec 4) (value : Word)
  /-- `ACK_RECEIVE` (R121). A sender's transaction is answered; for EVT the field side removes the entry from its queue. -/
  | ackReceive (lane : Lane) (seq : BitVec 4) (atype : BitVec 4)
  /-- `NAK_RECEIVE` (R118). A NAK causes retry, wait or a final command error by its reason. -/
  | nakReceive (lane : Lane) (seq : BitVec 4) (atype : BitVec 4) (reason : Byte)
  /-- `LOOP_RECEIVE` (R474). A LOOP message is returned or measured for test and asymmetry checks. -/
  | loopReceive (lane : Lane) (idx : BitVec 4) (ret : Bool) (pattern : BitVec 31)
  /-- `MARK_RECEIVE` (R168). The field side accepts a mark for evaluation, or NAKs it before the crystal hand-over or for a disabled reference. -/
  | markReceive (seq : BitVec 4) (w0 w1 w2 w3 w4 : Word)
  /-- `REGRD_RECEIVE` (R37). The field side answers a register read with REGDAT, holding it during housekeeping. -/
  | regrdReceive (seq : BitVec 4) (line : BitVec 2) (addr : BitVec 16) (housekeeping : Bool)
  /-- `REGWR_RECEIVE` (R37). The field side takes a register write for commit, holding it during housekeeping. -/
  | regwrReceive (seq : BitVec 4) (line : BitVec 2) (addr : BitVec 16) (value : Word) (housekeeping : Bool)
  /-- `CMDX_RECEIVE` (R115). The field side accepts a field command for execution in the next frame's foreground. -/
  | cmdxReceive (seq : BitVec 4) (w0 : Word) (cmd : FieldCmd)
  /-- `JREQ_RECEIVE` (R107). The field side takes a request for journal or ring slots for an export or verify job. -/
  | jreqReceive (seq : BitVec 4) (w0 w1 : Word)
  /-- `PWRQ_RECEIVE` (R71). The field side answers PWRQ with PWRA. -/
  | pwrqReceive (seq : BitVec 4) (w0 : Word)
  /-- `MESSAGE_CRC_FAIL` (R104). A message failing its CRC is discarded, counted and not answered. -/
  | messageCrcFail (lane : Lane)
  /-- `RESERVED_TYPE_RECEIVE` (R105). A message with a reserved type code is discarded and answered with NAK 0x01. -/
  | reservedTypeReceive (lane : Lane) (code seq : BitVec 4)
  /-- `TRANSACTION_WORD_LATE` (R110). A transaction word that fails or starts late discards the transaction with NAK 0x02. -/
  | transactionWordLate (lane : Lane) (atype seq : BitVec 4)
  /-- `ANSWER_TIMEOUT` (R116). With no answer within 20 µs the sender retries the transaction, at most 3 times. -/
  | answerTimeout (side : Side)
  /-- `HOLD_WAIT_TIMEOUT` (R117). After NAK 0x03 a wait of 1 ms with no answer counts as one retry. -/
  | holdWaitTimeout (side : Side)
  /-- `FIELD_STREAM_RESEND` (R120). A field-stream transaction that exhausted its retries is sent again after the next TICK. -/
  | fieldStreamResend
  /-- `RSPX_TIMEOUT` (R581). A field command with no RSPX within 16 frames or exhausted retries returns ERR 61. -/
  | rspxTimeout
  /-- `HOST_START` (R156). The host side starts on VHOST valid or NRST rising, with nothing kept from before. -/
  | hostStart (vhost3V : Bool)
  /-- `NRST_LOW` (R157). NRST held low for at least 1 µs holds the host side in reset. -/
  | nrstLow (ns : Nat)
  /-- `BANNER` (R178). The host side sends the banner once per host start within 250 ms. -/
  | banner
  /-- `UART_BYTE_RECEIVE` (R535). A received byte is added to the line, edited or echoed, or marks the line bad. -/
  | uartByteReceive (b : Byte) (framingError : Bool)
  /-- `LINE_RECEIVE` (R552). At a terminator the line is checked for length, characters, tag, check code, cache and parse. -/
  | lineReceive (terminator : Byte) (late : Bool)
  /-- `HOST_FRAME_BOUNDARY` (R53). At each host frame boundary up to 4 eligible lines execute in arrival order; `full`: the work of
  the host frame does not fit in it (02_frame.md section 6). -/
  | hostFrameBoundary (full : Bool)
  /-- `BREAK` (R575). RXD low for 2 frames discards the partial line and resets the parser. -/
  | uartBreak
  /-- `LINE_STUCK` (R576). RXD low for 64 frames sets LINE_STUCK, disables the receiver and asserts ATTN. -/
  | lineStuck
  /-- `RECEIVER_REENABLE` (R577). RXD high for 16 frames after LINE_STUCK enables the receiver again. -/
  | receiverReenable
  /-- `UART_IDLE_OFF` (R91). The UART domain turns off 64 frames after the last UART activity in the listen state. -/
  | uartIdleOff
  /-- `BAUD_SWITCH` (R531). Both directions change to the new rate within 10 µs after the response terminator. -/
  | baudSwitch
  /-- `BAUD_REVERT` (R532). With no valid line within 640 frames of a rate change, the previous rate returns. -/
  | baudRevert
  /-- `OVERLAY_MERGE` (R698). After the first LINK the host side reads and merges the overlay into the Layout Table or refuses it. -/
  | overlayMerge (s2Ok s3Ok : Bool)
  /-- `PON_POLARITY_READ` (R729). Within 1 frame after LINK sets the host side reads PON_CFG to hold the PON_H polarity. -/
  | ponPolarityRead
  /-- `PPS_EDGE` (R380). A PPS_IN rising edge held 100 ns is stamped by the host TDC while stamping is enabled and the host is awake. -/
  | ppsEdge (offset : Nat) (highNs : Nat)
  /-- `RF_TRANSITION_DONE` (R648). The radio reaches a requested state after its intermediate states. -/
  | rfTransitionDone (lockUs : Byte)
  /-- `RF_SFD_DETECT` (R669). In RX the radio detects the SFD and stamps it. -/
  | rfSfdDetect (offset : Nat)
  /-- `RF_PACKET_END` (R667). After a packet's last symbol the radio admits it to the RX queue or discards it. -/
  | rfPacketEnd (p : RxFrame)
  /-- `RF_SERVICE_SLICE` (R655). A radio service slice moves packets between buffer banks and queues. -/
  | rfServiceSlice (htemp : Byte) (vpaMv : Nat)
  /-- `CX_GRANT_SAMPLE` (R673). CX_GRANT is sampled LEAD µs after a coexistence request. -/
  | cxGrantSample (level : Bool) (htemp : Byte) (vpaMv : Nat)
  /-- `CX_GRANT_RISE` (R674). A grant rise in TXWAIT starts the transition into TX. -/
  | cxGrantRise (htemp : Byte) (vpaMv : Nat)
  /-- `CX_GRANT_FALL` (R676). A grant withdrawn during TX aborts the packet, or with LISTEN 0 suspends reception. -/
  | cxGrantFall
  /-- `CX_TIMEOUT` (R675). No grant within TIMEOUT ends the transmission TX_DENIED. -/
  | cxTimeout
  /-- `RF_TX_END` (R658). After the last symbol the PA ramps down and the radio returns to its prior state with result SENT. -/
  | rfTxEnd (offset : Nat) (errTenthDb : Int)
  /-- `SYNTH_UNLOCK` (R652). Loss of synthesiser lock aborts TX, drops RX and reruns the band search. -/
  | synthUnlock (lockUs : Byte)
  /-- `RF_CAL_SLICE` (R476). A 200 µs radio IQ or PA detector calibration slice runs in IDLE, STBY or quiet RX. -/
  | rfCalSlice (item : CalItem) (run : Int) (second : Bool)
  /-- `STAGED_WRITE` (R562). A write to an ST register fills the group's staging at the first write and stores the value. -/
  | stagedWrite (addr : BitVec 16) (value : Word)
  /-- `TSET_GO` (R221). A write of GO validates the TSET staging and schedules the apply or refuses it. -/
  | tsetGo
  /-- `AL_APPLY` (R316). A write of APPLY to ALn_CTL validates and applies the alarm group. -/
  | alApply (n : Fin 2)
  /-- `PERB_APPLY` (R349). A write of PERB_APPLY applies LOCAL and PER_CFG. -/
  | perbApply
  /-- `PRB_APPLY` (R383). A write of APPLY to T_CFGn validates and applies the probe set. -/
  | prbApply (n : Fin 4)
  /-- `RFCH_APPLY` (R646). A write of APPLY to RF_CH applies the channel. -/
  | rfchApply
  /-- `RFPHY_APPLY` (R640). A write of APPLY to RF_PHY validates and applies the PHY settings. -/
  | rfphyApply
  /-- `RFPA_APPLY` (R659). A write of APPLY to RF_PA applies the power entry and compensation from the next packet. -/
  | rfpaApply
  /-- `KEEP_BYTE_WRITE` (R335). A write to a KEEP byte stores it and clears its PERR. -/
  | keepByteWrite (n : Fin 64) (b : Byte)
  /-- `REGISTER_WRITE` (R612). The W command writes a register under its access code, for registers with no row of their own. -/
  | registerWrite (addr : BitVec 16) (value : Word)
  /-- `REGISTER_READ` (R611). The R command reads one or more registers. -/
  | registerRead (addr : BitVec 16) (n : Nat)
  /-- `ID_QUERY` (R586). ID? returns part name, revision, serial and table version. -/
  | idQuery
  /-- `MODE` (R541). MODE, or a write of MMODE, selects human or machine mode and clears the tag cache. -/
  | mode (m : UMode)
  /-- `MODE_QUERY` (R541). MODE? returns the current mode. -/
  | modeQuery
  /-- `UART_BAUD` (R531). UART.BAUD, or a write of UART_BAUD, sets a new baud rate after the response. -/
  | uartBaud (b : Nat)
  /-- `UART_BAUD_QUERY` (R583). UART.BAUD? returns the set rate. -/
  | uartBaudQuery
  /-- `RESET_HOST` (R587). RESET HOST restarts the host side after the line's response. -/
  | resetHost
  /-- `ST_QUERY` (R613). ST? returns the status word as at the line's boundary. -/
  | stQuery
  /-- `ST_CLR` (R588). ST.CLR, or a write of ST_CLR, clears W1C status bits, field bits at the commit boundary. -/
  | stClr (m : Word)
  /-- `JOB_QUERY` (R589). JOB? returns the state of one or all job slots. -/
  | jobQuery (n : Option Nat)
  /-- `JOB_PART_QUERY` (R590). JOB.PART? returns a range of final part lines of a job. -/
  | jobPartQuery (n offset count : Nat)
  /-- `JOB_CANCEL` (R591). JOB.CANCEL cancels a queued or running job as its kind allows. -/
  | jobCancel (n : Nat)
  /-- `TEST` (R514). TEST requests a self-test job that runs every slice once in slack. -/
  | test
  /-- `TEST_FORCE` (R516). TEST FORCE requests a forced self-test job that runs slices in the foreground. -/
  | testForce
  /-- `TEST_QUERY` (R510). TEST? returns rotation progress and failures of both sides. -/
  | testQuery
  /-- `TEL_QUERY` (R524). TEL? returns the items of a telemetry group. -/
  | telQuery (g : Option TelGroup)
  /-- `TEL_CLR` (R525). TEL.CLR clears the clearable items of a telemetry group. -/
  | telClr (g : Option TelGroup)
  /-- `TIME_QUERY` (R213). TIME? returns civil time, frame, day of week and epoch from the line's snapshot. -/
  | timeQuery
  /-- `TIME` (R227). TIME writes the seven staged TSET fields and sets GO in one line. -/
  | time (year month date hour min sec : Nat)
  /-- `STAMP_QUERY` (R214). STAMP? returns the stamp from the line's snapshot. -/
  | stampQuery
  /-- `LOCAL` (R228). LOCAL stages the local offset in group PERB. -/
  | localOfs (n : Int)
  /-- `LOCAL_QUERY` (R583). LOCAL? returns the committed local offset. -/
  | localQuery
  /-- `TMARK` (R237). TMARK labels a PPS or SFD stamp and sends it to the field side as a MARK. -/
  | tmark (a : TmarkArg)
  /-- `PPS` (R593). PPS, or a write of STAMP in PPS_CTL, enables or disables PPS_IN stamping. -/
  | pps (en : Nat)
  /-- `PPS_QUERY` (R593). PPS? returns the stored PPS stamps with flags. -/
  | ppsQuery
  /-- `REF_QUERY` (R594). REF? returns the reference selection, states and discipline figures. -/
  | refQuery
  /-- `REF_SET` (R280). REF.SET writes one reference configuration field. -/
  | refSet (key : Option RefKey) (value : Nat)
  /-- `REF_SET_QUERY` (R583). REF.SET? returns one committed reference configuration value. -/
  | refSetQuery (key : Option RefKey)
  /-- `RATE_QUERY` (R595). RATE? returns die temperature, mode, rate terms and learning counts. -/
  | rateQuery
  /-- `TRIM` (R303). TRIM sets TRIM_N and TRIM_W. -/
  | trim (n : Int) (w : Nat)
  /-- `TRIM_QUERY` (R583). TRIM? returns the committed TRIM values. -/
  | trimQuery
  /-- `RATE_EN` (R293). RATE.EN sets COMP_EN and LRN_EN. -/
  | rateEn (comp learn : Nat)
  /-- `RATE_EN_QUERY` (R583). RATE.EN? returns COMP_EN and LRN_EN. -/
  | rateEnQuery
  /-- `AL` (R596). AL stages an alarm's compare fields, masks, actions and enable, or disables it with OFF. -/
  | al (a : AlArg)
  /-- `AL_QUERY` (R597). AL? returns an alarm's committed set, firing count and last flags. -/
  | alQuery (n : Nat)
  /-- `PER_EVT` (R323). PER.EVT sets the enabled periodic events and their actions. -/
  | perEvt (events : BitVec 4) (acts : BitVec 5)
  /-- `TICKER` (R325). TICKER sets the ticker interval and actions, or stops it. -/
  | ticker (a : TickerArg)
  /-- `PON` (R329). PON sets a wake output's mode, length and polarity. -/
  | pon (o : WakeOut) (pulse : Bool) (len : Option Nat) (high : Option Bool)
  /-- `PON_REL` (R329). PON.REL, or a write of 1 to PON_STAT, releases a driven wake output. -/
  | ponRel (o : WakeOut)
  /-- `PON_QUERY` (R583). PON? returns wake output configuration and drive state. -/
  | ponQuery
  /-- `PER_CFG` (R349). PER.CFG stages DAY_EN and EVIN in group PERB. -/
  | perCfg (day evin : Nat)
  /-- `PER_TH` (R340). PER.TH sets a channel's period thresholds. -/
  | perTh (n : Nat) (hi lo : Int)
  /-- `PER_QUERY` (R598). PER? returns the accumulators of the open DAY or TRIP instance. -/
  | perQuery (set : PerSet) (a : PerArg)
  /-- `TRIP_OPEN` (R346). TRIP.OPEN opens the TRIP set under an id. -/
  | tripOpen (id : Word)
  /-- `TRIP_CLOSE` (R346). TRIP.CLOSE closes the TRIP set and stages its PERIOD records. -/
  | tripClose
  /-- `KEEP` (R599). KEEP writes KEEP bytes and clears their PERR. -/
  | keep (n : Nat) (bytes : List Byte)
  /-- `KEEP_QUERY` (R599). KEEP? returns KEEP bytes and their parity mask. -/
  | keepQuery (n c : Nat)
  /-- `KEEP_SAVE` (R600). KEEP.SAVE copies the KEEP bytes to system blocks S10 and S11. -/
  | keepSave
  /-- `KEEP_LOAD` (R600). KEEP.LOAD restores the KEEP bytes from the newest valid mirror copy. -/
  | keepLoad
  /-- `EV_CFG` (R353). EV.CFG enables an event input with its edge, filter and journal setting. -/
  | evCfg (i : Nat) (edge filt jrn : Nat)
  /-- `EV_CFG_QUERY` (R583). EV.CFG? returns an input's committed configuration. -/
  | evCfgQuery (i : Nat)
  /-- `EV_OFF` (R355). EV.OFF disables an event input. -/
  | evOff (i : Nat)
  /-- `EV_QUERY` (R374). EV? returns up to n queued event entries. -/
  | evQuery (n : Nat)
  /-- `T_CFG` (R383). T.CFG stages a channel's probe type and excitation in group PRBn. -/
  | tCfg (n type exc : Nat)
  /-- `T_PLAN` (R389). T.PLAN sets a channel's sample period or disables it. -/
  | tPlan (n : Nat) (k : Option Nat)
  /-- `T_OFS` (R410). T.OFS sets a channel's temperature offset. -/
  | tOfs (n : Nat) (milli : Int)
  /-- `T_LEAD` (R410). T.LEAD sets a channel's loop lead resistance. -/
  | tLead (n : Nat) (mohm : Nat)
  /-- `T_QUERY` (R405). T? returns a channel's latest result. -/
  | tQuery (n : Nat)
  /-- `T_SNAP` (R601). T.SNAP requests one SNAP conversion of every typed channel. -/
  | tSnap
  /-- `J_QUERY` (R602). J? returns the journal policy, use and block pointers. -/
  | jQuery
  /-- `J_POLICY` (R437). J.POLICY selects HOLD or WRAP. -/
  | jPolicy (wrap : Bool)
  /-- `NOTE` (R19). NOTE stages a NOTE record with host text. -/
  | note (t : Text)
  /-- `J_EXPORT` (R430). J.EXPORT starts an export job over a range of blocks and the ring. -/
  | jExport (range : Option (Nat × Nat))
  /-- `J_VERIFY` (R436). J.VERIFY starts a job that recomputes the seal chain over a range. -/
  | jVerify (range : Option (Nat × Nat))
  /-- `J_ERASE` (R439). J.ERASE starts a job that erases exported blocks. -/
  | jErase
  /-- `SEAL_KEY` (R426). SEAL.KEY supplies one 8-byte part of the seal key, storing the key when all four are held. -/
  | sealKey (p : Nat) (t : Text)
  /-- `SEAL_QUERY` (R604). SEAL? returns key state, parts held and the key check value. -/
  | sealQuery
  /-- `CAL_RUN` (R481). CAL.RUN requests a calibration as a job. -/
  | calRun (item : Option CalItem) (index : Option Nat)
  /-- `CAL_QUERY` (R605). CAL? returns calibration activity and store state. -/
  | calQuery
  /-- `CAL_SAVE_QUERY` (R493). CAL.SAVE? returns the working-set image as 34 lines. -/
  | calSaveQuery
  /-- `CAL_LOAD` (R494). CAL.LOAD places one line of an image in the load buffer. -/
  | calLoad (line : Nat) (bytes : List Byte)
  /-- `CAL_LOAD_GO` (R495). CAL.LOAD GO validates the load buffer and replaces the working set. -/
  | calLoadGo
  /-- `CAL_COMMIT` (R498). CAL.COMMIT requests a store of the working set. -/
  | calCommit
  /-- `SUP_QUERY` (R606). SUP? returns the committed source, qualification and counts. -/
  | supQuery
  /-- `SUP_VSW` (R69). SUP.VSW sets VSW_TH, and thresholds are re-evaluated at the commit. -/
  | supVsw (deciV : Nat)
  /-- `SUP_BATLOW` (R87). SUP.BATLOW sets BATLOW_TH. -/
  | supBatlow (deciV : Nat)
  /-- `BAT_PLAN` (R84). BAT.PLAN sets the coin-cell plan channels and period, or turns it on or off. -/
  | batPlan (a : BatPlanArg)
  /-- `RF_QUERY` (R607). RF? returns radio state, frequency, power index and queue state. -/
  | rfQuery
  /-- `RF_STATE` (R648). RF.STATE moves the radio to a new state. -/
  | rfState (target : RfTarget)
  /-- `RF_CH` (R645). RF.CH stages the channel code in group RFCH. -/
  | rfCh (hz : Nat)
  /-- `RF_MODE` (R639). RF.MODE stages the modulation settings in group RFPHY. -/
  | rfMode (fsk rate : Nat) (hOne bt : Bool) (fec : Nat)
  /-- `RF_FRAME` (R639). RF.FRAME stages preamble, SFD and whitening in group RFPHY. -/
  | rfFrame (preamble : Nat) (coded whiten : Bool)
  /-- `RF_PWR` (R663). RF.PWR stages the power entry and compensation in group RFPA. -/
  | rfPwr (idx comp : Nat)
  /-- `RF_CX` (R680). RF.CX sets the coexistence parameters and enables coexistence. -/
  | rfCx (lead pri listen timeout : Nat)
  /-- `RF_TX` (R654). RF.TX queues one PSDU for transmission and returns its transmit id. -/
  | rfTx (psdu : List Byte)
  /-- `RFTX_QUERY` (R662). RFTX? returns a transmission's result and stamp. -/
  | rftxQuery (n : Nat)
  /-- `RF_BUF` (R608). RF.BUF writes octets into the host transmit buffer. -/
  | rfBuf (offset : Nat) (bytes : List Byte)
  /-- `RF_TXJ` (R655). RF.TXJ starts an RFTX job sending the buffer as one PSDU. -/
  | rfTxj (len : Nat)
  /-- `RFQ_QUERY` (R609). RFQ? returns the oldest received packet without removing it. -/
  | rfqQuery
  /-- `RFQ_POP` (R609). RFQ.POP removes the oldest received packet. -/
  | rfqPop (id : Nat)
  /-- `DESC_QUERY` (R610). DESC? returns raw bytes of the merged Layout Table. -/
  | descQuery (offset len : Nat)
  /-- `DESC_LIST_QUERY` (R701). DESC.LIST? returns the table header and entries in text form. -/
  | descListQuery (type : Option Nat)
  /-- `DESC_DUMP` (R182). DESC.DUMP starts a job that delivers the whole table. -/
  | descDump
  /-- `STANDBY_SOURCE_FALL` (R56). A field source that is not selected, such as ISO or VBAT while VFLD runs the part, falls below its fall threshold and loses its validity and qualification. -/
  | standbySourceFall (src : Source)
  /-- `VHOST_RISE` (R16). VHOST rises through 3.0 V while the host side is already running, so the host side starts offering isolated power and sends PWRQ. -/
  | vhostRise
  /-- `HOST_POWER_OFF` (R22). VHOST or VIO falls below validity, so the host side goes off, PON_H and ATTN become undriven and the host state is lost. -/
  | hostPowerOff
  /-- `FIELD_COMMAND_SLICE` (R582). A priority-3 foreground slice executes a field command received in an earlier frame and sends its RSPX. -/
  | fieldCommandSlice
  /-- `HOST_JOB_SLICE` (R630). A host job slice advances a host-side job such as the Layout Table dump or the host part of an export. -/
  | hostJobSlice
  /-- `ERASE_JOB_SLICE` (R439). A field slice erases the next exported data block for an erase job, storing the anchor seal and staging the WEAR record. -/
  | eraseJobSlice
  /-- `KEEP_SAVE_SLICE` (R600). Background slices write the KEEP mirror copies to S10 and then S11, ending the pending save. -/
  | keepSaveSlice
  /-- `BREAK_END` (R575). RXD goes high again after a break, and in human mode the prompt is sent. -/
  | breakEnd
  /-- `RESPONSE_SENT` (R560). The last character of a line's response leaves TXD, after which the next response starts, a new MODE takes effect and a queue-full line is answered. -/
  | responseSent
  deriving DecidableEq, Repr

end Sys2Proof
end

