-- ==== Sys2Proof/Decode.lean ====
section
/-! DEFINITION. Sys2Proof/Decode.lean: the block takes commands and has no instruction words. spec/opcode_table.json
gives no bits for any of its rows, so no word spells a command (DESIGN CHOICE, unsafe: notes/assumptions/2.md). -/

namespace Sys2Proof

/-- The command that a word of the table's bits spells: none, since no row of the table gives bits. -/
def decodeTableWord (_nbits _w : Nat) : Option Instr := none

end Sys2Proof
end

