-- ==== Sys2Proof/Config.lean ====
section
/-! DEFINITION. Sys2Proof/Config.lean: what one part fixes and the spec leaves open (free values: constants without a
body, so that no proof can see them), and the figures the spec names once. -/

namespace Sys2Proof.Config

/-- A value that the spec leaves open after a step, drawn with the side's counter `freeCtr`
(DESIGN CHOICE, safe: notes/assumptions/1.md). -/
opaque freeValue : Nat → BitVec 32

/-- The KEEP bytes whose parity fails at a warm start, drawn with the side's counter: a failure of the retained SRAM,
which no command brings about (R77, R335; DESIGN CHOICE, safe: notes/assumptions/17.md). -/
opaque keepParity : Nat → BitVec 64

/-- The `CODE` of `CMDX` and `RSPX` for a field command, numbered by the kind of the command: the codes stand only in
the Layout Table (04_barrier.md Table 4-6), whose type 11 entries the spec does not list (DESIGN CHOICE, safe: notes/assumptions/12.md). -/
opaque cmdxCode : Nat → Byte

/-- The argument words of a `CMDX`, whose layout stands in no file of the spec (Table 4-6; DESIGN CHOICE, safe:
notes/assumptions/12.md). -/
opaque cmdxArgs : FieldCmd → List Word

/-- The address to which a `REGWR` carries the field half of `ST.CLR`: R588 names the transfer, and the register map no register for
it (DESIGN CHOICE, safe: notes/assumptions/91.md). -/
opaque stClrAddr : BitVec 16

/-- The depth of the field command queue, which the spec does not give (Table 4-7, reason 0x17); the queue takes at least
one command (DESIGN CHOICE, safe: notes/assumptions/24.md). -/
opaque cmdQueueDepth : Nat

/-- The function inl() of R361: ring phases corrected by the INL entry of their phase code; the spec names it and does
not define it (10_event_capture.md R361, DESIGN CHOICE, safe: notes/assumptions/13.md). -/
opaque tdcInl : BitVec 16 → Nat → Nat

/-- The bytes of the served Layout Table from its type 5 entries on, under the overlay's limits by `LID`: ids, lengths and names of
most of those entries stand in no file of the spec (19_layout_table.md, DESIGN CHOICE, safe: notes/assumptions/14.md). -/
opaque tableByte : List (Nat × Word) → Nat → Byte

/-- The length in words and the entry count of the ROM base alone, and its CRC-32 (Table 19-2, DESIGN CHOICE, safe: notes/assumptions/14.md). -/
opaque romWords : BitVec 18
opaque romEntries : BitVec 16
opaque romCrc : Word

/-- The lines of `DESC.LIST?` for the entry types whose entries the spec does not list, by type, under the overlay's limits
(19_layout_table.md R702, DESIGN CHOICE, safe: notes/assumptions/14.md). -/
opaque descLines : Nat → List (Nat × Word) → List Text

/-- What a register or field entry of the table holds and no file of the spec states, by the kind of value, the register's address and
the field's low bit: kind 0 a field's reset value (fuses and nominal values), 1 `FFLAGS` bits 2 and 3, 2 `FID`, 3 and 4 the minimum
and maximum (Table 19-5, DESIGN CHOICE, safe: notes/assumptions/14.md). -/
opaque tableOpen : Nat → Nat → Nat → Word

/-- Names of the entries of types 5, 7 and 8 by type and key, and the idle state of a domain that Table 3-8 does not settle, by side and
index (Table 19-5, DESIGN CHOICE, safe: notes/assumptions/14.md). -/
opaque tableName : Nat → Nat → Nat → Text
opaque domainIdle : Nat → Nat → Fin 4

/-- The radio domains H21-H50 that are ON in a radio state, by the state's code; the spec names their groups and not their
numbers (18_radio.md Table 18-3, DESIGN CHOICE, safe: notes/assumptions/27.md). -/
opaque rfDomains : Nat → BitVec 56

/-- The host domains H02-H11 and H54-H55 that are ON while the host side is awake or listens; the spec does not say
(01_two_sides.md Table 1-2, DESIGN CHOICE, safe: notes/assumptions/27.md). -/
opaque hostDomains : Bool → BitVec 56

/-- The SRAM banks F43-F50, bit n for F(43+n), that a kind of work accesses: 0 the staging area, 1 the event queue, 2 the
reserve ring; the spec names the banks and not what lies in them (01_two_sides.md Table 1-1, Table 3-8; DESIGN CHOICE, safe:
notes/assumptions/81.md). -/
opaque sramBanks : Nat → BitVec 8

/-- What a rebuild of the wear map puts in place of what stood in its logs only (R422): a cycle count by physical block; and, from
bit 0, `EXP_BSN`, whether there is one, `ESN`, the anchor seal and the retired count (DESIGN CHOICE, safe: notes/assumptions/87.md). -/
opaque rebuiltCycle : Nat → Nat → BitVec 18
opaque rebuilt : Nat → BitVec 337

/-- The dead time of the PPS_IN stamp in 2^-32 s, at most 2.0 µs (R380). -/
opaque ppsDead : Fin 8591

/-- The seconds of the 400-year Gregorian cycle C (R192). -/
def cycleSec : Nat := 12622780800

/-- One frame in units of 2^-32 s (R25). -/
def frameUnits : Nat := 2 ^ 26

/-- One second in units of 2^-32 s. -/
def secUnits : Nat := 2 ^ 32

/-- The staging area: 8 KiB of slots of 32 bytes (12_journal.md section 3). -/
def stagingSlots : Nat := 256

/-- The depth of the event queue (R372). -/
def eventQueueDepth : Nat := 256

/-- The reserve ring (R450). -/
def ringSlots : Nat := 256

/-- The data blocks and spares of the NVM (Table 12-1). -/
def dataBlocks : Nat := 944
def spareBlocks : Nat := 64

/-- The text buffer, in lines waiting (R553). -/
def lineQueueDepth : Nat := 8

/-- The tag cache (R547). -/
def tagCacheDepth : Nat := 32

end Sys2Proof.Config
end

