-- ==== Sys2Proof/Machine/Bits.lean ====
section
/-! DEFINITION. Sys2Proof/Machine/Bits.lean: bit fields, saturating counters, little-endian bytes and the texts of
numbers, used by every family (00_scope.md section 5; R8: least significant byte first). -/

namespace Sys2Proof.Machine

/-- Bits [lo+len-1:lo] of a register, as a number. -/
def fieldOf (w : Word) (lo len : Nat) : Nat := (w.toNat >>> lo) % 2 ^ len

/-- `w` with bits [lo+len-1:lo] replaced by `v`. -/
def withField (w : Word) (lo len v : Nat) : Word :=
  let m : Word := BitVec.ofNat 32 ((2 ^ len - 1) <<< lo)
  (w &&& ~~~m) ||| (BitVec.ofNat 32 ((v % 2 ^ len) <<< lo))

/-- Bit `i` of a register. -/
def bitOf (w : Word) (i : Nat) : Bool := w.getLsbD i

/-- `w` with bit `i` set to `b`. -/
def withBit (w : Word) (i : Nat) (b : Bool) : Word := withField w i 1 b.toNat

/-- A counter that saturates at its largest value (R152, R164 and every counter the spec calls saturating). -/
def satAdd {n : Nat} (c : BitVec n) (k : Nat) : BitVec n := BitVec.ofNat n (min (c.toNat + k) (2 ^ n - 1))

/-- A signed value in `n` bits as an integer. -/
def signed {n : Nat} (w : BitVec n) : Int := w.toInt

/-- Bytes of a number, least significant first (R8). -/
def bytesLE : Nat → Nat → List Byte
  | 0, _ => []
  | k + 1, v => BitVec.ofNat 8 v :: bytesLE k (v / 256)

/-- The number that bytes spell, least significant first (R8). -/
def natOfLE : List Byte → Nat
  | [] => 0
  | b :: bs => b.toNat + 256 * natOfLE bs

/-- The number that bytes spell, most significant first. -/
def natOfBE (bs : List Byte) : Nat := bs.foldl (fun a b => a * 256 + b.toNat) 0

/-- `n` bytes of a number, most significant first. -/
def bytesBE (k v : Nat) : List Byte := (bytesLE k v).reverse

/-- A decimal digit as two-digit BCD (00_scope.md: BCD fields). -/
def toBcd (n : Nat) : Byte := BitVec.ofNat 8 ((n / 10 % 10) * 16 + n % 10)

/-- The number that a BCD byte shows. -/
def ofBcd (b : Byte) : Nat := b.toNat / 16 * 10 + b.toNat % 16

/-- Both nibbles of a byte are decimal digits. -/
def isBcd (b : Byte) : Bool := b.toNat / 16 ≤ 9 && b.toNat % 16 ≤ 9

/-- The hexadecimal digit of a value below 16, uppercase. -/
def hexDigit (n : Nat) : Char :=
  if n < 10 then Char.ofNat (48 + n) else Char.ofNat (55 + n)

/-- `k` uppercase hexadecimal digits of `v` (15_command_line.md: results show hex in uppercase). -/
def hexText : Nat → Nat → Text
  | 0, _ => []
  | k + 1, v => hexText k (v / 16) ++ [hexDigit (v % 16)]

/-- The decimal digits of `v`, by fuel: `k` digits at most. -/
def decDigits : Nat → Nat → Text
  | 0, _ => []
  | k + 1, v => if v < 10 then [Char.ofNat (48 + v)] else decDigits k (v / 10) ++ [Char.ofNat (48 + v % 10)]

/-- A number in decimal without leading zeros. -/
def decText (v : Nat) : Text := decDigits 40 v

/-- A number in decimal with `k` digits. -/
def decPad : Nat → Nat → Text
  | 0, _ => []
  | k + 1, v => decPad k (v / 10) ++ [Char.ofNat (48 + v % 10)]

/-- A signed number in decimal, with a sign only when negative. -/
def intText (v : Int) : Text := if v < 0 then '-' :: decText v.natAbs else decText v.natAbs

/-- Hex text of bytes in order. -/
def hexBytes (bs : List Byte) : Text := (bs.map fun b => hexText 2 b.toNat).flatten

/-- Texts joined by commas. -/
def commas : List Text → Text
  | [] => []
  | [t] => t
  | t :: ts => t ++ (',' :: commas ts)

/-- The characters of a literal. -/
def txt (s : String) : Text := s.toList

/-- Element `i` of a list replaced. -/
def setAt {α : Type} : List α → Nat → α → List α
  | [], _, _ => []
  | _ :: xs, 0, a => a :: xs
  | x :: xs, n + 1, a => x :: setAt xs n a

/-- The nearest integer to `a / b` (b > 0), ties away from zero. -/
def roundDiv (a : Int) (b : Nat) : Int :=
  if 0 ≤ a then (a + b / 2) / b else -((-a + b / 2) / b)

end Sys2Proof.Machine
end

