-- ==== Sys2Proof/Machine/FieldState.lean ====
section
/-! DEFINITION. Sys2Proof/Machine/FieldState.lean: the field side's state, part by part in the order of the chapters.
Reset values stand in Machine/State.lean. -/

namespace Sys2Proof.Machine

/-! ### Records and the journal (12_journal.md) -/

/-- One NVM slot of 32 bytes, byte 0 in the low bits (R412; R8). -/
abbrev Slot := BitVec 256

/-- A staged record: its first slot, its further slots (R415), and the frame number in which it was staged (R44). -/
structure Rec where
  first : Slot
  more : List Slot
  frame : Nat
  deriving DecidableEq, Repr

/-- A present data block: its number, its place, its programmed slots by rising index (R412); it is closed when slot
127 is programmed (R420). -/
structure Blk where
  bsn : Word
  phys : Nat
  slots : List (Nat × Slot)
  deriving DecidableEq, Repr

/-- An export or verify job as the field side serves it (R430 to R436). -/
structure JrnJob where
  verify : Bool
  /-- the first and last block; for a ring-only export the first is one above the last -/
  first : Word
  last : Word
  esn : Word
  start : Stamp
  anchor : Slot
  /-- the ring slots covered, oldest first, and how many of them the ring has given up since -/
  ring : List Slot
  ringLost : Nat
  uncorr : Nat
  /-- the slots of the block that a verify job is reading, so far read (R436) -/
  seen : List Slot
  deriving DecidableEq, Repr

/-- The journal (Tables 12-1 and 12-11, R411 to R452). -/
structure Jrn where
  policy : Bool
  staging : List Rec
  /-- records refused for want of staging, and the stamp of the first (R162, R379) -/
  refused : Nat
  refusedFirst : Stamp
  blocks : List Blk
  nextBsn : Word
  anchor : Slot
  expBsn : Option Word
  esn : Word
  erased : List Nat
  spares : List Nat
  /-- cycle counts by physical block, rising, no zero entry -/
  cycles : List (Nat × Nat)
  retired : BitVec 16
  spareLow : Bool
  roFull : Bool
  roWorn : Bool
  ring : List Slot
  ringOvw : BitVec 16
  /-- overwritten ring slots not yet reported, and the stamp of the first (R451) -/
  ovwPend : Nat
  ovwFirst : Stamp
  cbpk : BitVec 16
  /-- bits corrected in the current scrub pass, the slice it runs next (R443), and the stamp seconds of the last
  complete one -/
  passBits : Nat
  scrubPos : Nat
  scrubDone : Nat
  /-- stamp seconds from which the next scrub pass may begin (R443) -/
  scrubNext : Nat
  uncorr : BitVec 16
  /-- parts of the seal key held (R426) -/
  keyParts : List (Nat × List Byte)
  key : Option (List Byte)
  /-- both key copies failed at mount (R429) -/
  keyBad : Bool
  kcv : BitVec 16
  /-- the block whose program was stopped and which the next flush relocates (R424) -/
  abandoned : Option Word
  /-- an urgent flush was asked for before the mount, which then seals (R80, R98) -/
  urgentDue : Bool
  job : Option JrnJob
  eraseJob : Bool
  /-- the KEEP mirror copies S10 and S11 (R600), each the 64 bytes with a serial, and the save under way -/
  mirrorA : Option (Nat × List Byte)
  mirrorB : Option (Nat × List Byte)
  mirrorSave : Option (List Byte × Nat)
  /-- the system blocks abandoned (R452) -/
  sysBad : List Nat
  /-- the system blocks that a spare has replaced, with its physical block (R444) -/
  sysMap : List (Nat × Nat)
  deriving DecidableEq, Repr

/-! ### The clock (06_timescales.md) -/

/-- A step of civil time (09_alarms_periods.md section 2): the boundary, civil time without and with it in 2^-32 s (not reduced), and
whether it cleared `TIME_INVALID` (R321). -/
structure StepSpan where
  stamp : Stamp
  old : Int
  new : Int
  cleared : Bool
  /-- the offset change is positive -/
  fwd : Bool
  deriving DecidableEq, Repr

/-- The stamp, the epoch offset and what goes with them (Tables 6-1 and 6-3). -/
structure Clk where
  /-- the stamp at the boundary tick of the current frame (R195) -/
  stamp : Stamp
  phase : Word
  /-- the per-tick increment in units of 2^-64 s (R193) -/
  incr : Nat
  frameLen : Nat
  /-- frames since the cold start, and ticks at the current boundary -/
  fno : Nat
  ticks : Nat
  /-- the epoch offset in frames, two's complement: EOFS seconds above EOFS_FR (Table 6-1) -/
  eofs : BitVec 54
  epn : BitVec 16
  ecause : Byte
  calWrap : Bool
  /-- housekeeping item 1 of the coming boundary has been done (DESIGN CHOICE, unsafe: notes/assumptions/16.md) -/
  item1 : Bool
  /-- the offsets left in the last 4096 frames with the stamps at which they were left, newest first -/
  past : List (Stamp × BitVec 54 × BitVec 16)
  /-- steps since the last frame-0 boundary: civil time before and after, in 2^-32 s (R318 to R320) -/
  steps : List StepSpan
  /-- the end of the civil span that a backward step re-enters (R320) -/
  repeatEnd : Option Int
  deriving DecidableEq, Repr

/-- The TSET staging (Table 6-4): SEC, MIN, HOUR, DOW, DATE, MONTH, YEAR, CENT. -/
structure Tset where
  fields : Vector Byte 8
  filled : Bool
  wmask : BitVec 8
  lastRej : Bool
  deriving DecidableEq, Repr

/-! ### Start (05_first_second.md) -/

/-- The kinds of field start (Table 5-1). -/
inductive StartKind where
  | cold | warm | watchdog
  deriving DecidableEq, Repr

/-- The start sequence and the tick source (05_first_second.md). -/
structure Start where
  alive : Bool
  holdUp : Bool
  por : Bool
  kind : StartKind
  /-- frames since start frame 0 (R160); the next boundary is start frame 0 of a warm start (Table 5-3) -/
  frames : Nat
  s0 : Bool
  /-- a watchdog restart takes place at the next boundary (R47) -/
  wdog : Bool
  rc : Bool
  xtalFail : Bool
  /-- frame numbers: since when the crystal oscillator has been running without a restart (R165), and of its next restart
  (R169) -/
  xtalFrom : Nat
  xtalNext : Nat
  restored : Bool
  calSource : Nat
  mounted : Bool
  /-- the cold-start count in the system blocks, and the one this start carries (R163) -/
  bootStored : BitVec 16
  bootn : BitVec 16
  heldMsg : Bool
  deriving DecidableEq, Repr

/-! ### Supplies (03_power_fabric.md) -/

/-- An interval without sampling (R97): cause, first stamp. -/
structure GapOpen where
  cause : Nat
  start : Stamp
  deriving DecidableEq, Repr

/-- The supply fabric (Tables 3-5 to 3-7). -/
structure Sup where
  cfg : Word
  sel : Source
  path : Source
  pend : Bool
  vfldOk : Bool
  isoOk : Bool
  vbatOk : Bool
  isoOffer : Bool
  batMeas : Bool
  vbatMv : BitVec 12
  swCommit : BitVec 16
  swCancel : BitVec 16
  cancelsSince : Nat
  gap : Option GapOpen
  /-- GAP records whose interval ended at a hold-up commit (R97): cause, start, end -/
  gapHeld : List (Nat × Stamp × Stamp)
  /-- the stamp of the hold-up commit -/
  holdAt : Stamp
  /-- frame numbers at which a loaded VBAT measurement falls due (R86) -/
  measAt : List Nat
  deriving DecidableEq, Repr

/-! ### Status and the foreground (02_frame.md, 17_status_jobs.md) -/

/-- The latched field status bits and the word last sent. -/
structure Stat where
  latched : Word
  sent : Word
  deriving DecidableEq, Repr

/-- The action set of a firing alarm, periodic event or ticker (R314, R323, R325). -/
structure Firing where
  /-- 1 AL1, 2 AL2, 3 periodic events, 4 ticker -/
  src : Nat
  acts : BitVec 5
  /-- bit 0 LATE, 1 REPEAT, 2 HELD, 3 DROPPED -/
  flags : BitVec 4
  second : Nat
  count : Nat
  stamp : Stamp
  epn : BitVec 16
  deriving DecidableEq, Repr

/-- What a foreground slice does (Table 2-4). -/
inductive ReqKind where
  | urgentFlush
  | completion (core : Nat)
  | command (seq : BitVec 4) (cmd : FieldCmd)
  | action (a : Firing)
  | period (recs : List (Slot × List Slot))
  | flush
  | journal (w0 w1 : Word)
  /-- a slice of a forced self-test job, by its place in the rotation (R516) -/
  | test (pos : Nat)
  deriving DecidableEq, Repr

/-- A foreground slice requested: priority, ticks, kind. -/
structure Req where
  prio : Nat
  len : Nat
  kind : ReqKind
  deriving DecidableEq, Repr

/-- The foreground plan (R39 to R44). -/
structure Sched where
  /-- the slices of this frame, in the order in which they run -/
  plan : List Req
  /-- the ticks the plan took -/
  used : Nat
  /-- the ticks of slack that test slices took in this frame (R48) -/
  slack : Nat
  /-- slices deferred from earlier frames, then new requests -/
  deferred : List Req
  arrived : List Req
  /-- how far this frame's background lane has come in the order of R35: 0 not begun, else the work last run -/
  lane : Nat
  ovr : BitVec 16
  wdog : BitVec 16
  deriving DecidableEq, Repr

/-! ### The barrier, field end (04_barrier.md) -/

/-- A sender's unanswered transaction (R111, R116, R117, R120). -/
structure Unans where
  txn : Txn
  retries : Nat
  hold : Bool
  /-- retries exhausted; sent again after the next TICK (R120) -/
  resend : Bool
  deriving DecidableEq, Repr

/-- A field-window write that waits for the commit boundary (R55). -/
inductive PendW where
  | reg (addr : Nat) (value : Word)
  | stClr (mask : Word)
  | alarm (n : Nat) (time date ctl : Word)
  | perb (localOfs : Byte) (cfg : Word)
  | prb (n : Nat) (cfg : Word)
  | tset (fields : Vector Byte 8)
  | calImage (bytes : List Byte)
  deriving DecidableEq, Repr

/-- The field end of the barrier. -/
structure FBar where
  linked : Bool
  /-- an ECHO with `TRAIN` = 1 has begun a training (Table 4-9) -/
  training : Bool
  sendTick : Bool
  echoMiss : Nat
  rtt : Option Nat
  dly : BitVec 14
  lastSeq : Option (BitVec 4)
  lastAns : Option Txn
  unans : Option Unans
  queue : List Txn
  nextSeq : BitVec 4
  /-- messages launched on the F→H lane and not yet delivered -/
  lane : List Txn
  /-- ticks from the present one, as far as the rows tell it, to the last one of the frame (R127) -/
  room : Nat
  /-- the `TICK` after the last retry has gone out (R120) -/
  resendDue : Bool
  crcHF : BitVec 16
  retryF : BitVec 16
  dupF : BitVec 16
  deriving DecidableEq, Repr

/-! ### References (07_references.md) -/

/-- A mark as it crossed in `MARK`: the stamp and the label in 2^-32 s. -/
structure Mark where
  src : RefSrc
  unl : Bool
  stamp : Stamp
  label : Nat
  deriving DecidableEq, Repr

/-- An evaluated mark: its stamp, its offset o (R240) and the discipline's corrections to civil time up to its stamp,
all in 2^-32 s. -/
structure OMark where
  stamp : Nat
  ofs : Int
  corr : Rat
  /-- what TSET applies had moved civil time by then, which is no correction of the discipline (R245, R259) -/
  set : Int
  label : Nat
  deriving DecidableEq, Repr

/-- A run of marks (R243): its first mark, its latest agreeing mark, the one before that, how many agree. -/
structure RefRun where
  first : OMark
  last : OMark
  prev : OMark
  count : Nat
  deriving DecidableEq, Repr

/-- The states of a reference (Table 7-1). -/
inductive RefSt where
  | idle | qualifying | qualified | lost
  deriving DecidableEq, Repr

/-- One reference. -/
structure Ref where
  st : RefSt
  run : Option RefRun
  lastEval : Option Nat
  missFrom : Nat
  misses : Nat
  lastGood : Option OMark
  prevGood : Option OMark
  /-- what its marks are predicted from after an adoption, until the next consistent mark (R761) -/
  basis : Option OMark
  lostAt : Nat
  deriving DecidableEq, Repr

/-- The selected reference (status bits [27:26]). -/
inductive Tref where
  | hold | radio | pps | none
  deriving DecidableEq, Repr

/-- A hand-over in progress (R270 to R275). -/
structure HandOver where
  left : Tref
  frames : Nat
  /-- d in 2^-32 s; what is left of it to blend; it is stepped at the 64th boundary instead -/
  d : Rat
  blend : Rat
  step : Bool
  deriving DecidableEq, Repr

/-- A change that takes effect at the next frame boundary (R239). -/
inductive Planned where
  /-- a jump run of the selected reference is adopted (R761) -/
  | adopt (run : RefRun)
  /-- a change of selected reference, with its cause (Table 7-3) -/
  | select (target : Tref) (cause : Nat)
  deriving DecidableEq, Repr

/-- What had moved civil time at a boundary: the discipline's corrections, what a slew moves per unit that the stamp
advances in the frame that begins there (R267), and the TSET applies, all in 2^-32 s. -/
structure CorrAt where
  stamp : Nat
  corr : Rat
  rate : Rat
  set : Int
  deriving DecidableEq, Repr

/-- The references and the discipline. -/
structure Refs where
  cfg : Word
  stepLim : Word
  tref : Tref
  pps : Ref
  rf : Ref
  marksNow : List Mark
  marksDue : List Mark
  rd : Rat
  /-- r_d that enters the sum at the next boundary (R239, R255) -/
  rdNext : Option Rat
  i : Rat
  /-- i over the last frames during which a reference was selected, newest first, with its frames (R257) -/
  iPast : List (Rat × Nat)
  jump : Option RefRun
  ho : Option HandOver
  planned : List Planned
  /-- a slew in progress: what is left of it in 2^-32 s, and whether it is a leap second (R264, R269) -/
  slewOn : Bool
  slewRem : Rat
  slewLeap : Bool
  rs : Rat
  /-- corrections to civil time so far and the TSET applies so far, in 2^-32 s, and their history, newest first -/
  corr : Rat
  set : Int
  corrPast : List CorrAt
  discRes : Word
  /-- the stamp at which HOLD was selected (R282) -/
  holdFrom : Nat
  markOk : BitVec 16
  markDrop : BitVec 16
  deriving DecidableEq, Repr

/-! ### Rate (08_rate.md) -/

/-- A learning window (R295 to R300). -/
structure Learn where
  half : Nat
  /-- the stamp frame count at the start of the half -/
  start : Nat
  marks : List OMark
  rbSum : Rat
  rbFrames : Nat
  y1 : Option Rat
  /-- the half or the window has ended and waits for its step -/
  due : Bool
  temps : List Int
  deriving DecidableEq, Repr

/-- COMP, TRIM and learning. -/
structure Rate where
  cfg : Word
  rc : Rat
  /-- r_c that applies from the next frame boundary (R293) -/
  rcNext : Option Rat
  tdie : BitVec 16
  fast : Bool
  tvalid : Bool
  calm : Nat
  /-- reads of the last 64 s and the latest one before them: stamp frame count and 1/64 °C, newest first (R290) -/
  reads : List (Nat × Int)
  learn : Option Learn
  lrnDiff : BitVec 16
  lrnOk : BitVec 16
  lrnRej : BitVec 16
  lrnAbt : BitVec 16
  /-- the discipline updates of the last 1024 s, newest first: the stamp of the boundary at which each was made, and r_d (R306) -/
  updates : List (Nat × Rat)
  /-- the span of the learned-table summary: counts, largest change and its entry (R311) -/
  sumStart : Nat
  sumOk : Nat
  sumRej : Nat
  sumAbt : Nat
  sumMax : Int
  sumEntry : Nat
  deriving DecidableEq, Repr

/-! ### Alarms, outputs, KEEP and periods (09_alarms_periods.md) -/

/-- One alarm: its committed set, its staging, its counts and its held firing (R316, R322). -/
structure Alarm where
  time : Word
  date : Word
  ctl : Word
  stg : Option (Word × Word × Word)
  fired : BitVec 16
  lflags : BitVec 4
  held : Option Firing
  deriving DecidableEq, Repr

/-- The wake outputs, periodic events and the ticker (R323 to R333). -/
structure Wake where
  perEvt : Word
  tkrCfg : Word
  tkrLeft : Nat
  tkrDue : Bool
  ponCfg : Word
  ponH : Bool
  ponF : Bool
  ponHLeft : Nat
  ponFLeft : Nat
  ponHDue : Bool
  ponFDue : Bool
  /-- one entry for each `WAKE` queued or unanswered, oldest first: the alarm firing that still has no record (R315) -/
  sent : List (Option Firing)
  deriving DecidableEq, Repr

/-- The KEEP bytes with their parity failures (R334 to R336). -/
structure Keep where
  bytes : Vector Byte 64
  bad : BitVec 64
  perr : BitVec 64
  deriving DecidableEq, Repr

/-- The accumulators of one channel (Table 9-2). -/
structure ChAcc where
  min : Int
  max : Int
  count : Nat
  sum : Int
  above : Nat
  below : Nat
  faults : Nat
  deriving DecidableEq, Repr

/-- One DAY or TRIP instance. -/
structure Inst where
  /-- DAY: the local date as days since 2000-01-01; TRIP: the id -/
  ident : Nat
  inst : Nat
  partialF : Bool
  overlap : Bool
  thchg : Bool
  openStamp : Stamp
  epochs : Nat
  gaps : Nat
  ch : Vector ChAcc 4
  active : Vector Nat 8
  /-- the value each channel holds, with the stamp frame from which it counts (R338) -/
  hold : Vector (Option (Int × Nat)) 4
  deriving DecidableEq, Repr

/-- The periods (R337 to R351). -/
structure Per where
  cfg : Word
  localOfs : Byte
  /-- DAY_EN and LOCAL as they are in force since the last frame-0 boundary (R349) -/
  dayEn : Bool
  effLocal : Byte
  stg : Option (Byte × Word)
  hi : Vector Word 4
  lo : Vector Word 4
  day : Option Inst
  trip : Option Inst
  high : Option Nat
  past : List (Nat × Nat)
  psn : BitVec 16
  /-- local midnight passed in hold-up: its stamp -/
  midnight : Option Stamp
  deriving DecidableEq, Repr

/-! ### Events (10_event_capture.md) -/

/-- A capture: the edge, its lane's first tick and, for a coarse stamp, the stamp (R360 to R365). -/
structure Cap where
  input : Nat
  rising : Bool
  coarse : Bool
  rc : Bool
  /-- the absolute tick of t1 and the ring phases n1 from the edge to it -/
  t1 : Nat
  n1 : Nat
  /-- the stamp at t1 and the increment added there (R361) -/
  st1 : Stamp
  inc1 : Nat
  filt : Nat
  /-- the edge itself, in 1/8 ps of tick time, and the tick from which the entry can be queued (R363) -/
  at8 : Nat
  ready : Nat
  deriving DecidableEq, Repr

/-- A filter hold (R357 to R359): the capture pending, the level it leads to, the tick at which it completes. -/
structure FHold where
  cap : Option Cap
  level : Bool
  due : Nat
  deriving DecidableEq, Repr

/-- An entry of the event queue (R372). -/
structure EvEntry where
  input : Nat
  rising : Bool
  coarse : Bool
  rc : Bool
  stamp : Stamp
  deriving DecidableEq, Repr

/-- The event inputs, lanes and queue. -/
structure Ev where
  cfg : Vector Word 8
  raw : BitVec 8
  level : BitVec 8
  /-- inputs whose level is taken at a tick to come, and that tick, counted from the cold start (R354) -/
  arm : BitVec 8
  armAt : Nat
  hold : Vector (Option FHold) 8
  /-- captures accepted and waiting for their tick -/
  caps : List Cap
  /-- fine captures that lead to no event and wait for their t2 all the same: lane and t1 (R357, R365) -/
  stray : List (Nat × Nat)
  /-- the end of each lane's dead time, in 1/8 ps of tick time -/
  dead : Vector Nat 4
  /-- lanes with an applied calibration since a source-3 restore (R175) -/
  laneCal : BitVec 4
  queue : List EvEntry
  lost : BitVec 16
  coarse : BitVec 16
  norec : BitVec 16
  /-- refusals since EVOVF set, and the stamp of the first (R377, R378) -/
  refused : Nat
  refusedFirst : Stamp
  deriving DecidableEq, Repr

/-! ### Temperature (11_temperature.md) -/

/-- The kinds of conversion (R403). -/
inductive ConvKind where
  | plan | snap | bat
  deriving DecidableEq, Repr

/-- A conversion requested: its channel, kind, the frame of its due or request boundary, and the frame in which the request was
made (a `SNAP` of a deferred slice keeps its boundary, R403). -/
structure Wait where
  ch : Nat
  kind : ConvKind
  due : Nat
  asked : Nat
  deriving DecidableEq, Repr

/-- What turns a resistance into a temperature: the probe set, the offset, the lead and the coefficients. -/
structure Params where
  cfg : Word
  ofs : Word
  lead : Word
  a : Word
  b : Word
  c : Word
  deriving DecidableEq, Repr

/-- A conversion in a core, with its start frame and the result of its first continuity check. -/
structure Conv where
  req : Wait
  start : Nat
  padsOk : Bool
  cont : Bool
  /-- the parameters as they stood before a commit at the boundary at which it ends (R384, R410) -/
  params : Option Params
  deriving DecidableEq, Repr

/-- A result latched in a core. -/
structure Latch where
  req : Wait
  sampleFno : Nat
  sample : Stamp
  milliOhm : Nat
  padsOk : Bool
  cont : Bool
  params : Params
  deriving DecidableEq, Repr

/-- A member of a set: open, or done with value, flags and offset (R403). -/
structure Member where
  ch : Nat
  done : Option (Word × BitVec 4 × Nat)
  deriving DecidableEq, Repr

/-- An open set (R403). -/
structure SetRec where
  kind : ConvKind
  due : Nat
  asked : Nat
  stamp : Stamp
  epn : BitVec 16
  members : List Member
  deriving DecidableEq, Repr

/-- The latest result of a channel (R405). -/
structure Latest where
  value : Word
  stamp : Stamp
  stale : Bool
  opened : Bool
  short : Bool
  bat : Bool
  deriving DecidableEq, Repr

/-- The temperature channels. -/
structure Temp where
  plan : Word
  cfg : Vector Word 4
  stg : Vector (Option Word) 4
  ofs : Vector Word 4
  lead : Vector Word 4
  sh : Vector Word 12
  core : Vector (Option Conv) 2
  latch : Vector (Option Latch) 2
  waiting : List Wait
  sets : List SetRec
  latest : Vector (Option Latest) 4
  flt : BitVec 8
  slip : BitVec 16
  held : BitVec 16
  /-- plan conversions that could not start for a booked frame, by the core they would have used and the boundary at
  which they would have started (R400) -/
  blocked : Vector (Option (Wait × Nat)) 2
  deriving DecidableEq, Repr

/-! ### Calibration (13_calibration.md) -/

/-- The working set (Table 13-5). -/
structure WSet where
  inl : Vector Word 64
  lat : Vector Byte 8
  flt8 : Vector Byte 8
  adcRef : Vector Word 4
  adcOfs : Vector Word 2
  adcGain : Vector Word 2
  adcSel : BitVec 4
  xlSel : Word
  compPar : Word
  xlBad : Word
  xlRes : Word
  ltab : Vector Word 33
  barTL : Word
  barTA : Word
  barA : Word
  lastXl : Word
  lastBar : Word
  deriving DecidableEq, Repr

/-- A calibration of item 0x01, 0x03 or 0x05 under way: item, lane, run and its slices, and the results of its two
runs; with both, its verdict takes effect at the next frame boundary (R459). -/
structure CalAct where
  item : CalItem
  lane : Nat
  run2 : Bool
  slices : Nat
  run1 : Option CalMeas
  res2 : Option CalMeas
  deriving DecidableEq, Repr

/-- An ADC calibration: its booked frame, its runs once taken (run 1 of cores 0 and 1, then run 2), and whether its
verdict has been computed (R467 to R470). -/
structure AdcAct where
  fc : Nat
  runs : Option (AdcRun × AdcRun × AdcRun × AdcRun)
  computed : Bool
  deriving DecidableEq, Repr

/-- A store under way: its image, the slices done, and whether only copy A is rewritten (R172, R491). -/
structure CalStore where
  image : List Byte
  slices : Nat
  aOnly : Bool
  deriving DecidableEq, Repr

/-- The calibration engine. The seven calibrations stand in the order lanes 0 to 3, items 0x02, 0x03, 0x05. -/
structure Cal where
  cfg : Word
  ws : WSet
  act : Option CalAct
  adc : Option AdcAct
  /-- next due, in stamp frames; requested by `CAL.RUN`; the end of the last ADC calibration (R468) -/
  due : Vector Nat 7
  asked : BitVec 7
  lastAdc : Option Nat
  /-- the frame number of start frame 0, from which R455 counts -/
  startAt : Nat
  /-- consecutive rejections, the nibbles of CAL_REJC -/
  rejc : Vector Nat 8
  flt : BitVec 8
  qTdc : Vector Byte 4
  spread : BitVec 16
  barRes : Word
  applied : BitVec 16
  rejected : BitVec 16
  /-- items applied since the last start: lanes 0 to 3, item 0x02 (R500) -/
  firstDone : BitVec 5
  dirty : Bool
  aOk : Bool
  bOk : Bool
  storeReq : Bool
  store : Option CalStore
  /-- stamp seconds of the last store (R490) -/
  lastStore : Option Nat
  csn : Word
  copyA : Option (List Byte)
  copyB : Option (List Byte)
  load : List (Nat × List Byte)
  /-- the calibration slice of this frame has run (R479); the TDC lane that it calibrated -/
  sliceUsed : Bool
  sliceLane : Option Nat
  deriving DecidableEq, Repr

/-- What field-side work tells the jobs of the host side (17_status_jobs.md section 5; the messages that carry it stand
in no file of the spec, DESIGN CHOICE, unsafe: notes/assumptions/23.md). -/
inductive JobEv where
  /-- a calibration began, ended with its part line and verdict, or was abandoned -/
  | calStarted (item : CalItem) (lane : Nat)
  | calDone (item : CalItem) (lane : Nat) (line : Text) (rejected : Bool)
  | calAbandoned (item : CalItem) (lane : Nat)
  | jrnStarted
  | eraseDone (first last : Word)
  | eraseEnd
  | testSlice (line : Option Text) (verdict : Nat)
  | testDropped
  | testCancelled
  deriving DecidableEq, Repr

/-! ### Test and telemetry (14_inservice_test.md) -/

/-- The rotation of one side (R506 to R512). -/
structure Rot where
  cfg : Word
  done : Nat
  rot : BitVec 16
  lastCode : Byte
  lastIdx : Byte
  fails : BitVec 16
  /-- frames since the last slice start -/
  since : Nat
  /-- slices whose previous run failed, as position in the rotation -/
  failed : List Nat
  deriving DecidableEq, Repr

/-- The field part of a self-test job (R514 to R521): the slices still to run, by place in the rotation; the slices
run in this frame; the booked frame f_t of a forced job (R517); a cancel that waits for it. -/
structure TstJob where
  forced : Bool
  left : List Nat
  inFrame : Nat
  ft : Option Nat
  cancel : Bool
  deriving DecidableEq, Repr

/-- The field side's test engine and telemetry. -/
structure Tst where
  rot : Rot
  job : Option TstJob
  /-- frames in which each domain was ON: folded into retained storage, and counted since (14_inservice_test.md
  section 5) -/
  domOn : Vector Word 92
  domNew : Vector Nat 92
  /-- domains switched on in this frame -/
  domNow : BitVec 92
  deriving DecidableEq, Repr

/-! ### The Layout Table overlay (19_layout_table.md section 5) -/

/-- The overlay copies S2 and S3, each the limits it holds by `LID`; the stamp seconds of the last rewrite (R697); and the
stamp seconds at which each `LTAB` entry was last updated (Table 8-4, the limit 0x0210). -/
structure Ovl where
  s2 : Option (List (Nat × Word))
  s3 : Option (List (Nat × Word))
  last : Option Nat
  tabAt : Vector Nat 33
  deriving DecidableEq, Repr

/-! ### Factory constants -/

/-- Values in the fuses of one part. -/
structure Fuse where
  serial : BitVec 64
  romBuild : Word
  ws : WSet
  deriving DecidableEq, Repr

/-- The field side. -/
structure Field where
  fuse : Fuse
  clk : Clk
  tset : Tset
  start : Start
  sup : Sup
  stat : Stat
  sched : Sched
  bar : FBar
  refs : Refs
  rate : Rate
  al : Vector Alarm 2
  wake : Wake
  keep : Keep
  per : Per
  ev : Ev
  temp : Temp
  jrn : Jrn
  cal : Cal
  tst : Tst
  ovl : Ovl
  pendW : List PendW
  /-- what jobs have still to be told; empty between commands -/
  jobEv : List JobEv
  freeCtr : Nat
  deriving DecidableEq, Repr

end Sys2Proof.Machine
end

