-- ==== Sys2Proof/Machine/HostState.lean ====
section
/-! DEFINITION. Sys2Proof/Machine/HostState.lean: the host side's state, part by part: UART and command line, link,
stamps, jobs, radio, Layout Table, tests. Reset values stand in Machine/State.lean. -/

namespace Sys2Proof.Machine

/-! ### The UART and the command line (15_command_line.md) -/

/-- One parsed command of a line: a command, or an argument that fails its range when it executes, on the side named. -/
inductive Parsed where
  | cmd (i : Instr)
  | range (s : Side)
  deriving DecidableEq, Repr

/-- A line that waits for execution (R552, R553): its tag, its text without tag and check code, its commands, how many it
has; a refusal by the checks with the position of the command it names; a replay (R548); a terminator that came within
0.2 ms of the coming boundary (R52). -/
structure HLine where
  tag : Option Text
  body : Text
  cmds : List Parsed
  n : Nat
  err : Option (Nat × Option Nat)
  replay : Bool
  late : Bool
  deriving DecidableEq, Repr

/-- An entry of the tag cache (R547, R550): the tag, the line's text, the response once it is sent. -/
structure CacheEnt where
  tag : Text
  body : Text
  resp : Option (List Text)
  deriving DecidableEq, Repr

/-- What TXD carries. -/
inductive TxKind where
  | banner | echo | notice | prompt | response
  deriving DecidableEq, Repr

/-- What takes effect once a response has been sent (R531, R541, R587). -/
structure TxAfter where
  mode : Option UMode
  baud : Option Nat
  reset : Bool
  deriving DecidableEq, Repr

/-- Lines handed to TXD that have not all left it. -/
structure TxItem where
  kind : TxKind
  lines : List Text
  after : TxAfter
  deriving DecidableEq, Repr

/-- The UART and the parser (Table 15-1, Table 20-5). -/
structure Uart where
  baud : Nat
  /-- the rate before the last change, with the host frame of the change (R532) -/
  prev : Option (Nat × Nat)
  /-- the rate that BAUD_SWITCH brings, its response having been sent (R531) -/
  next : Option Nat
  mode : UMode
  rxEn : Bool
  rxLow : Bool
  /-- a break has ended the line and the prompt is due (R575) -/
  brk : Bool
  stuck : Bool
  /-- the receiver's domain H01 is ON, with the host frames since the last activity (R91) -/
  on : Bool
  idle : Nat
  /-- the banner has been sent (R179) -/
  open' : Bool
  /-- the line being received, whether it is too long, bad, or under R180 discarded; the last byte was a CR terminator -/
  buf : Text
  long : Bool
  bad : Bool
  skip : Bool
  lastCr : Bool
  frm : BitVec 16
  brkN : BitVec 16
  stuckN : BitVec 16
  rxEarly : BitVec 16
  chk : BitVec 16
  deriving DecidableEq, Repr

/-- One register access of a line: a `REGRD`, a `REGWR`, or the `REGWR` that carries the field half of `ST.CLR` (R588). -/
inductive Acc where
  | read (a : Nat)
  | write (a : Nat) (w : Word)
  | stClr (m : Word)
  deriving DecidableEq, Repr

/-- What an executing line waits for (R557, R237, R648). -/
inductive Wait' where
  /-- the answer of a register access -/
  | access (x : Acc)
  /-- the `RSPX` of a field command; whether its `CMDX` has been answered; host frames so far -/
  | field (cmd : FieldCmd) (seq : BitVec 4) (frames : Nat)
  | evts (left : Nat)
  | samp
  | mark
  | radio
  deriving DecidableEq, Repr

/-- The line that executes (R554 to R564). -/
structure Cur where
  tag : Option Text
  body : Text
  n : Nat
  /-- the position of the command that executes, from 1 -/
  k : Nat
  rest : List Parsed
  results : List Text
  /-- a command has returned a value or a block (R558) -/
  value : Bool
  block : Bool
  err : Option (Nat × Option Nat)
  /-- the groups named, by `GID`, with the position of the command that named each (R564) -/
  groups : List (Nat × Nat)
  snap : Option Clk
  /-- host-window RW writes and validated host-side sets, which take effect at the end of the line (Table 0-3, R567) -/
  writes : List (Nat × Word)
  after : TxAfter
  /-- the line's place among the lines of its host frame (Table 4-6 `LINE`) -/
  place : Nat
  /-- the answers to the accesses of the command that executes (error, 0 for none, and value), and how many of them it has taken: a
  command whose access waits on the lanes starts again once it is answered -/
  ans : List (Nat × Word)
  used : Nat
  /-- the first end-of-line apply that was refused, with the position of the command that named its group -/
  refused : Option (Nat × Nat)
  wait : Option Wait'
  deriving DecidableEq, Repr

/-- The lines of the host side (R547 to R560). -/
structure LineSt where
  lines : List HLine
  cur : Option Cur
  tx : List TxItem
  /-- responses ERR 23 to lines that found the buffer full (R553) -/
  full : List (List Text)
  cache : List CacheEnt
  /-- RESET HOST executed; its response has been sent (R587) -/
  resetReq : Bool
  resetDue : Bool
  deriving DecidableEq, Repr

/-! ### The link, host end (04_barrier.md) -/

/-- Training (R145): the TICKs so far, the last `SEQ`, the `DLY` values from the third on, the stamp seconds read, the mirror
counter as loaded from the third on (Table 4-9). -/
structure Training where
  count : Nat
  lastSeq : BitVec 4
  dlys : List Nat
  secHi : Option Word
  secLo : Option Word
  mir : Option Nat
  deriving DecidableEq, Repr

/-- The host end of the barrier and the mirror counter. -/
structure HBar where
  link : Bool
  /-- a valid TICK has arrived since the host start -/
  ticked : Bool
  train : Option Training
  /-- host frames since the last valid TICK, saturating -/
  since : BitVec 8
  /-- the mirror counter at the last host frame boundary, in 2^-32 s; TICKs since the oscillator runs (R136) -/
  mir : Nat
  mirTicks : Nat
  /-- the stamp frame of the last boundary by count, in the listen state as well (R137) -/
  frames : Nat
  /-- at a loss of LINK: the mirror value and the host frame of the last valid TICK (R149) -/
  loss : Option (Nat × Nat)
  crcf : Nat
  lastSeq : Option (BitVec 4)
  lastAns : Option Txn
  unans : Option Unans
  queue : List Txn
  nextSeq : BitVec 4
  /-- messages launched on the H→F lane and not yet delivered -/
  lane : List Txn
  crcFH : BitVec 16
  retryH : BitVec 16
  dupH : BitVec 16
  trainFail : BitVec 16
  linkLost : BitVec 16
  deriving DecidableEq, Repr

/-! ### Stamps (R148, R234, R380) -/

/-- A host stamp in 2^-32 s, its flags, the host frame in which it was taken, and whether it was taken since the loss of LINK that still
lasts (R149, R186). -/
structure HStamp where
  stamp : Nat
  unl : Bool
  trn : Bool
  at' : Nat
  gap : Bool
  deriving DecidableEq, Repr

/-- The PPS_IN stamps (R593). -/
structure Pps where
  on : Bool
  stamps : List (HStamp × Bool)
  cnt : BitVec 16
  /-- the last stamped edge, in 2^-32 s (R737) -/
  last : Option Nat
  deriving DecidableEq, Repr

/-! ### Jobs (17_status_jobs.md section 5) -/

/-- What a job of each kind keeps. -/
inductive JobInfo where
  | none
  /-- an export or a verify: the BSNs left, the slots received of the first of them, the ring slots to read and received, the
  `JREQ` without its `JDAT`, the seal before, uncorrectable slots (job, block), a mismatch -/
  | journal (bsns : List Word) (slots : List Slot) (ring got : Nat) (out : Option (Word × Word)) (prev : Slot)
      (unc blkUnc : Nat) (bad : Bool)
  | erase (total : Nat)
  /-- a field calibration: its item, the lanes still to come, how many it covers, whether one was rejected -/
  | cal (item : CalItem) (lanes : List Nat) (total : Nat) (rejected : Bool)
  | rfCal (item : CalItem)
  /-- a self-test: forced, the host slices still to run, whether the field part still runs, passes, failures, N/A -/
  | test (forced : Bool) (left : List Nat) (fieldLeft : Nat) (pass fail na : Nat)
  | rftx (len : Nat)
  | desc (offset : Nat)
  deriving DecidableEq, Repr

/-- A job slot (Table 17-4): kind and state by their codes; its place in the order of acceptance (R630). -/
structure Job where
  kind : Nat
  st : Nat
  prog : Nat
  err : Nat
  jseq : Byte
  lines : List Text
  info : JobInfo
  ord : Nat
  deriving DecidableEq, Repr

/-! ### The radio (18_radio.md) -/

/-- The radio states of Table 18-3. -/
inductive RfSt where
  | sleep | idle | stby | synth | rx | tx | txwait | cal
  deriving DecidableEq, Repr

/-- The transmit results of Table 18-6. -/
inductive TxResult where
  | pending | sent | txDenied | cxAbort | unlock | cancelled
  deriving DecidableEq, Repr

/-- Where a pending transmission stands: its PSDU waits for a TX buffer bank (R654, R655); its grant sample is due; it
waits for a grant; its transition or packet is on air (R658). -/
inductive TxPhase where
  | bank | sample | wait | air
  deriving DecidableEq, Repr

/-- A pending transmission: its id, its PSDU and the octets moved so far, its job slot, its phase, the state it came from,
the entry and the compensation mode it is sent with (R659), the packet on air (PHR, octets), and whether a grant rose during a packet being
received (R674). -/
structure TxPend where
  id : Byte
  psdu : List Byte
  moved : Nat
  job : Option Nat
  phase : TxPhase
  prior : RfSt
  entry : Nat
  comp : Nat
  air : Option (BitVec 16 × List Byte)
  resample : Bool
  deriving DecidableEq, Repr

/-- A received packet in the RX queue (R667 to R670). -/
structure RxPkt where
  id : Byte
  s : HStamp
  fcst : Bool
  rssi : Int
  psdu : List Byte
  deriving DecidableEq, Repr

/-- A radio calibration item: the host frame at which it falls due, its first run. -/
structure RfCal where
  due : Option Nat
  run1 : Option Int
  deriving DecidableEq, Repr

/-- The radio (Table 18-8). -/
structure Radio where
  st : RfSt
  /-- the state an `RF.STATE` moves to, and a receive request that waits for its grant sample (R673) -/
  goal : Option RfTarget
  rxAsk : Bool
  ch : Word
  chStg : Option Word
  phy : Word
  frm : Word
  phyStg : Option (Word × Word)
  pa : Word
  paStg : Option Word
  cx : Word
  htemp : Byte
  vpaMv : BitVec 12
  err : BitVec 5
  irr : Byte
  detErr : Byte
  lockT : Byte
  rej7 : BitVec 4
  rej8 : BitVec 4
  phr : BitVec 16
  /-- the counters in the order of Table 18-8 -/
  cnt : Vector (BitVec 16) 11
  tx : Option TxPend
  txid : Byte
  nextTx : Byte
  results : List (Byte × TxResult × Option HStamp)
  /-- the transmit buffer by rising offset, octets of 0 unlisted (DESIGN CHOICE, unsafe: notes/assumptions/26.md) -/
  buf : List (Nat × Byte)
  rxq : List RxPkt
  nextRx : Byte
  /-- SFD stamps of admitted packets, newest first (R235) -/
  marks : List (Byte × HStamp)
  /-- the SFD stamp of the packet being received -/
  rxNow : Option HStamp
  susp : Bool
  cxReq : Bool
  cxPri : Bool
  /-- the `LOOP` correction per entry in 0.1 dB, and the last entry used (R664) -/
  corr : List (Nat × Int)
  lastEntry : Nat
  calIq : RfCal
  calPa : RfCal
  /-- VPA at the last PA detector calibration, in mV -/
  vpaCal : Option Nat
  /-- TRSW1 and TRSW2 since the radio last changed its state, each pair from so many ns after the outputs began to change -/
  trsw : List (Nat × Bool × Bool)
  deriving DecidableEq, Repr

/-! ### The Layout Table (19_layout_table.md) -/

/-- The served table: whether it is served, the overlay's outcome and its limits, and the host frames left for the merge
(R183). -/
structure Table where
  served : Bool
  ovl : Bool
  ovlBad : Bool
  lims : List (Nat × Word)
  merge : Option Nat
  deriving DecidableEq, Repr

/-! ### The host side -/

/-- PON_H (R329 to R332, R729, R730): the copy of `PON_CFG`, drive, a drive that waits for the polarity, and a read that is
due. -/
structure PonH where
  cfg : Option Word
  on : Bool
  wait : Bool
  readDue : Bool
  deriving DecidableEq, Repr

/-- The host side. -/
structure HostSide where
  /-- VHOST and VIO valid; held in reset by NRST; started -/
  power : Bool
  nrst : Bool
  run : Bool
  bannerDue : Bool
  /-- VHOST is at 3.0 V or more: isolated power is offered (R16); a `PWRQ` is due, and host frames since the last -/
  vhostOk : Bool
  offer : Bool
  pwrqDue : Bool
  pwrqAge : Nat
  /-- FSUP, `ISO_OK` and `ISO_RAIL` of the last `PWRA` (R71) -/
  pwra : BitVec 4
  /-- host frames since the host start -/
  hf : Nat
  /-- host-owned status bits, the field-owned bits of the last STAT, the field word at the last loss of LINK -/
  latched : Word
  fst : Word
  fstLoss : Word
  attnMask : Word
  attnSrc : BitVec 4
  uart : Uart
  line : LineSt
  bar : HBar
  pps : Pps
  jobs : Vector Job 4
  radio : Radio
  table : Table
  pon : PonH
  rot : Rot
  /-- failures to send to the field side (R513): code, index, measured, limit -/
  fails : List (Nat × Nat × Int × Int)
  ovrH : BitVec 16
  domOn : Vector Word 56
  domNow : BitVec 56
  freeCtr : Nat
  deriving DecidableEq, Repr

end Sys2Proof.Machine
end

