-- ==== Sys2Proof/Machine/Calendar.lean ====
section
/-! DEFINITION. Sys2Proof/Machine/Calendar.lean: the proleptic Gregorian calendar of 2000 to 2399
(06_timescales.md section 4.2, R204 to R207). -/

namespace Sys2Proof.Machine

/-- A civil date and time of day. -/
structure Civil where
  year : Nat
  month : Nat
  date : Nat
  hour : Nat
  min : Nat
  sec : Nat
  deriving DecidableEq, Repr

/-- R205: leap years. -/
def isLeap (y : Nat) : Bool := y % 4 == 0 && (y % 100 != 0 || y % 400 == 0)

/-- R206: the length of a month. -/
def monthLen (y m : Nat) : Nat :=
  if m == 2 then (if isLeap y then 29 else 28)
  else if m == 4 || m == 6 || m == 9 || m == 11 then 30 else 31

/-- Leap years from 2000 up to, and not counting, year `y` (y at least 2000). -/
def leapsBefore (y : Nat) : Nat :=
  if y ≤ 2000 then 0 else 1 + ((y - 1) / 4 - 500) - ((y - 1) / 100 - 20) + ((y - 1) / 400 - 5)

/-- Days from 2000-01-01 to the first of January of `y`. -/
def daysToYear (y : Nat) : Nat := (y - 2000) * 365 + leapsBefore y

/-- Days from the first of January to the first of month `m`. -/
def daysToMonth (y : Nat) : Nat → Nat
  | 0 => 0
  | 1 => 0
  | m + 1 => daysToMonth y m + monthLen y m

/-- R207: days since 2000-01-01, which is day 0. -/
def daysSince (y m d : Nat) : Nat := daysToYear y + daysToMonth y m + (d - 1)

/-- R207: the day of week, Monday = 1; day 0 is a Saturday. -/
def dowOf (days : Nat) : Nat := (days + 5) % 7 + 1

/-- The year of a day number, counted up from `y` by fuel. -/
def yearFrom : Nat → Nat → Nat → Nat
  | 0, y, _ => y
  | k + 1, y, days => if days < daysToYear (y + 1) then y else yearFrom k (y + 1) days

/-- The year of a day number below 146 097: whole centuries first, so that the count stays short. -/
def yearOf (days : Nat) : Nat :=
  let c := if days < daysToYear 2100 then 2000 else if days < daysToYear 2200 then 2100
    else if days < daysToYear 2300 then 2200 else 2300
  let d := if days < daysToYear (c + 20) then c else if days < daysToYear (c + 40) then c + 20
    else if days < daysToYear (c + 60) then c + 40 else if days < daysToYear (c + 80) then c + 60 else c + 80
  yearFrom 20 d days

/-- The month of a day of year, counted up from `m` by fuel. -/
def monthFrom (y : Nat) : Nat → Nat → Nat → Nat
  | 0, m, _ => m
  | k + 1, m, d => if d < daysToMonth y (m + 1) then m else monthFrom y k (m + 1) d

/-- R192, R203: the date and time that a count of civil seconds shows. -/
def civilOf (secs : Nat) : Civil :=
  let days := secs / 86400
  let y := yearOf days
  let doy := days - daysToYear y
  let m := monthFrom y 11 1 doy
  let r := secs % 86400
  { year := y, month := m, date := doy - daysToMonth y m + 1, hour := r / 3600, min := r / 60 % 60, sec := r % 60 }

/-- The civil seconds of a date and time of day. -/
def secsOf (c : Civil) : Nat := daysSince c.year c.month c.date * 86400 + c.hour * 3600 + c.min * 60 + c.sec

/-- A date that the calendar shows (R204 to R206). -/
def validDate (y m d : Nat) : Bool :=
  2000 ≤ y && y ≤ 2399 && 1 ≤ m && m ≤ 12 && 1 ≤ d && d ≤ monthLen y m

end Sys2Proof.Machine
end

