-- ==== Sys2Proof/Machine/Flags.lean ====
section
/-! DEFINITION. Sys2Proof/Machine/Flags.lean: the field-owned bits of the status word: which are latched, which
follow a condition, and the word of them (17_status_jobs.md Table 17-1, 04_barrier.md Table 4-6). -/

namespace Sys2Proof.Machine

/-- Bit numbers of Table 17-1. -/
def sbStepped : Nat := 25
def sbAl1f : Nat := 24
def sbAl2f : Nat := 23
def sbEvq : Nat := 22
def sbEvovf : Nat := 21
def sbTstale : Nat := 20
def sbProbe : Nat := 19
def sbJobDone : Nat := 18
def sbJobBusy : Nat := 17
def sbRfq : Nat := 16
def sbRferr : Nat := 15
def sbCxDeny : Nat := 14
def sbSpareLow : Nat := 13
def sbJrnRo : Nat := 12
def sbCalRej : Nat := 11
def sbTestFail : Nat := 10
def sbLineStuck : Nat := 9
def sbBatlow : Nat := 8
def sbPeriod : Nat := 7
def sbKeepLost : Nat := 6
def sbTimeInvalid : Nat := 5
def sbHoldoverLong : Nat := 4
def sbOverrun : Nat := 3
def sbNvmErr : Nat := 2
def sbSealKey : Nat := 1
def sbAttn : Nat := 0

/-- The mask of field-owned bits (Table 4-6). -/
def fieldMask : Word := 0x3FF83DFE#32

/-- The W1C bits that the field side owns (Table 17-1). -/
def fieldW1c : Word := 0x03A00CCC#32

/-- The W1C bits that the host side owns, TEST_FAIL and OVERRUN by their host halves (Table 17-1). -/
def hostW1c : Word := 0x0004C609#32

/-- The bits `ATTN_MASK` accepts (R623). -/
def attnMaskBits : Word := 0x0028BD44#32

/-- Set a latched field status bit. -/
def Field.setBit (f : Field) (i : Nat) : Field :=
  { f with stat := { f.stat with latched := withBit f.stat.latched i true } }

/-- Clear a latched field status bit. -/
def Field.clrBit (f : Field) (i : Nat) : Field :=
  { f with stat := { f.stat with latched := withBit f.stat.latched i false } }

/-- A latched field status bit. -/
def Field.bit (f : Field) (i : Nat) : Bool := bitOf f.stat.latched i

/-- FSUP coding of a source (03_power_fabric.md section 1). -/
def sourceCode : Source → Nat
  | .vfld => 0
  | .iso => 1
  | .vbat => 2
  | .vbk => 3

/-- TREF coding (07_references.md section 1). -/
def Tref.code : Tref → Nat
  | .hold => 0
  | .radio => 1
  | .pps => 2
  | .none => 3

/-- The probe type of channel n (Table 11-5). -/
def Field.probeType (f : Field) (n : Nat) : Nat := fieldOf (f.temp.cfg[n]?.getD 0#32) 0 3

/-- The latest result of a channel whose type is set satisfies a condition (R396, R402). -/
def Field.someLatest (f : Field) (p : Latest → Bool) : Bool :=
  (List.range 4).any fun n =>
    f.probeType n != 0 && (match f.temp.latest[n]?.getD none with
      | some l => p l
      | none => false)

/-- JRN_RO (R440, R449). -/
def Field.jrnRo (f : Field) : Bool := f.jrn.roFull || f.jrn.roWorn

/-- The field-owned status bits: the latched ones, and those that follow a condition (Table 17-1). -/
def Field.status (f : Field) : Word :=
  let w := f.stat.latched &&& (0x03A00DFC#32)
  let w := withField w 28 2 (sourceCode f.sup.sel)
  let w := withField w 26 2 f.refs.tref.code
  let w := withBit w sbEvq (!f.ev.queue.isEmpty)
  let w := withBit w sbTstale (f.someLatest fun l => l.stale)
  let w := withBit w sbProbe (f.someLatest fun l => l.opened || l.short)
  let w := withBit w sbSpareLow f.jrn.spareLow
  let w := withBit w sbJrnRo f.jrnRo
  withBit w sbSealKey (f.jrn.key.isSome && !f.jrn.keyBad && f.start.mounted)

end Sys2Proof.Machine
end

