-- ==== Sys2Proof/Machine/Records.lean ====
section
/-! DEFINITION. Sys2Proof/Machine/Records.lean: the byte layout of the records of the journal
(12_journal.md section 2, Tables 12-3 to 12-6, R415, R416, R763). -/

namespace Sys2Proof.Machine

/-- `n` bytes of a number placed at byte `off` of a slot, least significant byte first (R8). -/
def putBytes (off n : Nat) (v : Nat) : Nat := (v % 256 ^ n) * 256 ^ off

/-- A signed number as the bits of an `n`-byte field. -/
def twos (n : Nat) (v : Int) : Nat := (v % (256 ^ n : Nat)).toNat

/-- A slot with its fields placed: (byte offset, bytes, value). -/
def slotOf (fs : List (Nat × Nat × Nat)) : Slot :=
  BitVec.ofNat 256 ((fs.map fun (o, n, v) => putBytes o n v).foldl (· + ·) 0)

/-- The first slot of a record (Table 12-3): type, further slots, subtype, stamp, body fields. -/
def firstSlot (ty xs sub : Nat) (st : Stamp) (body : List (Nat × Nat × Nat)) : Slot :=
  slotOf ((0, 1, ty) :: (1, 1, xs * 64 + sub) :: (2, 9, st.toNat) :: body)

/-- A further slot of a record (R415): type and index, then its payload fields. -/
def moreSlot (ty idx : Nat) (body : List (Nat × Nat × Nat)) : Slot :=
  slotOf ((0, 1, 0x80 + ty) :: (1, 1, idx) :: body)

/-- The 9-byte stamp of a record's first slot (Table 12-3). -/
def slotStamp (s : Slot) : Stamp := BitVec.ofNat 72 (s.toNat >>> 16)

/-- The bytes of a slot in stored order. -/
def slotBytes (s : Slot) : List Byte := bytesLE 32 s.toNat

/-- The temperature of a record: the low 24 bits, or 0x800000 without a value or outside the range (R763). -/
def temp24 (v : Word) : Nat :=
  if v = 0x80000000#32 then 0x800000
  else if v.toInt < -8388607 || 8388607 < v.toInt then 0x800000
  else v.toNat % 2 ^ 24

/-- A temperature accumulator of a PERIOD record as 24 bits (R763). -/
def tempAcc24 (v : Int) : Nat :=
  if v < -8388607 || 8388607 < v then 0x800000 else twos 3 v

/-- SAMPLE (Table 12-5): kind, epoch, channel fields (channel, 24-bit value, flags, offset). -/
def recSample (kind : Nat) (st : Stamp) (e : BitVec 16) (fs : List (Nat × Nat × Nat × Nat)) : Slot :=
  let members := (fs.map fun (c, _) => 2 ^ c).foldl (· + ·) 0
  let body := (fs.map fun (c, v, g, o) => (v % 2 ^ 24 + (g % 16) * 2 ^ 24 + (min o 255) * 2 ^ 28) * 2 ^ (36 * c)).foldl (· + ·) 0
  firstSlot 0x01 0 kind st [(11, 2, e.toNat), (13, 1, members), (14, 18, body)]

/-- EVENT (Table 12-5). -/
def recEvent (input : Nat) (rising coarse rc : Bool) (st : Stamp) (e : BitVec 16) (filt : Nat) : Slot :=
  firstSlot 0x02 0 (input + 8 * rising.toNat + 16 * coarse.toNat + 32 * rc.toNat) st
    [(11, 2, e.toNat), (13, 1, input / 2 + 4 * filt)]

/-- EPOCH/STEP (Table 12-5): cause, epochs, the change and the new offset in frames. -/
def recEpoch (cause : Nat) (st : Stamp) (old new : BitVec 16) (change : Int) (ofs : BitVec 54) : Slot :=
  firstSlot 0x03 0 cause st
    [(11, 2, old.toNat), (13, 2, new.toNat), (15, 8, twos 8 change), (23, 6, ofs.toNat / 64), (29, 1, ofs.toNat % 64)]

/-- GAP (Table 12-5): the record's stamp is the end of the interval. -/
def recGap (cause : Nat) (start fin : Stamp) (e : BitVec 16) : Slot :=
  firstSlot 0x04 0 cause fin [(11, 9, start.toNat), (20, 2, e.toNat)]

/-- SUPPLY (R96, Table 12-5). -/
def recSupply (cause : Nat) (st : Stamp) (old new vbat cancels : Nat) : Slot :=
  firstSlot 0x05 0 cause st [(11, 1, old + 4 * new), (12, 2, vbat), (14, 2, min cancels 0xFFFF)]

/-- CAL with its subtype and body (Table 12-5). -/
def recCal (sub : Nat) (st : Stamp) (body : List (Nat × Nat × Nat)) : Slot := firstSlot 0x07 0 sub st body

/-- CAL, register change (R417): address, old and new value. -/
def recCalReg (st : Stamp) (addr : Nat) (old new : Word) : Slot :=
  recCal 2 st [(11, 2, addr), (13, 4, old.toNat), (17, 4, new.toNat)]

/-- TEST (R512, R523, Table 12-5). -/
def recTest (sub code idx : Nat) (st : Stamp) (measured limit : Int) : Slot :=
  firstSlot 0x08 0 sub st [(11, 1, code), (12, 1, idx), (13, 4, twos 4 measured), (17, 4, twos 4 limit)]

/-- ALARM (R315, Table 12-5). -/
def recAlarm (a : Firing) : Slot :=
  firstSlot 0x09 0 a.src a.stamp
    [(11, 1, a.flags.toNat), (12, 1, a.acts.toNat), (13, 2, a.epn.toNat), (15, 5, a.second), (20, 1, min a.count 255)]

/-- NOTE: text of 1 to 20 characters (Table 12-5). -/
def recNote (t : Text) (st : Stamp) : Slot :=
  firstSlot 0x0A 0 t.length st [(11, 20, natOfLE ((t.take 20).map fun c => BitVec.ofNat 8 c.toNat))]

/-- REFCHANGE (R281, Table 12-5); the offset in 2^-32 s. -/
def recRefChange (cause left taken action : Nat) (d : Int) (st : Stamp) (e : BitVec 16) : Slot :=
  firstSlot 0x0B 0 cause st [(11, 1, left + 4 * taken + 16 * action), (12, 8, twos 8 d), (20, 2, e.toNat)]

/-- WEAR (Table 12-5): block, spares, cycles, corrections, BSN or range. -/
def recWear (sub : Nat) (st : Stamp) (phys spares cyc corr bsn last : Nat) : Slot :=
  firstSlot 0x0C 0 sub st
    [(11, 2, phys), (13, 2, spares), (15, 4, cyc), (19, 1, corr), (20, 4, bsn), (24, 4, last)]

/-- OVF (Table 12-5): cause, count, stamp of the first, depth. -/
def recOvf (cause : Nat) (st : Stamp) (count : Nat) (first : Stamp) (depth : Nat) : Slot :=
  firstSlot 0x0D 0 cause st [(11, 4, min count 0xFFFFFFFF), (15, 9, first.toNat), (24, 2, depth)]

/-- BOOT (R188, Table 12-5). -/
def recBoot (cause : Nat) (st : Stamp) (bootn : BitVec 16) (timeInvalid keepLost : Bool) : Slot :=
  firstSlot 0x0E 0 cause st [(11, 2, bootn.toNat), (13, 1, timeInvalid.toNat + 2 * keepLost.toNat)]

/-- A date as DATE, MONTH, YEAR, CENT in BCD (Table 12-6). -/
def dateBcd (y m d : Nat) : Nat :=
  natOfLE [toBcd d, toBcd m, toBcd (y % 100), toBcd (y / 100)]

/-- The data-block header (Table 12-2). -/
def headerSlot (bsn uid : Word) (bootn epn : BitVec 16) (st : Stamp) (key wrap : Bool) : Slot :=
  slotOf [(0, 4, 0x31424A4B), (4, 4, bsn.toNat), (8, 4, uid.toNat), (12, 2, bootn.toNat), (14, 2, epn.toNat),
    (16, 9, st.toNat), (25, 1, 1), (26, 1, key.toNat + 2 * wrap.toNat)]

end Sys2Proof.Machine
end

