-- ==== Sys2Proof/Machine/Ops.lean ====
section
/-! DEFINITION. Sys2Proof/Machine/Ops.lean: the named operations of the field side that every family uses: time,
staging, the field stream, foreground requests, telemetry of domains. -/

namespace Sys2Proof.Machine

/-! ### Whether the field side runs -/

/-- The field side runs work: its backup core is up and it is not in hold-up (R74, R75). -/
def Field.runs (f : Field) : Bool := f.start.alive && !f.start.holdUp

/-! ### Time (06_timescales.md section 2) -/

/-- Stamp and phase as one count of 2^-64 s at the boundary tick. -/
def Clk.acc (c : Clk) : Nat := c.stamp.toNat * 2 ^ 32 + c.phase.toNat

/-- R193: the stamp at tick `n` of the current frame. -/
def Clk.atTick (c : Clk) (n : Nat) : Stamp := BitVec.ofNat 72 ((c.acc + n * c.incr) / 2 ^ 32)

/-- Stamp seconds and the stamp frame count, seconds × 64 + frame (R389). -/
def stampSec (s : Stamp) : Nat := s.toNat / 2 ^ 32
def stampFrames (s : Stamp) : Nat := s.toNat / 2 ^ 26

/-- R192: civil time of a stamp under an epoch offset, in 2^-32 s within the 400-year cycle. -/
def civilAt (s : Stamp) (eofs : BitVec 54) : Nat :=
  (((s.toNat : Int) + eofs.toInt * 2 ^ 26) % ((Config.cycleSec * 2 ^ 32 : Nat) : Int)).toNat

/-- Civil time at the current boundary, in 2^-32 s and in whole seconds. -/
def Clk.civil (c : Clk) : Nat := civilAt c.stamp c.eofs
def Clk.civilSec (c : Clk) : Nat := c.civil / 2 ^ 32

/-- Civil time at the current boundary before the reduction modulo the cycle (R192). -/
def Clk.unreduced (c : Clk) : Int := (c.stamp.toNat : Int) + c.eofs.toInt * 2 ^ 26

/-- R26: the frame number. -/
def Clk.frame (c : Clk) : Nat := c.civil / 2 ^ 26 % 64

/-- The epoch offset and number in force at a stamp (R240): the latest one left after it, else the current one. -/
def epochAt (c : Clk) (s : Stamp) : BitVec 54 × BitVec 16 :=
  c.past.foldl (fun cur (left, e, n) => if s.toNat < left.toNat then (e, n) else cur) (c.eofs, c.epn)

/-- R25, R30: the ticks until the stamp fraction first reaches or passes the next multiple of 2^26. -/
def ticksToBoundary (acc incr : Nat) : Nat :=
  let left := 2 ^ 58 - acc % 2 ^ 58
  if incr = 0 then 512 else (left + incr - 1) / incr

/-- R194: the increment of a rate sum clamped to ±1500 ppm (R27), in 2^-64 s; a sum that the resolution of 2^-49 does
not hold exactly is rounded down or up by an open choice (DESIGN CHOICE, safe: notes/assumptions/1.md). -/
def incrOf (r : Rat) (ctr : Nat) : Nat :=
  let lim : Rat := 1500 / 1000000
  let c : Rat := if r < -lim then -lim else if lim < r then lim else r
  let x : Rat := (2 ^ 49 : Rat) * (1 + c)
  let n := x.floor.toNat
  if x = (n : Rat) then n else n + (Config.freeValue ctr).toNat % 2

/-! ### Staging of records (12_journal.md section 3, R162, R379, R450, R451) -/

/-- The slots of a record. -/
def Rec.size (r : Rec) : Nat := 1 + r.more.length

/-- Staging slots in use. -/
def Jrn.stagedSlots (j : Jrn) : Nat := (j.staging.map Rec.size).sum

/-- Put one slot into the reserve ring, overwriting the oldest when it is full (R450, R451). -/
def Jrn.ringPut (j : Jrn) (s : Slot) : Jrn :=
  if j.ring.length < Config.ringSlots then { j with ring := j.ring ++ [s] }
  else
    { j with
      ring := j.ring.drop 1 ++ [s],
      job := j.job.map fun b => { b with ringLost := b.ringLost + 1 },
      ringOvw := satAdd j.ringOvw 1,
      ovwPend := j.ovwPend + 1,
      ovwFirst := if j.ovwPend = 0 then slotStamp (j.ring.headD 0) else j.ovwFirst }

/-- A record is taken: into the ring while JRN_RO is set, else when staging has the slots. -/
def Field.roomFor (f : Field) (n : Nat) : Bool :=
  f.jrnRo || decide (f.jrn.stagedSlots + n ≤ Config.stagingSlots)

/-- Stage a record (R418, R450); one without room is refused and counted (R162, R379). -/
def Field.stageRec (f : Field) (first : Slot) (more : List Slot) : Field :=
  if f.jrnRo then { f with jrn := (first :: more).foldl Jrn.ringPut f.jrn }
  else if f.jrn.stagedSlots + (1 + more.length) ≤ Config.stagingSlots then
    { f with jrn := { f.jrn with staging := f.jrn.staging ++ [⟨first, more, f.clk.fno⟩] } }
  else
    { f with jrn := { f.jrn with
        refused := f.jrn.refused + 1,
        refusedFirst := if f.jrn.refused = 0 then slotStamp first else f.jrn.refusedFirst } }

/-- Stage a record of one slot. -/
def Field.stage (f : Field) (s : Slot) : Field := f.stageRec s []

/-! ### The field stream (04_barrier.md sections 4 and 5) -/

/-- R125: the order in which new field-stream transactions start. -/
def fieldOrder : MsgType → Nat
  | .stat => 0
  | .wake => 1
  | .pwra => 2
  | .rspx => 3
  | .evt => 4
  | .samp => 5
  | _ => 6

/-- The waiting transaction that starts next, with the others (R125: by type, then in arrival order). -/
def takeNext (order : MsgType → Nat) : List Txn → Option (Txn × List Txn)
  | [] => none
  | t :: ts =>
    match takeNext order ts with
    | none => some (t, [])
    | some (u, rest) => if order u.ty < order t.ty then some (u, t :: rest) else some (t, ts)

/-- R127, Table 4-8: `words` messages of 2.19 µs each end before the last tick of the frame begins.
DESIGN CHOICE, unsafe: notes/assumptions/90.md. -/
def FBar.fits (b : FBar) (words : Nat) : Bool := decide (words * 2190 * 32768 ≤ b.room * 10 ^ 9)

/-- R111, R112, R127: start the next waiting transaction of the field stream if none is unanswered and it ends in time. -/
def FBar.pump (b : FBar) : FBar :=
  match b.unans with
  | some _ => b
  | none =>
    match takeNext fieldOrder b.queue with
    | none => b
    | some (t, rest) =>
      if b.fits t.words.length then
        let t' := { t with seq := b.nextSeq }
        { b with
          queue := rest, unans := some ⟨t', 0, false, false⟩, nextSeq := b.nextSeq + 1, lane := b.lane ++ [t'] }
      else b

/-- Send a transaction on the field stream; while the field side is not linked it is dropped (R122, R124). -/
def Field.send (f : Field) (ty : MsgType) (ws : List Word) : Field :=
  if f.bar.linked then
    { f with bar := FBar.pump { f.bar with queue := f.bar.queue ++ [⟨ty, 0#4, ws, none⟩] } }
  else f

/-- The field side acts at tick `n` of its frame (R127). -/
def Field.atTick (f : Field) (n : Nat) : Field := { f with bar := { f.bar with room := f.clk.frameLen - 1 - n } }

/-- Launch an answer or a link message, which takes no part in the stream (R113, R125). -/
def Field.answer (f : Field) (t : Txn) : Field := { f with bar := { f.bar with lane := f.bar.lane ++ [t] } }

/-- The words of a stamp in a payload: seconds [39:32], seconds [31:0], fraction (Table 4-6). -/
def stampHi (s : Stamp) : Word := BitVec.ofNat 32 (s.toNat / 2 ^ 64)
def stampLo (s : Stamp) : Word := BitVec.ofNat 32 (s.toNat / 2 ^ 32)
def stampFr (s : Stamp) : Word := BitVec.ofNat 32 s.toNat

/-- R21: send `STAT` when a field status bit changed since the last one. -/
def Field.sendStat (f : Field) : Field :=
  if f.status = f.stat.sent || !f.bar.linked then f
  else { f with stat := { f.stat with sent := f.status } }.send .stat [f.status]

/-! ### Foreground requests (02_frame.md section 3) -/

/-- R39: a request is planned in the next frame. -/
def Field.request (f : Field) (prio len : Nat) (k : ReqKind) : Field :=
  { f with sched := { f.sched with arrived := f.sched.arrived ++ [⟨prio, len, k⟩] } }

/-- The action set of an alarm or of periodic events (R314, R323). -/
def ReqKind.isAction : ReqKind → Bool
  | .action a => a.src ≠ 4
  | _ => false
/-- The action set of the ticker (R325). -/
def ReqKind.isTicker : ReqKind → Bool
  | .action a => a.src = 4
  | _ => false
def ReqKind.isCommand : ReqKind → Bool
  | .command _ _ => true
  | _ => false
def ReqKind.isJournal : ReqKind → Bool
  | .journal _ _ => true
  | _ => false
def ReqKind.isPeriod : ReqKind → Bool
  | .period _ => true
  | _ => false

/-- R40: the slice that runs next is the first of the plan; it is taken from the plan where it is of a kind `p`. -/
def takeReq (p : ReqKind → Bool) : List Req → Option (Req × List Req)
  | [] => none
  | r :: rs => if p r.kind then some (r, rs) else none

/-- R85: VBAT with the coin-cell plan disabled. -/
def Field.idleOnVbat (f : Field) : Bool := f.sup.sel = .vbat && !bitOf f.sup.cfg 12

/-- R47: slices run while the field side runs and no watchdog restart is under way. -/
def Field.slices (f : Field) : Bool := f.runs && !f.start.wdog

/-- The plan after a slice of it has run. -/
def Field.planLeft (f : Field) (rest : List Req) : Field := { f with sched := { f.sched with plan := rest } }

/-! ### Domains (03_power_fabric.md section 8) -/

/-- Switch a domain on for this frame. -/
def Field.domain (f : Field) (d : Nat) : Field :=
  { f with tst := { f.tst with domNow := f.tst.domNow ||| (1#92 <<< d) } }

/-- R88: the SRAM banks of a kind of work are ON for this frame. -/
def Field.sram (f : Field) (kind : Nat) : Field :=
  { f with tst := { f.tst with domNow := f.tst.domNow ||| ((Config.sramBanks kind).setWidth 92 <<< 43) } }

/-- R344: the slices of closed periods at the head of a plan stage their PERIOD records and set `PERIOD`; the number is how many
slices the plan has. -/
def Field.periodHead : Nat → Field → Field
  | 0, f => f
  | k + 1, f =>
    match f.sched.plan with
    | ⟨_, _, .period recs⟩ :: rest =>
      Field.periodHead k ((recs.foldl (fun f r => f.stageRec r.1 r.2) ((f.planLeft rest).sram 0)).setBit sbPeriod)
    | _ => f

/-- R344, R40: the planned slice of a closed period has no row of its own: it runs as soon as it is the first of the plan.
DEDUCED, unsafe: notes/assumptions/52.md. -/
def Field.periodSlices (f : Field) : Field := if f.slices then f.periodHead f.sched.plan.length else f

/-- The next open value of the field side (DESIGN CHOICE, safe: notes/assumptions/1.md). -/
def Field.free (f : Field) : BitVec 32 := Config.freeValue f.freeCtr
def Field.freeNext (f : Field) : Field := { f with freeCtr := f.freeCtr + 1 }

/-! ### Working-set registers with a factor (13_calibration.md Table 13-6) -/

/-- `UID32`: the low 32 bits of the serial number (Table 12-2). -/
def Field.uid (f : Field) : Word := f.fuse.serial.truncate 32

/-- R429: `KEEP_LOST` and `TIME_INVALID` as a BOOT record carries them (R188). -/
def Field.bootRec (f : Field) (cause : Nat) (st : Stamp) : Field :=
  f.stage (recBoot cause st f.start.bootn (f.bit sbTimeInvalid) (f.bit sbKeepLost))

end Sys2Proof.Machine
end

