-- ==== Sys2Proof/Machine/Periods.lean ====
section
/-! DEFINITION. Sys2Proof/Machine/Periods.lean: the DAY and TRIP sets (09_alarms_periods.md section 6, R337 to R351,
R762; 12_journal.md Table 12-6). -/

namespace Sys2Proof.Machine

/-- Saturating ends of R762. -/
def satTo (cap n : Nat) : Nat := min n cap
def satSum (v : Int) : Int := max (-(2 ^ 47)) (min (2 ^ 47 - 1) v)

def ChAcc.zero : ChAcc := ⟨0, 0, 0, 0, 0, 0, 0⟩

/-- The local date of a civil time in 2^-32 s under LOCAL, as days since 2000-01-01 (section 6.1). -/
def localDay (civ : Int) (localOfs : Byte) : Nat :=
  ((civ / 2 ^ 32 + localOfs.toInt * 900) % ((Config.cycleSec : Nat) : Int)).toNat / 86400

/-- The local day of a civil time that is not reduced modulo the cycle (R192). -/
def localDayNo (civ : Int) (localOfs : Byte) : Int := (civ / 2 ^ 32 + localOfs.toInt * 900) / 86400

/-- R351, Table 9-7: ordinary elapsed time since the last frame-0 boundary, between the steps, took the local date past the
calendar wrap; `now` is civil time, not reduced, that this boundary shows, without its overshoot.
DEDUCED, unsafe: notes/assumptions/77.md. -/
def passedWrap (localOfs : Byte) (steps : List StepSpan) (now : Int) : Bool :=
  let ends := steps.map (·.old) ++ [now]
  let start := -(-(ends.headD now) / 2 ^ 32) - 1
  let starts := start * 2 ^ 32 :: steps.map (·.new)
  (starts.zip ends).any fun e => decide (localDayNo e.1 localOfs / 146097 < localDayNo e.2 localOfs / 146097)

/-- R348: the whole local dates that a forward step passed: the first, the last and their count. The date at whose very start
the step was made was never shown. -/
def skippedDates (localOfs : Byte) (x : StepSpan) : Option (Nat × Nat × Nat) :=
  let d0 := localDayNo (x.old - 1) localOfs
  let d1 := localDayNo x.new localOfs
  if d0 + 2 ≤ d1 then some (((d0 + 1) % 146097).toNat, ((d1 - 1) % 146097).toNat, (d1 - d0 - 1).toNat) else none

/-- R338, R762: count the whole frames that a channel's held value lasted up to a stamp frame, and end the hold. -/
def Inst.settle (hi lo : Vector Word 4) (i : Inst) (n fin : Nat) : Inst :=
  match i.hold[n]?.getD none with
  | none => i
  | some (v, since) =>
    let a := i.ch[n]?.getD ChAcc.zero
    let k := fin - since
    let a := if (hi[n]?.getD 0#32).toInt < v then { a with above := satTo 0xFFFFFFFF (a.above + k) } else a
    let a := if v < (lo[n]?.getD 0#32).toInt then { a with below := satTo 0xFFFFFFFF (a.below + k) } else a
    { i with ch := i.ch.setIfInBounds n a, hold := i.hold.setIfInBounds n none }

/-- R338: settle every channel up to a stamp frame, keeping the holds running when `keep` is set (R340). -/
def Inst.settleAll (hi lo : Vector Word 4) (keep : Bool) (fin : Nat) (i : Inst) : Inst :=
  (List.range 4).foldl
    (fun i n =>
      let h := i.hold[n]?.getD none
      let i := i.settle hi lo n fin
      match keep, h with
      | true, some (v, since) => { i with hold := i.hold.setIfInBounds n (some (v, max since fin)) }
      | _, _ => i) i

/-- R337, R338: one conversion's result enters an instance in which its sample stamp lies. -/
def Inst.take (hi lo : Vector Word 4) (i : Inst) (n : Nat) (sample : Stamp) (value : Option Int) (faulted : Bool) :
    Inst :=
  if sample.toNat < i.openStamp.toNat then i
  else
    let fin := stampFrames sample
    let i := i.settle hi lo n fin
    let a := i.ch[n]?.getD ChAcc.zero
    if faulted then { i with ch := i.ch.setIfInBounds n { a with faults := satTo 0xFFFF (a.faults + 1) } }
    else match value with
      | none => i
      | some v =>
        let a := { a with
          min := if a.count = 0 then v else min a.min v,
          max := if a.count = 0 then v else max a.max v,
          sum := satSum (a.sum + v), count := satTo 0xFFFFFFFF (a.count + 1) }
        { i with ch := i.ch.setIfInBounds n a, hold := i.hold.setIfInBounds n (some (v, fin)) }

/-- Both open sets changed by one function. -/
def Per.both (p : Per) (g : Inst → Inst) : Per := { p with day := p.day.map g, trip := p.trip.map g }

/-- R337: a conversion's result enters both open sets. -/
def Per.result (p : Per) (n : Nat) (sample : Stamp) (value : Option Int) (faulted : Bool) : Per :=
  p.both fun i => i.take p.hi p.lo n sample value faulted

/-- R338: the start of a GAP interval ends every hold. -/
def Per.gapStart (p : Per) (st : Stamp) : Per := p.both (Inst.settleAll p.hi p.lo false (stampFrames st))

/-- R340: before a threshold changes, what was held counts under the old one; the open instances carry THCHG. -/
def Per.threshold (p : Per) (st : Stamp) : Per :=
  p.both fun i => { i.settleAll p.hi p.lo true (stampFrames st) with thchg := true }

/-- R340: a write of the value that the threshold has changes nothing. -/
def Per.thresholdSet (p : Per) (st : Stamp) (old new : Word) : Per := if old = new then p else p.threshold st

/-- R339: the inputs that count as active: enabled, at the level their selected edge leads to. -/
def activeInput (cfg : Word) (level : Bool) : Bool :=
  bitOf cfg 0 && (if fieldOf cfg 1 2 = 1 then !level else level)

/-- R339, Table 9-2: what one frame adds to ACTIVE of the inputs in EVIN. -/
def Inst.tickFrame (act : Nat → Bool) (i : Inst) : Inst :=
  let active := (List.range 8).foldl
    (fun v k => if act k then v.setIfInBounds k (satTo 0xFFFFFFFF (v[k]?.getD 0 + 1)) else v) i.active
  { i with active := active }

/-- R339 at every frame boundary. -/
def Field.periodFrame (f : Field) : Field :=
  let act := fun k => !f.start.holdUp && bitOf f.per.cfg (8 + k) &&
    activeInput (f.ev.cfg[k]?.getD 0#32) (f.ev.level.getLsbD k)
  { f with per := f.per.both (Inst.tickFrame act) }

/-- Table 9-2: GAPS counts the whole frames of an instance inside a GAP interval; the stamp of a boundary lies less than one
increment (R194) past its frame.
DEDUCED, unsafe: notes/assumptions/78.md. -/
def Inst.gap (start fin : Nat) (i : Inst) : Inst :=
  let from_ := (max start i.openStamp.toNat + 2 ^ 26 - 130875) / 2 ^ 26
  { i with gaps := satTo 0xFFFFFFFF (i.gaps + (fin / 2 ^ 26 - from_)) }

/-- A GAP interval ends; an instance that closes at a midnight passed in hold-up counts up to it (R350). -/
def Per.gapEnd (p : Per) (start fin : Stamp) : Per :=
  let mid := match p.midnight with | some m => min m.toNat fin.toNat | none => fin.toNat
  { p with day := p.day.map (Inst.gap start.toNat mid), trip := p.trip.map (Inst.gap start.toNat fin.toNat) }

/-- The interval that is open counts up to a close. -/
def Field.gapNow (f : Field) (st : Stamp) (i : Inst) : Inst :=
  match f.sup.gap with
  | some g => i.gap g.start.toNat st.toNat
  | none => i

/-- The records of one close (Table 12-6, R344): one per channel with a probe type set, and one for the inputs. -/
def periodRecs (f : Field) (i : Inst) (trip : Bool) (cause : Nat) (partialF invalid : Bool) (st : Stamp) :
    List (Slot × List Slot) :=
  let ident := if trip then i.ident else
    let c := civilOf (i.ident * 86400)
    dateBcd c.year c.month c.date
  let flags := partialF.toNat + 2 * i.overlap.toNat + 4 * invalid.toNat + 8 * i.thchg.toNat
  let head := fun (sub xs ch : Nat) => firstSlot 0x06 xs sub st
    [(11, 2, f.per.psn.toNat), (13, 1, 128 * trip.toNat + ch), (14, 4, ident), (18, 1, i.inst), (19, 1, cause),
     (20, 1, flags), (21, 5, stampSec i.openStamp), (26, 1, min i.epochs 255), (27, 4, i.gaps)]
  let chans := ((List.range 4).filter fun n => f.probeType n != 0).map fun n =>
    let a := i.ch[n]?.getD ChAcc.zero
    (head 0 1 n,
      [moreSlot 0x06 1 [(2, 3, if a.count = 0 then 0x800000 else tempAcc24 a.min),
        (5, 3, if a.count = 0 then 0x800000 else tempAcc24 a.max), (8, 4, a.count), (12, 6, twos 6 a.sum),
        (18, 4, a.above), (22, 4, a.below), (26, 2, a.faults)]])
  let act := fun k => if bitOf f.per.cfg (8 + k) then i.active[k]?.getD 0 else 0
  chans ++ [(head 1 2 0xF,
    [moreSlot 0x06 1 [(2, 4, act 0), (6, 4, act 1), (10, 4, act 2), (14, 4, act 3), (18, 1, fieldOf f.per.cfg 8 8)],
     moreSlot 0x06 2 [(2, 4, act 4), (6, 4, act 5), (10, 4, act 6), (14, 4, act 7)]])]

/-- R348: the SKIPPED record of a step that passed whole local dates. -/
def skippedRec (psn : BitVec 16) (st : Stamp) (first last count : Nat) : Slot :=
  let d := fun n => let c := civilOf (n * 86400); dateBcd c.year c.month c.date
  firstSlot 0x06 0 2 st [(11, 2, psn.toNat), (13, 4, d first), (17, 4, d last), (21, 2, count)]

/-- A new instance (R347: OVERLAP and the instance number). -/
def Per.fresh (p : Per) (ident : Nat) (trip partialF : Bool) (st : Stamp) : Inst :=
  let ovl := !trip && (match p.high with | some h => decide (ident ≤ h) | none => false)
  let best := (p.past.filter fun e => e.1 = ident).foldl (fun m e => max m (e.2 + 1)) 1
  { ident := ident, inst := if ovl then min best 255 else 0, partialF := partialF, overlap := ovl, thchg := false,
    openStamp := st, epochs := 0, gaps := 0, ch := Vector.replicate 4 ChAcc.zero, active := Vector.replicate 8 0,
    hold := Vector.replicate 4 none }

/-- R351: at the calendar wrap, H and the closed instances are forgotten. -/
def Per.forget (p : Per) : Per := { p with high := none, past := [] }

/-- R344, R345, R347: close the DAY instance; its records wait for their priority-4 slice (Table 2-4). -/
def Field.closeDay (f : Field) (i : Inst) (cause : Nat) (partialF invalid : Bool) (st : Stamp)
    (extra : List (Slot × List Slot)) : Field :=
  let i := f.gapNow st (i.settleAll f.per.hi f.per.lo false (stampFrames st))
  let recs := periodRecs f i false cause partialF invalid st
  let p := { f.per with
    day := none, psn := f.per.psn + 1,
    high := some (match f.per.high with | some h => max h i.ident | none => i.ident),
    past := ((i.ident, i.inst) :: f.per.past).take 16 }
  { f with per := p }.request 4 32 (.period (recs ++ extra))

/-- R341 to R343, R348 to R350: the period boundary at housekeeping item 3. `zero` is a frame-0 boundary at which
periods are evaluated (R313). -/
def Field.dayBoundary (f : Field) (zero : Bool) : Field :=
  let st := f.clk.stamp
  if f.start.holdUp then
    match zero, f.per.day, f.per.midnight with
    | true, some i, none =>
      if localDay f.clk.civil f.per.effLocal ≠ i.ident then { f with per := { f.per with midnight := some st } } else f
    | _, _, _ => f
  else if !zero && f.per.midnight.isNone then f
  else
    let nl := if zero then f.per.localOfs else f.per.effLocal
    let en := if zero then bitOf f.per.cfg 0 else f.per.dayEn
    let localChg := nl ≠ f.per.effLocal
    let enClr := f.per.dayEn && !en
    let enSet := !f.per.dayEn && en
    let mid := f.per.midnight
    let steps := if zero then f.clk.steps else []
    let day := localDay f.clk.civil nl
    let was := f.per.effLocal
    let f := { f with per := { f.per with dayEn := en, effLocal := nl, midnight := none } }
    match f.per.day with
    | none =>
      if enSet then { f with per := { f.per with day := some (f.per.fresh day false true st) } } else f
    | some i =>
      let moved := zero && day ≠ i.ident
      let causes : List Nat :=
        (if enClr then [6] else []) ++ (if mid.isSome then [7] else []) ++
        (if moved && steps.any (fun x => !x.fwd) then [3] else []) ++
        (if moved && steps.any (fun x => x.fwd) then [2] else []) ++
        (if localChg then [4] else []) ++ (if moved then [1] else [])
      match causes with
      | [] => f
      | cause :: _ =>
        let partialF := i.partialF || causes.any fun c => c = 2 || c = 3 || c = 4 || c = 6
        let invalid := steps.any fun x => x.cleared
        let extra := (steps.filter fun x => !x.cleared && x.fwd).filterMap fun x =>
          (skippedDates nl x).map fun (a, b, n) => (skippedRec f.per.psn x.stamp a b n, ([] : List Slot))
        let wrapped := passedWrap was steps (f.clk.unreduced - f.clk.unreduced % 2 ^ 26) ||
          (mid.isSome && decide (localDay f.clk.civil was < i.ident) && steps.isEmpty)
        let f := f.closeDay i cause partialF invalid (match cause, mid with | 7, some m => m | _, _ => st) extra
        let f := if wrapped then { f with per := f.per.forget } else f
        if en then { f with per := { f.per with day := some (f.per.fresh day false (cause ≠ 1) st) } } else f

/-- R346: open the trip under an id. -/
def Field.tripOpen (f : Field) (ident : Word) : Field :=
  { f with per := { f.per with trip := some (f.per.fresh ident.toNat true false f.clk.stamp) } }

/-- R346, R344: close the trip in the executing slice, stamped at that frame's boundary. -/
def Field.tripClose (f : Field) (i : Inst) : Field :=
  let i := f.gapNow f.clk.stamp (i.settleAll f.per.hi f.per.lo false (stampFrames f.clk.stamp))
  let recs := periodRecs f i true 5 i.partialF false f.clk.stamp
  let f := { f with per := { f.per with trip := none, psn := f.per.psn + 1 } }
  (recs.foldl (fun f r => f.stageRec r.1 r.2) f).setBit sbPeriod

/-- R196: an epoch started counts in the open instances (Table 12-6, byte 26). -/
def Per.epoch (p : Per) : Per := p.both fun i => { i with epochs := i.epochs + 1 }

end Sys2Proof.Machine
end

