-- ==== Sys2Proof/Machine/Alarms.lean ====
section
/-! DEFINITION. Sys2Proof/Machine/Alarms.lean: alarms, periodic events, the ticker, the wake outputs and the KEEP bytes
(09_alarms_periods.md sections 1 to 5). -/

namespace Sys2Proof.Machine

/-! ### The compare set -/

/-- The unmasked compare values of an alarm in decimal: SEC, MIN, HOUR, DOW, DATE, MONTH, YEAR (R312). -/
structure Want where
  sec : Option Nat
  min : Option Nat
  hour : Option Nat
  dow : Option Nat
  date : Option Nat
  month : Option Nat
  year : Option Nat
  deriving DecidableEq, Repr

/-- One compare field of an alarm set (Table 9-4). -/
def alarmField (time date ctl : Word) (i : Nat) : Option Byte :=
  if bitOf ctl i then none
  else some (BitVec.ofNat 8 (if i < 4 then fieldOf time (8 * i) 8 else fieldOf date (8 * (i - 4)) 8))

def wantOf (time date ctl : Word) : Want :=
  let v := fun i => (alarmField time date ctl i).map ofBcd
  ⟨v 0, v 1, v 2, v 3, v 4, v 5, v 6⟩

/-- A masked field matches everything. -/
def wantIs (w : Option Nat) (n : Nat) : Bool :=
  match w with
  | none => true
  | some v => v == n

/-- The date fields match a day number of the cycle. -/
def Want.day (w : Want) (d : Nat) : Bool :=
  let c := civilOf (d * 86400)
  wantIs w.dow (dowOf d) && wantIs w.date c.date && wantIs w.month c.month && wantIs w.year (c.year % 100)

/-- The time fields match a second of the day. -/
def Want.tod (w : Want) (t : Nat) : Bool :=
  wantIs w.hour (t / 3600) && wantIs w.min (t / 60 % 60) && wantIs w.sec (t % 60)

/-- R312: the alarm matches a civil second. -/
def Want.second (w : Want) (s : Nat) : Bool := w.day (s / 86400 % 146097) && w.tod (s % 86400)

/-- How many of the first `n` values of a range match, out of those below `n`. -/
def cntBelow (w : Option Nat) (n : Nat) : Nat :=
  match w with
  | none => n
  | some v => if v < n then 1 else 0

/-- Matching seconds of a day before second `t`. -/
def Want.todBelow (w : Want) (t : Nat) : Nat :=
  let per60 := fun o => cntBelow o 60
  let h := t / 3600
  let m := t / 60 % 60
  let s := t % 60
  cntBelow w.hour h * per60 w.min * per60 w.sec +
    (if wantIs w.hour h then
      cntBelow w.min m * per60 w.sec + (if wantIs w.min m then cntBelow w.sec s else 0) else 0)

/-- The first matching second of a day at or after `t`, if any before its end. -/
def Want.todFirst (w : Want) (t : Nat) : Option Nat :=
  let base := w.todBelow t
  match (List.range 24).find? (fun h => base < w.todBelow ((h + 1) * 3600)) with
  | none => none
  | some h =>
    match (List.range 60).find? (fun m => base < w.todBelow (h * 3600 + (m + 1) * 60)) with
    | none => none
    | some m => (List.range 60).findSome? fun s =>
        let x := h * 3600 + m * 60 + s
        if base < w.todBelow (x + 1) then some x else none

/-- R318: the first matching second in the seconds [a, b) and how many match, the count stopping at 255, day by day. -/
def Want.scan (w : Want) : Nat → Int → Int → Option Int × Nat → Option Int × Nat
  | 0, _, _, acc => acc
  | k + 1, a, b, (first, n) =>
    if b ≤ a || 255 ≤ n then (first, n)
    else
      let d := a / 86400
      let fin := Min.min b ((d + 1) * 86400)
      let t0 := (a - d * 86400).toNat
      let t1 := (fin - d * 86400).toNat
      if w.day (d % 146097).toNat then
        let c := w.todBelow t1 - w.todBelow t0
        let first := match first with
          | some x => some x
          | none => if c = 0 then none else (w.todFirst t0).map fun t => d * 86400 + (t : Int)
        w.scan k fin b (first, n + c)
      else w.scan k fin b (first, n)

/-- R318 over one forward step: seconds whose start lies in [c_old, c_new). -/
def Want.scanStep (w : Want) (x : StepSpan) (acc : Option Int × Nat) : Option Int × Nat :=
  let a := -((-x.old) / 2 ^ 32)
  let b := -((-x.new) / 2 ^ 32)
  w.scan (((b - a) / 86400).toNat + 2) a b acc

/-- R316: a staged alarm set is refused. -/
def alarmBad (time date ctl : Word) : Bool :=
  let v := fun i => alarmField time date ctl i
  let bad := fun (o : Option Byte) (lo hi : Nat) => match o with
    | none => false
    | some b => !isBcd b || decide (ofBcd b < lo) || decide (hi < ofBcd b)
  bad (v 0) 0 59 || bad (v 1) 0 59 || bad (v 2) 0 23 || bad (v 3) 1 7 || bad (v 4) 1 31 || bad (v 5) 1 12 ||
  bad (v 6) 0 99 ||
  (match v 4, v 5 with
    | some d, some m => decide (monthLen 2000 (ofBcd m) < ofBcd d)
    | _, _ => false)

/-! ### Wake outputs (R329 to R333) -/

/-- A new drive of an output (R329, R330): its state, the pulse frames left and those of the drive; `elapsed` frames have passed
since the firing boundary. A held level stays as it is, and so does an output whose pulse was over before its slice ran.
DESIGN CHOICE, unsafe: notes/assumptions/82.md. -/
def driveOut (pulse : Bool) (len elapsed : Nat) (on : Bool) (left : Nat) : Bool × Nat :=
  if on && left = 0 then (on, left)
  else if !pulse then (true, 0)
  else if len ≤ elapsed then (on, left)
  else (true, len - elapsed)

/-- Drive PON_F (R329, R330). -/
def Wake.driveF (w : Wake) (elapsed : Nat) : Wake :=
  let d := driveOut (bitOf w.ponCfg 16) (fieldOf w.ponCfg 24 8) elapsed w.ponF w.ponFLeft
  { w with ponF := d.1, ponFLeft := d.2 }

/-- The field side's account of PON_H, which it drives by `WAKE` (R331). -/
def Wake.driveH (w : Wake) (elapsed : Nat) : Wake :=
  let d := driveOut (bitOf w.ponCfg 0) (fieldOf w.ponCfg 8 8) elapsed w.ponH w.ponHLeft
  { w with ponH := d.1, ponHLeft := d.2 }

/-- R330: count the pulse frames of one boundary. -/
def Wake.tick (w : Wake) : Wake :=
  let w := if 0 < w.ponHLeft then { w with ponHLeft := w.ponHLeft - 1, ponHDue := w.ponHLeft = 1 } else w
  if 0 < w.ponFLeft then { w with ponFLeft := w.ponFLeft - 1, ponFDue := w.ponFLeft = 1 } else w

/-- R325: the ticker fires at this stamp frame boundary. -/
def Wake.tickerFires (w : Wake) : Bool := bitOf w.tkrCfg 24 && decide (w.tkrLeft ≤ 1)

/-- R325: one stamp frame boundary of the ticker; in hold-up a firing is dropped (R327). -/
def Wake.tickerFrame (w : Wake) (holdUp : Bool) : Wake :=
  if w.tickerFires then { w with tkrLeft := fieldOf w.tkrCfg 0 24 + 1, tkrDue := w.tkrDue || !holdUp }
  else if bitOf w.tkrCfg 24 then { w with tkrLeft := w.tkrLeft - 1 }
  else w

/-- Housekeeping item 4 (R325, R330): the pulses, and the ticker, whose actions are a slice of priority 4 (Table 2-4). -/
def Field.tickerItem (f : Field) : Field :=
  let fires := f.wake.tickerFires
  let acts := BitVec.ofNat 5 (fieldOf f.wake.tkrCfg 25 5)
  let f := { f with wake := f.wake.tick.tickerFrame false }
  if fires then f.request 4 32 (.action ⟨4, acts, 0#4, f.clk.civilSec, 0, f.clk.stamp, f.clk.epn⟩) else f

/-- Send a `WAKE` (R124); the alarm firing that has no record yet waits for its answer (R315, R24). -/
def Field.sendWake (f : Field) (w0 : Word) (a : Option Firing) : Field :=
  if f.bar.linked then { f with wake := { f.wake with sent := f.wake.sent ++ [a] } }.send .wake [w0] else f

/-- R331: release PON_H by `WAKE`; a dropped one leaves it unchanged. -/
def Field.releaseH (f : Field) : Field :=
  if f.bar.linked then
    { f with wake := { f.wake with ponH := false, ponHLeft := 0, ponHDue := false } }.sendWake 0x00000000#32 none
  else f

/-- R329: release PON_F. -/
def Field.releaseF (f : Field) : Field :=
  { f with wake := { f.wake with ponF := false, ponFLeft := 0, ponFDue := false } }

/-! ### Firing (R314, R315, R318 to R324) -/

/-- R314: the flag, the count and the last flags of a firing. -/
def Field.countFiring (f : Field) (n : Nat) (flags : BitVec 4) : Field :=
  let f := match f.al[n]? with
    | none => f
    | some a => { f with al := f.al.setIfInBounds n { a with fired := satAdd a.fired 1, lflags := flags } }
  f.setBit (if n = 0 then sbAl1f else sbAl2f)

/-- R312, R318 to R320, R322: the compare of one alarm at a frame-0 boundary; a match during hold-up that finds a firing held is
counted in that firing's record and is no firing. DEDUCED, unsafe: notes/assumptions/80.md. -/
def Field.compareAlarm (f : Field) (n : Nat) : Field :=
  match f.al[n]? with
  | none => f
  | some a =>
    if !bitOf a.ctl 15 then f
    else
      let w := wantOf a.time a.date a.ctl
      let sec := f.clk.civilSec
      let hit := w.second sec
      let late := (f.clk.steps.filter fun x => x.fwd && !x.cleared).foldl (fun acc x => w.scanStep x acc) (none, 0)
      let isLate := 0 < late.2
      if !hit && !isLate then f
      else
        let start := f.clk.unreduced / 2 ^ 32 * 2 ^ 32
        let rep := hit && (match f.clk.repeatEnd with | some e => decide (start < e) | none => false)
        let second := match late.1 with
          | some s => (s % ((Config.cycleSec : Nat) : Int)).toNat
          | none => sec
        let flags : BitVec 4 := BitVec.ofNat 4 ((decide isLate).toNat + 2 * rep.toNat + 4 * f.start.holdUp.toNat)
        let fire : Firing := ⟨n + 1, BitVec.ofNat 5 (fieldOf a.ctl 8 5), flags, second, min late.2 255, f.clk.stamp, f.clk.epn⟩
        match f.start.holdUp, a.held with
        | true, some h =>
          { f with al := f.al.setIfInBounds n { a with held := some { h with count := min (h.count + 1) 255 } } }
        | hold, _ =>
          let f := f.countFiring n flags
          if !hold then f.request 4 32 (.action fire)
          else match f.al[n]? with
            | none => f
            | some a' => { f with al := f.al.setIfInBounds n { a' with held := some fire } }

/-- R323, R324, R327: the periodic events at a frame-0 boundary. -/
def Field.periodicEvents (f : Field) : Field :=
  if f.start.holdUp then f
  else
    let t := f.clk.civilSec % 86400
    let e := f.wake.perEvt
    let occurs := bitOf e 0 || (bitOf e 1 && t % 60 == 0) || (bitOf e 2 && t % 3600 == 0) || (bitOf e 3 && t == 0)
    let acts := BitVec.ofNat 5 (fieldOf e 8 5) &&& 0x1E#5
    if occurs && acts ≠ 0#5 then
      f.request 4 32 (.action ⟨3, acts, 0#4, f.clk.civilSec, 0, f.clk.stamp, f.clk.epn⟩)
    else f

/-- R322: the firings held through hold-up are performed at the first boundary after the warm-start commit. -/
def Field.releaseHeld (f : Field) (n : Nat) : Field :=
  match f.al[n]? with
  | none => f
  | some a =>
    match a.held with
    | none => f
    | some h =>
      { f with al := f.al.setIfInBounds n { a with held := none } }.request 4 32 (.action { h with flags := h.flags ||| 4#4 })

/-- Housekeeping item 3 but for the period boundary: alarms, then periodic events (R312, R313, R323). -/
def Field.alarmItem (f : Field) : Field :=
  if f.clk.frame ≠ 0 || f.bit sbTimeInvalid then f else ((f.compareAlarm 0).compareAlarm 1).periodicEvents

/-- The end of housekeeping item 3 at a frame-0 boundary: the steps since the last one have been seen (R318, R342), and the
seconds shown again may be over (R320). -/
def Field.spendSteps (f : Field) : Field :=
  if f.clk.frame ≠ 0 then f
  else
    let past := match f.clk.repeatEnd with | some e => decide (e ≤ f.clk.unreduced) | none => false
    { f with clk := { f.clk with steps := [], repeatEnd := if past then none else f.clk.repeatEnd } }

/-! ### SNAP requests (R314, R328, R392) -/

/-- A SNAP of a channel is waiting to start (R328).
DEDUCED, unsafe: notes/assumptions/58.md. -/
def Temp.snapWaiting (t : Temp) (n : Nat) : Bool := t.waiting.any fun w => w.ch = n && w.kind = .snap

/-- R314, R328, R403: one SNAP conversion of every channel with a probe type set, requested at the boundary of stamp `st` under
epoch `epn`; one waiting already is merged. -/
def Field.snapAt (f : Field) (st : Stamp) (epn : BitVec 16) : Field :=
  let chans := (List.range 4).filter fun n => f.probeType n != 0 && !f.temp.snapWaiting n
  if chans.isEmpty then f
  else
    let t := f.temp
    let due := f.clk.fno - (stampFrames f.clk.stamp - stampFrames st)
    let s : SetRec := ⟨.snap, due, f.clk.fno, st, epn, chans.map fun n => ⟨n, none⟩⟩
    { f with temp := { t with waiting := t.waiting ++ chans.map fun n => ⟨n, .snap, due, f.clk.fno⟩, sets := t.sets ++ [s] } }

/-- A SNAP requested at the current boundary (R403, R594). -/
def Field.snap (f : Field) : Field := f.snapAt f.clk.stamp f.clk.epn

/-! ### Performing an action set (Table 9-1, R315, R331) -/

/-- R315, R24: the record of a firing whose `WAKE` was dropped: `DROPPED`, and the actions that were performed. -/
def Firing.dropped (a : Firing) : Firing := { a with acts := a.acts &&& 0x1C#5, flags := a.flags ||| 8#4 }

/-- `DROPPED` in the last flags of an alarm (Table 9-4). -/
def Field.noteDropped (f : Field) (src : Nat) : Field :=
  match f.al[src - 1]? with
  | none => f
  | some x => { f with al := f.al.setIfInBounds (src - 1) { x with lflags := x.lflags ||| 8#4 } }

/-- The actions of a firing: WAKE, PON_F, SNAP, and the ALARM record under R315. Periodic events and the ticker (sources 3 and 4)
carry a `SRC` and a record `SUB` that the spec does not state, and their `ATTN` bit is reserved (R326).
DESIGN CHOICE, safe: notes/assumptions/18.md; DEDUCED, unsafe: notes/assumptions/102.md (when they leave a record). -/
def Field.perform (f : Field) (a : Firing) : Field :=
  let other := decide (3 ≤ a.src)
  let acts := if other then a.acts &&& 0x1E#5 else a.acts
  let attn := acts.getLsbD 0
  let ponh := acts.getLsbD 1
  let elapsed := if a.flags.getLsbD 2 then 0 else stampFrames f.clk.stamp - stampFrames a.stamp
  let wakes := attn || ponh
  let dropped := wakes && !f.bar.linked
  let src := if other then f.free.toNat % 16 else a.src
  let done : Firing := { a with acts := acts, src := if other then f.free.toNat / 16 % 64 else a.src }
  let f := if other then f.freeNext else f
  let records := acts.getLsbD 4 || (!other && a.flags ≠ 0#4)
  let w0 : Word := BitVec.ofNat 32 (src * 2 ^ 28 + ponh.toNat * 2 ^ 27 + attn.toNat * 2 ^ 26)
  let f := if wakes then f.sendWake w0 (if records || other then none else some done) else f
  let f := if ponh && !dropped then { f with wake := f.wake.driveH elapsed } else f
  let f := if acts.getLsbD 2 then { f with wake := f.wake.driveF elapsed } else f
  let f := if acts.getLsbD 3 then (if a.flags.getLsbD 2 then f.snap else f.snapAt a.stamp a.epn) else f
  let f := if dropped && !other then f.noteDropped a.src else f
  if records || (dropped && !other) then f.stage (recAlarm (if dropped then done.dropped else done)) else f

/-- R315, R24, R122: the link is lost: a firing whose `WAKE` was not answered and that has no record gets it with `DROPPED`. PON_H
in pulse mode is released by the host side (R332).
DESIGN CHOICE, unsafe: notes/assumptions/82.md. -/
def Field.wakesLost (f : Field) : Field :=
  let lost := f.wake.sent.filterMap id
  let pulse := decide (0 < f.wake.ponHLeft) || f.wake.ponHDue
  let w := { f.wake with sent := [] }
  let f := { f with wake := if pulse then { w with ponH := false, ponHLeft := 0, ponHDue := false } else w }
  lost.foldl (fun f a => (f.noteDropped a.src).stage (recAlarm a.dropped)) f

/-- A `WAKE` was answered: its firing needs no more (R113). -/
def Wake.answered (w : Wake) : Wake := { w with sent := w.sent.tail }

/-! ### KEEP bytes (R334 to R336) -/

/-- R335: a read of a KEEP byte checks its parity. -/
def Field.keepCheck (f : Field) (n : Nat) : Field :=
  if f.keep.bad.getLsbD n then
    { f with keep := { f.keep with perr := f.keep.perr ||| (1#64 <<< n) } }.setBit sbKeepLost
  else f

/-- R335: a write stores the byte and clears PERR. -/
def Keep.write (k : Keep) (n : Nat) (b : Byte) : Keep :=
  let m : BitVec 64 := ~~~(1#64 <<< n)
  { k with bytes := k.bytes.setIfInBounds n b, bad := k.bad &&& m, perr := k.perr &&& m }

/-- R335: every byte is checked at a warm start and at a watchdog restart. -/
def Field.keepCheckAll (f : Field) : Field :=
  let f := if f.keep.bad = 0#64 then f else f.setBit sbKeepLost
  { f with keep := { f.keep with perr := f.keep.perr ||| f.keep.bad } }

end Sys2Proof.Machine
end

