-- ==== Sys2Proof/Machine/Events.lean ====
section
/-! DEFINITION. Sys2Proof/Machine/Events.lean: capture of edges, the filters, the queue and the EVENT and OVF records
(10_event_capture.md). -/

namespace Sys2Proof.Machine

/-! ### Configuration of an input (Table 10-4) -/

def evEnabled (c : Word) : Bool := bitOf c 0
def evEdgeSel (c : Word) : Nat := fieldOf c 1 2
def evFilt (c : Word) : Nat := fieldOf c 3 3
def evJrn (c : Word) : Bool := bitOf c 6

def Field.evCfg (f : Field) (i : Nat) : Word := f.ev.cfg[i]?.getD 0#32

/-- R356: the edge is in a selected direction. -/
def edgeSelected (c : Word) (rising : Bool) : Bool :=
  match evEdgeSel c with
  | 0 => rising
  | 1 => !rising
  | _ => true

/-- Table 10-1: the tick after the raw edge at which a hold completes. -/
def holdTicks (filt : Nat) : Nat := if filt = 2 then 2 else if filt = 3 then 34 else 1050

/-- One bit of a byte set to a value. -/
def setBit8 (w : BitVec 8) (i : Nat) (b : Bool) : BitVec 8 :=
  let m : BitVec 8 := 1#8 <<< i
  if b then w ||| m else w &&& ~~~m

/-! ### Capture (R360 to R368) -/

/-- Tick time of an instant `ps` after tick `tick` of the current frame, in 1/8 ps (one tick is 30.517578125 µs). -/
def tickTime8 (ticks tick ps : Nat) : Nat := (ticks + tick) * 244140625 + ps * 8

/-- The captures that filter holds keep. -/
def Ev.heldCaps (e : Ev) : List Cap := e.hold.toList.filterMap fun h => h.bind fun x => x.cap

/-- R360, R365: the lanes of the fine captures whose t2 comes after tick `now`. -/
def Ev.pendingLanes (e : Ev) (now : Nat) : List Nat :=
  ((e.caps ++ e.heldCaps).filter fun c => !c.coarse && decide (now ≤ c.t1)).map (fun c => c.input / 2) ++
    (e.stray.filter fun x => decide (now ≤ x.2)).map (·.1)

/-- R365: the fine captures a lane still holds. -/
def Ev.lanePending (e : Ev) (lane now : Nat) : Nat := (e.pendingLanes now).count lane

/-- A capture leads to no event; a fine one still runs to its t2. -/
def Ev.drop (e : Ev) (now : Nat) (c : Cap) : Ev :=
  if c.coarse then e else { e with stray := (e.stray.filter fun x => decide (now ≤ x.2)) ++ [(c.input / 2, c.t1)] }

/-- A filter hold is abandoned or cancelled (R353, R357, R358, R370). -/
def Ev.cancelHold (e : Ev) (now i : Nat) : Ev :=
  let g := { e with hold := e.hold.setIfInBounds i none }
  match (e.hold[i]?.getD none).bind fun h => h.cap with
  | some c => g.drop now c
  | none => g

/-- R365: the edge is stamped coarse; a calibration slice of its lane takes the first 40 ticks of the background lane (R466). -/
def Field.edgeCoarse (f : Field) (lane tick at8 : Nat) (moving : Bool) : Bool :=
  let calSlice := decide (f.cal.sliceLane = some lane) && decide (f.clk.frameLen - 50 ≤ tick) &&
    decide (tick < f.clk.frameLen - 10)
  decide (at8 < f.ev.dead[lane]?.getD 0) || decide (16 ≤ f.ev.lanePending lane (f.clk.ticks + tick)) ||
  !f.start.restored || (f.start.calSource = 3 && !f.ev.laneCal.getLsbD lane) || calSlice || moving

/-- R367: the fine capture of the higher input of a lane that came at most 1 ns before an edge of the lower one. -/
def Cap.twinOf (c : Cap) (i at8 : Nat) : Bool := c.input = i + 1 && !c.coarse && decide (at8 ≤ c.at8 + 8000)

/-- R367: two edges of one lane within 1 ns: the lower-numbered input is fine. The capture of the higher one, if it
came first, becomes coarse. -/
def pairCoarse (i at8 : Nat) (c : Cap) : Cap :=
  if c.twinOf i at8 then { c with coarse := true, ready := c.t1 } else c

/-- The lane's capture of an accepted or pending edge; a fine one starts a dead time of 2 µs (R365).
DEDUCED, unsafe: notes/assumptions/75.md. -/
def Field.capture (f : Field) (i : Nat) (rising : Bool) (tick ps n1 : Nat) (moving : Bool) : Cap × Field :=
  let lane := i / 2
  let at8 := tickTime8 f.clk.ticks tick ps
  let e := f.ev
  let twin := i % 2 = 0 && (e.caps ++ e.heldCaps).any fun c => c.twinOf i at8
  let dead := if twin then 0 else e.dead[lane]?.getD 0
  let f0 := { f with ev := { e with dead := e.dead.setIfInBounds lane dead } }
  let coarse := f0.edgeCoarse lane tick at8 moving
  let e1 := if twin && !coarse then
      { e with
        caps := e.caps.map (pairCoarse i at8),
        hold := e.hold.map fun o => o.map fun (h : FHold) => { h with cap := h.cap.map (pairCoarse i at8) } }
    else e
  let dead' := if coarse then e.dead else e.dead.setIfInBounds lane (at8 + 16000000)
  let t1 := f.clk.ticks + tick + 1
  (⟨i, rising, coarse, f.start.rc, t1, n1, f.clk.atTick (tick + 1), f.clk.incr, evFilt (f.evCfg i), at8,
      t1 + (!coarse).toNat⟩,
    ({ f with ev := { e1 with dead := dead' } }.domain (16 + 2 * lane)).domain (17 + 2 * lane))

/-- R360, Table 3-8: the lanes whose rings run on into the frame that begins are ON in it. -/
def Field.ringDomains (f : Field) : Field :=
  (f.ev.pendingLanes f.clk.ticks).foldl (fun f k => (f.domain (16 + 2 * k)).domain (17 + 2 * k)) f

/-- R361, R362: the stamp of a fine capture, whose fraction is completed by `n2`; rounded down to 2^-32 s. -/
def Field.fineStamp (f : Field) (c : Cap) (n2 : Nat) : Stamp :=
  let lane := c.input / 2
  let entry := fun n =>
    let w := f.cal.ws.inl[16 * lane + (n % 32) / 2]?.getD 0#32
    if n % 2 = 0 then w.truncate 16 else (w >>> 16).truncate 16
  let a := Config.tdcInl (entry c.n1) c.n1
  let b := Config.tdcInl (entry n2) n2
  let lat := (f.cal.ws.lat[c.input]?.getD 0#8).toNat +
    (if c.filt = 1 then (f.cal.ws.flt8[c.input]?.getD 0#8).toNat else 0)
  let (a, b) := if c.n1 = 0 || b = 0 then (0, 1) else (a, b)
  BitVec.ofInt 72 ((((c.st1.toNat : Int) * 4 - (lat : Int)) * 2 ^ 30 * (b : Int) - (a * c.inc1 : Nat)) / (2 ^ 32 * (b : Int)))

/-! ### Queue and records (R363, R372 to R379) -/

/-- R375, R379: the EVENT record of an event; one refused counts in EV_NOREC. -/
def Field.eventRec (f : Field) (e : EvEntry) (filt : Nat) : Field :=
  let slot := recEvent e.input e.rising e.coarse e.rc e.stamp (epochAt f.clk e.stamp).2 filt
  let f := if f.roomFor 1 then f else { f with ev := { f.ev with norec := satAdd f.ev.norec 1 } }
  f.stage slot

/-- R372, R376, R377: queue an entry, or refuse it with the queue full. -/
def Field.enqueue (f : Field) (e : EvEntry) : Field :=
  if f.ev.queue.length < Config.eventQueueDepth then { f with ev := { f.ev with queue := f.ev.queue ++ [e] } }
  else
    let first := !f.bit sbEvovf
    let f := { f with ev := { f.ev with
      lost := satAdd f.ev.lost 1,
      refused := if first then 1 else f.ev.refused + 1,
      refusedFirst := if first then e.stamp else f.ev.refusedFirst } }
    if first then
      (f.setBit sbEvovf).stage (recOvf 2 f.clk.stamp 1 e.stamp f.ev.queue.length)
    else f

/-- R363, R375, R376: an event is complete: its entry is queued and its EVENT record staged. -/
def Field.eventDone (f : Field) (c : Cap) (n2 : Nat) : Field :=
  let stamp := if c.coarse then c.st1 else f.fineStamp c n2
  let e : EvEntry := ⟨c.input, c.rising, c.coarse, c.rc, stamp⟩
  let f := if c.coarse then { f with ev := { f.ev with coarse := satAdd f.ev.coarse 1 } } else f
  let f := f.enqueue e
  if evJrn (f.evCfg c.input) then f.eventRec e c.filt else f

/-- The instant that a capture's stamp names, in 1/8 ps of tick time: t1 for a coarse one, else the edge. -/
def Cap.instant (c : Cap) : Nat := if c.coarse then c.t1 * 244140625 else c.at8

/-- R363, R364: the capture that is queued next of those that are complete at tick `now`: by the tick at which they completed,
then in stamp order.
DEDUCED, unsafe: notes/assumptions/80.md. -/
def nextCap (now : Nat) (cs : List Cap) : Option Cap :=
  cs.foldl (fun b c => if c.ready ≤ now then (match b with
    | none => some c
    | some x =>
      if decide (c.ready < x.ready) || (decide (c.ready = x.ready) && decide (c.instant < x.instant)) then some c else some x)
    else b) none

/-! ### Edges and holds (R354 to R359) -/


/-- R354: the level of an input that waits for it is taken from the pin. -/
def Ev.takeLevel (e : Ev) (i : Nat) : Ev :=
  { e with level := setBit8 e.level i (e.raw.getLsbD i), arm := setBit8 e.arm i false }

/-- The filtered levels once those that wait for their tick are taken (R354, R359). -/
def Ev.shown (e : Ev) : BitVec 8 := (e.level &&& ~~~e.arm) ||| (e.raw &&& e.arm)

/-- R354 at a boundary: the levels whose tick has come are taken. -/
def Ev.takeLevels (e : Ev) (now : Nat) : Ev := if e.armAt ≤ now then { e with level := e.shown, arm := 0#8 } else e

/-- R353 to R355: the input is configured anew at the boundary tick `now`: its hold is abandoned; an enabled input takes its level
at the next tick, a disabled one shows 0. -/
def Ev.configure (e : Ev) (now i : Nat) (c : Word) : Ev :=
  let e := { e.cancelHold now i with cfg := e.cfg.setIfInBounds i c }
  if evEnabled c then { e with arm := setBit8 e.arm i true, armAt := now + 1 }
  else { e with arm := setBit8 e.arm i false, level := setBit8 e.level i false }

/-- An edge that the filter hands to the input: FILT 0 and 1 accept it at once (R765), FILT 2 to 4 start or cancel a
hold (R357 to R359); the lane stamps every edge in a selected direction. -/
def Field.acceptEdge (f : Field) (i : Nat) (rising : Bool) (tick ps n1 : Nat) (moving : Bool) : Field :=
  let c := f.evCfg i
  let now := f.clk.ticks + tick
  let r := if edgeSelected c rising then
      (let r := f.capture i rising tick ps n1 moving; (some r.1, r.2))
    else (none, f)
  let e := r.2.ev
  if evFilt c < 2 then
    { r.2 with ev := { e with level := setBit8 e.level i rising, caps := e.caps ++ r.1.toList } }
  else
    let e := e.cancelHold now i
    if rising = e.level.getLsbD i then
      { r.2 with ev := match r.1 with | some x => e.drop now x | none => e }
    else
      { r.2 with ev := { e with hold := e.hold.setIfInBounds i (some ⟨r.1, rising, now + holdTicks (evFilt c)⟩) } }

/-- EV_EDGE (R356): the pin changes; a disabled input, hold-up and the wait for the first level ignore the edge
(R354, R355, R370). -/
def doEvEdge (i : Fin 8) (rising : Bool) (tick ps n1 : Nat) (moving : Bool) (f : Field) : Field :=
  let n := i.val
  let f0 := { f with ev := { f.ev with raw := setBit8 f.ev.raw n rising } }
  if !f.runs || !evEnabled (f.evCfg n) then f0
  else if f.ev.arm.getLsbD n then
    if f.clk.ticks + tick < f.ev.armAt then f0
    else
      let f1 := { f with ev := f.ev.takeLevel n }
      { f1 with ev := { f1.ev with raw := setBit8 f1.ev.raw n rising } }.acceptEdge n rising tick ps n1 moving
  else f0.acceptEdge n rising tick ps n1 moving

/-- FILTER_HOLD_COMPLETE (R357 to R359): the level changes and the pending edge, if any, becomes an event. -/
def doFilterHold (i : Fin 8) (tick : Nat) (f : Field) : Field :=
  match f.ev.hold[i.val]?.getD none with
  | none => f
  | some h =>
    if !f.runs || f.clk.ticks + tick < h.due then f
    else
      let e := { f.ev with hold := f.ev.hold.setIfInBounds i.val none, level := setBit8 f.ev.level i.val h.level }
      match h.cap with
      | none => { f with ev := e }
      | some c => { f with ev := { e with caps := e.caps ++ [{ c with ready := max c.ready h.due }] } }

/-- EVENT_QUEUE (R363, R364): a capture of the input completes, when it is the next in queue order. -/
def doEventQueue (i : Fin 8) (tick n2 : Nat) (f : Field) : Field :=
  match nextCap (f.clk.ticks + tick) f.ev.caps with
  | none => f
  | some c =>
    if c.input = i.val && f.start.alive then
      ({ f with ev := { f.ev with caps := f.ev.caps.erase c } }.eventDone c n2).sram 1
    else f

/-- STAGING_ROOM_RETURN (R379): once staging has room, one OVF record tells what was refused; before mount R162
applies. -/
def doStagingRoom (f : Field) : Field :=
  if f.start.mounted && decide (0 < f.jrn.refused) && f.roomFor 1 then
    let n := f.jrn.refused
    let first := f.jrn.refusedFirst
    { f with jrn := { f.jrn with refused := 0 } }.stage (recOvf 4 f.clk.stamp n first 0)
  else f

/-- R378: at the clear of EVOVF. -/
def Field.evovfCleared (f : Field) : Field :=
  let n := f.ev.refused
  let first := f.ev.refusedFirst
  { f with ev := { f.ev with refused := 0 } }.stage (recOvf 3 f.clk.stamp n first f.ev.queue.length)

/-- The words of an `EVT` (Table 4-6). -/
def evtWords (e : EvEntry) (more : Bool) (left : Nat) : List Word :=
  let w0 := more.toNat * 2 ^ 31 + e.input * 2 ^ 28 + e.rising.toNat * 2 ^ 27 + e.coarse.toNat * 2 ^ 26 +
    e.rc.toNat * 2 ^ 25 + (min left 255) * 2 ^ 8
  [BitVec.ofNat 32 w0 ||| stampHi e.stamp, stampLo e.stamp, stampFr e.stamp]

/-- R374: the `EVT` transactions of one `EV?`, in queue order. -/
def evtSends (n : Nat) (q : List EvEntry) : List (List Word) :=
  let k := min n q.length
  ((List.range k).zip q).map fun (i, e) => evtWords e (i + 1 < k) (q.length - 1 - i)

end Sys2Proof.Machine
end

