-- ==== Sys2Proof/Machine/Crypto.lean ====
section
/-! DEFINITION. Sys2Proof/Machine/Crypto.lean: SHA-256 and HMAC-SHA-256 (12_journal.md R414, R427, R432), the CRC-32 of
13_calibration.md Table 13-4 and the CRC-16 of 15_command_line.md Table 15-4. -/

namespace Sys2Proof.Machine

/-! ### SHA-256 (FIPS 180-4) -/

/-- The round constants, first half. -/
def shaK1 : List Word :=
  [0x428a2f98#32, 0x71374491#32, 0xb5c0fbcf#32, 0xe9b5dba5#32, 0x3956c25b#32, 0x59f111f1#32, 0x923f82a4#32, 0xab1c5ed5#32,
   0xd807aa98#32, 0x12835b01#32, 0x243185be#32, 0x550c7dc3#32, 0x72be5d74#32, 0x80deb1fe#32, 0x9bdc06a7#32, 0xc19bf174#32,
   0xe49b69c1#32, 0xefbe4786#32, 0x0fc19dc6#32, 0x240ca1cc#32, 0x2de92c6f#32, 0x4a7484aa#32, 0x5cb0a9dc#32, 0x76f988da#32,
   0x983e5152#32, 0xa831c66d#32, 0xb00327c8#32, 0xbf597fc7#32, 0xc6e00bf3#32, 0xd5a79147#32, 0x06ca6351#32, 0x14292967#32]

/-- The round constants, second half. -/
def shaK2 : List Word :=
  [0x27b70a85#32, 0x2e1b2138#32, 0x4d2c6dfc#32, 0x53380d13#32, 0x650a7354#32, 0x766a0abb#32, 0x81c2c92e#32, 0x92722c85#32,
   0xa2bfe8a1#32, 0xa81a664b#32, 0xc24b8b70#32, 0xc76c51a3#32, 0xd192e819#32, 0xd6990624#32, 0xf40e3585#32, 0x106aa070#32,
   0x19a4c116#32, 0x1e376c08#32, 0x2748774c#32, 0x34b0bcb5#32, 0x391c0cb3#32, 0x4ed8aa4a#32, 0x5b9cca4f#32, 0x682e6ff3#32,
   0x748f82ee#32, 0x78a5636f#32, 0x84c87814#32, 0x8cc70208#32, 0x90befffa#32, 0xa4506ceb#32, 0xbef9a3f7#32, 0xc67178f2#32]

/-- The eight working words. -/
structure ShaSt where
  a : Word
  b : Word
  c : Word
  d : Word
  e : Word
  f : Word
  g : Word
  h : Word
  deriving DecidableEq, Repr

def shaInit : ShaSt :=
  ⟨0x6a09e667#32, 0xbb67ae85#32, 0x3c6ef372#32, 0xa54ff53a#32, 0x510e527f#32, 0x9b05688c#32, 0x1f83d9ab#32, 0x5be0cd19#32⟩

/-- One round. -/
def shaRound (s : ShaSt) (k w : Word) : ShaSt :=
  let s1 := s.e.rotateRight 6 ^^^ s.e.rotateRight 11 ^^^ s.e.rotateRight 25
  let ch := (s.e &&& s.f) ^^^ (~~~s.e &&& s.g)
  let t1 := s.h + s1 + ch + k + w
  let s0 := s.a.rotateRight 2 ^^^ s.a.rotateRight 13 ^^^ s.a.rotateRight 22
  let maj := (s.a &&& s.b) ^^^ (s.a &&& s.c) ^^^ (s.b &&& s.c)
  ⟨t1 + (s0 + maj), s.a, s.b, s.c, s.d + t1, s.e, s.f, s.g⟩

/-- The message schedule: from the last sixteen words, newest first, the next `n` words in order. -/
def shaSched : Nat → List Word → List Word
  | 0, _ => []
  | n + 1, ws =>
    let x := ws[1]?.getD 0#32
    let y := ws[14]?.getD 0#32
    let s0 := y.rotateRight 7 ^^^ y.rotateRight 18 ^^^ (y >>> 3)
    let s1 := x.rotateRight 17 ^^^ x.rotateRight 19 ^^^ (x >>> 10)
    let w := ws[15]?.getD 0#32 + s0 + ws[6]?.getD 0#32 + s1
    w :: shaSched n (w :: ws.take 15)

/-- Sixteen words of a 64-byte block, most significant byte first. -/
def shaWords : Nat → List Byte → List Word
  | 0, _ => []
  | n + 1, bs => BitVec.ofNat 32 (natOfBE (bs.take 4)) :: shaWords n (bs.drop 4)

/-- The compression of one block. -/
def shaBlock (s : ShaSt) (bs : List Byte) : ShaSt :=
  let ws := shaWords 16 bs
  let all := ws ++ shaSched 48 ws.reverse
  let t := ((shaK1 ++ shaK2).zip all).foldl (fun s kw => shaRound s kw.1 kw.2) s
  ⟨s.a + t.a, s.b + t.b, s.c + t.c, s.d + t.d, s.e + t.e, s.f + t.f, s.g + t.g, s.h + t.h⟩

/-- The blocks of a padded message. -/
def shaBlocks : Nat → List Byte → ShaSt → ShaSt
  | 0, _, s => s
  | n + 1, bs, s => shaBlocks n (bs.drop 64) (shaBlock s (bs.take 64))

/-- SHA-256 of a byte string, in the digest's byte order. -/
def sha256 (m : List Byte) : List Byte :=
  let n := m.length
  let z := (119 - n % 64) % 64
  let padded := m ++ (0x80#8 :: List.replicate z 0#8) ++ bytesBE 8 (8 * n)
  let s := shaBlocks (padded.length / 64) padded shaInit
  ([s.a, s.b, s.c, s.d, s.e, s.f, s.g, s.h].map fun w => bytesBE 4 w.toNat).flatten

/-- HMAC-SHA-256 under a key of at most 64 bytes (RFC 2104). -/
def hmacSha256 (key m : List Byte) : List Byte :=
  let k := key ++ List.replicate (64 - key.length) 0#8
  let inner := sha256 ((k.map fun b => b ^^^ 0x36#8) ++ m)
  sha256 ((k.map fun b => b ^^^ 0x5C#8) ++ inner)

/-! ### Cyclic redundancy checks -/

/-- One shift of a reflected CRC-32 of polynomial 0x04C11DB7. -/
def crc32Bit (c : Word) : Word := if c.getLsbD 0 then (c >>> 1) ^^^ 0xEDB88320#32 else c >>> 1

/-- The CRC-32 of Table 13-4. -/
def crc32 (bs : List Byte) : Word :=
  ~~~(bs.foldl
    (fun c b => (List.range 8).foldl (fun c _ => crc32Bit c) (c ^^^ (b.setWidth 32 : Word))) 0xFFFFFFFF#32)

/-- One shift of the CRC-16 of Table 15-4. -/
def crc16Bit (c : BitVec 16) : BitVec 16 := if c.getLsbD 15 then (c <<< 1) ^^^ 0x1021#16 else c <<< 1

/-- The CRC-16 of Table 15-4. -/
def crc16 (bs : List Byte) : BitVec 16 :=
  bs.foldl (fun c b => (List.range 8).foldl (fun c _ => crc16Bit c) (c ^^^ ((b.setWidth 16 : BitVec 16) <<< 8))) 0xFFFF#16

/-- The bytes of a text. -/
def textBytes (t : Text) : List Byte := t.map fun c => BitVec.ofNat 8 c.toNat

end Sys2Proof.Machine
end

