-- ==== Sys2Proof/Machine/Refs.lean ====
section
/-! DEFINITION. Sys2Proof/Machine/Refs.lean: marks, runs, tracking, the loop, slews, steps and hand-over
(07_references.md). Offsets are in 2^-32 s; rates are dimensionless. -/

namespace Sys2Proof.Machine

/-! ### Constants -/

/-- 2 µs in 2^-32 s (R243). -/
def twoUs : Rat := 2 * 2 ^ 32 / 1000000

/-- The circle constant of R254 to 15 places (PRESUMED, unsafe: notes/assumptions/19.md). -/
def piQ : Rat := 3141592653589793 / 1000000000000000

def ratAbs (x : Rat) : Rat := if x < 0 then -x else x
def clampQ (lo hi x : Rat) : Rat := if x < lo then lo else if hi < x then hi else x

/-- The nearest integer, ties away from zero. -/
def roundQ (x : Rat) : Int := if 0 ≤ x then (x + 1 / 2).floor else -((-x + 1 / 2).floor)

/-- The nearest integer, ties toward zero (R262). -/
def roundTiesZero (x : Rat) : Int := if 0 ≤ x then (x - 1 / 2).ceil else -((-x - 1 / 2).ceil)

/-- Rounded toward zero.
DEDUCED, unsafe: notes/assumptions/56.md. -/
def truncQ (x : Rat) : Int := if 0 ≤ x then x.floor else -((-x).floor)

/-- STEP_LIMIT in 2^-32 s (Table 7-2). -/
def Refs.limit (r : Refs) : Rat := (fieldOf r.stepLim 0 14 : Rat) * 2 ^ 32 / 1000

/-- R242: the expected mark interval T in 2^-32 s. -/
def Refs.interval (r : Refs) (s : RefSrc) : Nat :=
  match s with
  | .pps => 2 ^ 32
  | .rf => fieldOf r.cfg 8 8 * 2 ^ 32

def Refs.get (r : Refs) (s : RefSrc) : Ref := match s with | .pps => r.pps | .rf => r.rf
def Refs.put (r : Refs) (s : RefSrc) (x : Ref) : Refs :=
  match s with | .pps => { r with pps := x } | .rf => { r with rf := x }
def Refs.enabled (r : Refs) (s : RefSrc) : Bool := match s with | .pps => bitOf r.cfg 0 | .rf => bitOf r.cfg 1
def trefOf (s : RefSrc) : Tref := match s with | .pps => .pps | .rf => .radio
def srcOf (t : Tref) : Option RefSrc := match t with | .pps => some .pps | .radio => some .rf | _ => none

/-- R231: the references in order of rank. -/
def Refs.order (r : Refs) : List RefSrc := if bitOf r.cfg 2 then [.rf, .pps] else [.pps, .rf]

/-- R230: the reference that ought to be selected. -/
def Refs.best (r : Refs) : Tref :=
  match r.order.find? fun s => r.enabled s && (r.get s).st = .qualified with
  | some s => trefOf s
  | none => if r.tref = .none then .none else .hold

/-- A reference is selected by marks. -/
def Refs.tracking (r : Refs) : Bool := r.tref = .pps || r.tref = .radio

/-! ### Corrections that the discipline made to civil time (R245, R267) -/

/-- What had moved civil time at the latest boundary not after a stamp. -/
def Refs.movedAt (r : Refs) (s : Nat) : CorrAt :=
  match r.corrPast.find? fun e => e.stamp ≤ s with
  | some e => e
  | none => r.corrPast.getLast?.getD ⟨s, r.corr, 0, r.set⟩

/-- The corrections in force at a stamp: those at the latest boundary not after it, and its share of the slew since. -/
def Refs.corrAt (r : Refs) (s : Nat) : Rat :=
  let e := r.movedAt s
  e.corr + e.rate * ((s - e.stamp : Nat) : Rat)

/-- The frames for which the epochs and corrections of the past are held: a mark may be labelled 4096 frames after its stamp (R235),
and it is evaluated some frames later. -/
def markFrames : Nat := 4160

/-! ### Offsets and runs (R240, R243) -/

/-- R240: the offset of a mark against civil time as it was in force at the mark's stamp, in −C/2 … +C/2. -/
def markOffset (c : Clk) (m : Mark) : Int :=
  let cyc : Int := ((Config.cycleSec * 2 ^ 32 : Nat) : Int)
  let o := (m.label : Int) - (civilAt m.stamp (epochAt c m.stamp).1 : Int)
  if cyc / 2 < o then o - cyc else if o < -(cyc / 2) then o + cyc else o

/-- The line through two marks, extrapolated to a stamp; through one mark it is level. -/
def lineAt (a b : OMark) (s : Nat) : Rat :=
  if b.stamp ≤ a.stamp then (b.ofs : Rat)
  else (a.ofs : Rat) + ((b.ofs - a.ofs : Int) : Rat) * (((s : Int) - (a.stamp : Int) : Int) : Rat) / ((b.stamp - a.stamp : Nat) : Rat)

/-- R243: whether a mark agrees with a run. DEDUCED, unsafe: notes/assumptions/79.md. -/
def RefRun.agrees (r : RefRun) (m : OMark) : Bool :=
  if r.count ≤ 1 then
    decide (ratAbs ((m.ofs - r.first.ofs : Int) : Rat) ≤ 200 / 1000000 * ((m.stamp - r.first.stamp : Nat) : Rat))
  else decide (ratAbs ((m.ofs : Rat) - lineAt r.first r.last m.stamp) ≤ twoUs)

/-- A mark opens a run, or joins it. -/
def RefRun.opened (m : OMark) : RefRun := ⟨m, m, m, 1⟩
def RefRun.join (r : RefRun) (m : OMark) : RefRun := { r with last := m, prev := r.last, count := min (r.count + 1) 4 }

/-! ### The loop (R254 to R257) -/

/-- R254: the loop bandwidth in Hz. -/
def Refs.bandwidth (r : Refs) (s : RefSrc) : Rat :=
  let bw := fieldOf r.cfg 4 4
  let x : Rat := 1 / 2 ^ bw
  let y : Rat := 1 / (8 * ((r.interval s / 2 ^ 32 : Nat) : Rat))
  if x < y then x else y

/-- R254: the loop update at a consistent mark: residual e and tau in 2^-32 s. -/
def Refs.loop (r : Refs) (s : RefSrc) (e : Rat) (tau : Nat) : Refs :=
  let wn := 2 * piQ * r.bandwidth s
  let es := e / 2 ^ 32
  let p := 2 * wn * es
  let inew := r.i + wn * wn * es * ((tau : Rat) / 2 ^ 32)
  let lim : Rat := 200 / 1000000
  let i := if ratAbs (p + inew) ≤ lim then inew else r.i
  let ns := roundQ (es * 1000000000)
  let ns := if ns < -0x7FFFFFFF then -0x7FFFFFFF else if 0x7FFFFFFF < ns then 0x7FFFFFFF else ns
  { r with i := i, rdNext := some (clampQ (-lim) lim (p + i)), discRes := BitVec.ofInt 32 ns }

/-- R257: the mean of i over the last 4096 frames during which a reference was selected. -/
def meanPast : List (Rat × Nat) → Nat → Rat → Nat → Rat
  | [], _, sum, n => if n = 0 then 0 else sum / (n : Rat)
  | (x, k) :: rest, room, sum, n =>
    let t := min k room
    if t = 0 then (if n = 0 then 0 else sum / (n : Rat)) else meanPast rest (room - t) (sum + x * (t : Rat)) (n + t)

def Refs.frozen (r : Refs) : Rat := if r.iPast.isEmpty then r.i else meanPast r.iPast 4096 0 0

/-- One frame of the history of i. -/
def Refs.notePast (r : Refs) : Refs :=
  if r.tracking then
    match r.iPast with
    | (x, k) :: rest =>
      if x = r.i then { r with iPast := (x, min (k + 1) 4096) :: rest }
      else { r with iPast := ((r.i, 1) :: (x, k) :: rest).take 4096 }
    | [] => { r with iPast := [(r.i, 1)] }
  else r

/-! ### Epochs and steps (R196 to R201, R262) -/

/-- R296, R297: an open learning window is aborted. -/
def Rate.abort (r : Rate) : Rate :=
  match r.learn with
  | none => r
  | some _ => { r with learn := none, lrnAbt := satAdd r.lrnAbt 1, sumAbt := r.sumAbt + 1 }

/-- R295, R296: a jump run opens at the boundary of stamp frame count `now`: an open window is aborted; one that would have opened
at that very boundary does not open. -/
def Rate.jumpRun (r : Rate) (now : Nat) : Rate :=
  match r.learn with
  | none => r
  | some w => if w.half = 1 && w.start = now then { r with learn := none } else r.abort

/-- R196 to R199: a new epoch offset at the current boundary, with its record; STEPPED sets, TIME_INVALID clears. -/
def Field.newEpoch (f : Field) (eofs : BitVec 54) (cause : Nat) : Field :=
  let c := f.clk
  let change := eofs.toInt - c.eofs.toInt
  let shoot : Int := ((c.stamp.toNat % 2 ^ 26 : Nat) : Int)
  let old := c.unreduced - shoot
  let cleared := f.bit sbTimeInvalid
  let new := old + change * 2 ^ 26
  let epn : BitVec 16 := if c.epn = 0xFFFF#16 then 1#16 else c.epn + 1
  let span : StepSpan := ⟨c.stamp, old, new, cleared, decide (0 ≤ change)⟩
  let rep := if change < 0 && !cleared then
      some (match c.repeatEnd with | some e => max e old | none => old)
    else c.repeatEnd
  let clk := { c with
    eofs := eofs, epn := epn, ecause := BitVec.ofNat 8 cause,
    past := ((c.stamp, c.eofs, c.epn) :: c.past).take 8192,
    steps := c.steps ++ [span], repeatEnd := rep }
  let refs := if cause = 1 then { f.refs with set := f.refs.set + change * 2 ^ 26 } else f.refs
  let f := { f with clk := clk, refs := refs, per := f.per.epoch, rate := f.rate.abort }
  let f := (f.setBit sbStepped).clrBit sbTimeInvalid
  f.stage (recEpoch cause c.stamp c.epn epn change eofs)

/-- R262: step by an offset in 2^-32 s; the rest is slewed. A step of no whole frame changes no offset unless it is
forced (R259). -/
def Field.step (f : Field) (o : Rat) (forced leap : Bool) : Field × Bool :=
  let n := roundTiesZero (o / 2 ^ 26)
  let rest := o - (n : Rat) * 2 ^ 26
  if n = 0 && !forced then
    ({ f with refs := { f.refs with slewOn := decide (o ≠ 0), slewRem := o, slewLeap := leap } }, false)
  else
    let f := f.newEpoch (BitVec.ofInt 54 (f.clk.eofs.toInt + n)) (if n < 0 then 3 else 2)
    ({ f with refs := { f.refs with
        corr := f.refs.corr + (n : Rat) * 2 ^ 26, slewOn := decide (rest ≠ 0), slewRem := rest, slewLeap := false } },
      true)

/-- R260, R261, R269: an adopted offset is slewed, not stepped. -/
def Refs.slews (r : Refs) (o : Rat) (leap : Bool) : Bool := decide (ratAbs o ≤ r.limit) || (leap && bitOf r.cfg 3)

/-- R262: a step by an offset moves civil time by whole frames. -/
def stepMoves (o : Rat) : Bool := decide (roundTiesZero (o / 2 ^ 26) ≠ 0)

/-- R260 to R262, R266: apply an adopted offset; the action of its REFCHANGE record (R281). -/
def Field.applyOffset (f : Field) (o : Rat) (leap : Bool) : Field × Nat :=
  if f.refs.slews o leap then
    ({ f with refs := { f.refs with slewOn := decide (o ≠ 0), slewRem := o, slewLeap := leap } }, if leap then 4 else 2)
  else
    let r := f.step o false leap
    (r.1, if r.2 then 3 else if leap then 4 else 2)

/-! ### Change of reference (R270 to R276, R259) -/

/-- R281: the REFCHANGE record of a change at the current boundary. -/
def Field.refChange (f : Field) (cause : Nat) (left taken : Tref) (action : Nat) (d : Rat) (st : Stamp) : Field :=
  f.stage (recRefChange cause left.code taken.code action (roundQ d) st f.clk.epn)

/-- An offset in 2^-32 s reduced into −C/2 … +C/2 (R240). -/
def reduceC (x : Rat) : Rat :=
  let cyc : Rat := ((Config.cycleSec * 2 ^ 32 : Nat) : Rat)
  x - cyc * (roundQ (x / cyc) : Rat)

/-- The offset of a target at the current boundary against current civil time (R259, R272): its line, less what has moved civil
time since its marks, the TSET applies among it. -/
def Field.targetOffset (f : Field) (last prev : Option OMark) : Rat :=
  match last with
  | none => 0
  | some b =>
    let adj := fun (m : OMark) => (m.ofs : Rat) + m.corr + (m.set : Rat)
    let now := f.clk.stamp.toNat
    let line := match prev with
      | none => adj b
      | some a => if b.stamp ≤ a.stamp then adj b
        else adj a + (adj b - adj a) * (((now : Int) - (a.stamp : Int) : Int) : Rat) / ((b.stamp - a.stamp : Nat) : Rat)
    reduceC (line - f.refs.corr - (f.refs.set : Rat))

/-- HOLD is selected: r_d is frozen and the loop keeps that value (R257, R271). -/
def Field.toHold (f : Field) : Field :=
  let z := f.refs.frozen
  { f with refs := { f.refs with
      tref := .hold, rd := z, rdNext := none, i := z, iPast := [], ho := none, jump := none,
      holdFrom := f.clk.stamp.toNat } }

/-- R270: the selected reference changes at the current boundary; d is taken from the target's line as it stands there. -/
def Field.select (f : Field) (target : Tref) (cause : Nat) : Field :=
  let left := f.refs.tref
  let abandoned := f.refs.ho.isSome
  let cause := if abandoned then 4 else cause
  match srcOf target with
  | none =>
    if left = .hold || left = .none then f
    else (f.toHold).refChange cause left .hold 0 0 f.clk.stamp
  | some s =>
    let x := f.refs.get s
    let d := f.targetOffset x.lastGood x.prevGood
    let first := f.bit sbTimeInvalid && left = .none
    let f := (f.clrBit sbHoldoverLong)
    let f := { f with refs := { f.refs with tref := target, jump := none, ho := none } }
    if first then
      let r := f.step d true false
      r.1.refChange cause left target 3 d f.clk.stamp
    else
      let step := decide (f.refs.limit < ratAbs d)
      let f := { f with refs := { f.refs with
        slewOn := false, slewRem := 0, slewLeap := false, ho := some ⟨left, 0, d, if step then 0 else d, step⟩ } }
      f.refChange cause left target (if !step then 1 else if stepMoves d then 3 else 2) d f.clk.stamp

/-- R268: a jump run is a leap second. -/
def leapRun (run : RefRun) (o : Rat) : Bool :=
  let s := run.first.label / 2 ^ 32
  let c := civilOf (s % Config.cycleSec)
  let near := ratAbs (ratAbs o - 2 ^ 32) ≤ 2 ^ 32 / 1000
  decide near && c.date == 1 && decide (s % 86400 * 2 ^ 32 + run.first.label % 2 ^ 32 ≤ 63 * 2 ^ 32)

/-- R761: adopt a jump run at the current boundary. -/
def Field.adopt (f : Field) (run : RefRun) : Field :=
  let o := lineAt run.first run.last f.clk.stamp.toNat
  let leap := leapRun run o
  let base : OMark := { run.last with ofs := roundQ o, corr := f.refs.corr }
  let r := f.applyOffset o leap
  let g := r.1
  let g := match srcOf g.refs.tref with
    | none => g
    | some s =>
      let x := g.refs.get s
      { g with refs := { g.refs.put s { x with
          lastGood := some run.last, prevGood := some run.prev, basis := some base, misses := 0 } with jump := none } }
  g.refChange (if leap then 7 else 6) g.refs.tref g.refs.tref r.2 o f.clk.stamp

/-- R255, R276, R201: r_d and the adoptions that were planned take effect at the current boundary; an adoption that would step is
dropped where a TSET apply takes effect there. -/
def Field.applyAdopts (f : Field) (tset : Bool) : Field :=
  let adopts := f.refs.planned.filterMap fun p => match p with | .adopt r => some r | _ => none
  let selects := f.refs.planned.filter fun p => match p with | .adopt _ => false | _ => true
  let f := { f with refs := { f.refs with planned := selects, rd := f.refs.rdNext.getD f.refs.rd, rdNext := none } }
  adopts.foldl (fun f r =>
    let o := lineAt r.first r.last f.clk.stamp.toNat
    if tset && !f.refs.slews o (leapRun r o) && stepMoves o then f else f.adopt r) f

/-- R276, R270: the planned change of selected reference takes effect, after the adoptions. -/
def Field.applySelects (f : Field) : Field :=
  let selects := f.refs.planned
  selects.foldl (fun f p => match p with
    | .select t c => if t = f.refs.tref then f else f.select t c
    | _ => f) { f with refs := { f.refs with planned := [] } }

/-- R272, R262, R201: at the 64th frame boundary a hand-over ends, with its step, or with the rest of its blend as a slew; the step
is dropped where a TSET apply takes effect there. -/
def Field.handoverEnd (f : Field) (tset : Bool) : Field :=
  match f.refs.ho with
  | none => f
  | some h =>
    if h.frames < 64 then f
    else
      let f := { f with refs := { f.refs with ho := none } }
      if h.step then (if tset && stepMoves h.d then f else (f.step h.d false false).1)
      else { f with refs := { f.refs with slewOn := decide (h.blend ≠ 0), slewRem := h.blend, slewLeap := false } }

/-! ### Evaluation of marks (R239 to R253) -/

/-- R249, R250: a reference is disqualified: Lost from the next boundary, or Idle without return grace. -/
def Ref.disqualify (x : Ref) (fno : Nat) (grace : Bool) : Ref :=
  { x with st := if grace then .lost else .idle, run := none, misses := 0, lostAt := fno + 1 }

/-- Plan the change of selected reference that the states now ask for (R230, R239, R274); one to the target already planned keeps its
cause. -/
def Refs.replan (r : Refs) (cause : Nat) : Refs :=
  let t := r.best
  let cause := (r.planned.findSome? fun p => match p with
    | .select t' c => if t' = t then some c else none
    | _ => none).getD cause
  let rest := r.planned.filter fun p => match p with | .select _ _ => false | _ => true
  if t = r.tref then { r with planned := rest } else { r with planned := rest ++ [.select t cause] }

/-- A reference qualifies with its last two agreeing marks (R244, R252). -/
def Ref.qualify (x : Ref) (last : OMark) (prev : Option OMark) : Ref :=
  { x with st := .qualified, run := none, misses := 0, lastGood := some last, prevGood := prev, basis := none }

/-- R243, R244, R238: a mark of a reference without qualification; the flag tells that it qualified. -/
def Ref.runMark (x : Ref) (m : OMark) (unl : Bool) : Ref × Bool :=
  if unl then (x, false)
  else match x.run with
    | none => ({ x with st := .qualifying, run := some (RefRun.opened m) }, false)
    | some r =>
      if r.agrees m then
        let r' := r.join m
        if 4 ≤ r'.count then (x.qualify m (some r.last), true) else ({ x with run := some r' }, false)
      else ({ x with st := .qualifying, run := some (RefRun.opened m) }, false)

/-- R250: a mark of a standby, or of the target of a hand-over (R273). -/
def Ref.standbyMark (x : Ref) (m : OMark) : Ref :=
  let ok := match x.lastGood with
    | none => true
    | some b => match x.prevGood with
      | none => (RefRun.opened b).agrees m
      | some a => (⟨a, b, a, 2⟩ : RefRun).agrees m
  if ok then { x with lastGood := some m, prevGood := x.lastGood, basis := none, misses := 0 } else { x with misses := x.misses + 1 }

/-- R252: a mark of a Lost reference lies within 2 µs of its holdover prediction. -/
def Ref.returns (x : Ref) (m : OMark) : Bool :=
  match x.lastGood with
  | none => false
  | some b => decide (ratAbs ((m.ofs : Rat) - ((b.ofs : Rat) - (m.corr - b.corr))) ≤ twoUs)

/-- R245 to R249: a mark of the selected reference. -/
def Field.trackMark (f : Field) (s : RefSrc) (m : OMark) : Field :=
  let x := f.refs.get s
  match x.lastGood with
  | none => { f with refs := f.refs.put s { x with lastGood := some m } }
  | some last =>
    let b := x.basis.getD last
    let tau := m.stamp - b.stamp
    let pred := (b.ofs : Rat) - (f.refs.rdNext.getD f.refs.rd - f.refs.i) * (tau : Rat) - (m.corr - b.corr)
    let e := (m.ofs : Rat) - pred
    if ratAbs e ≤ twoUs then
      let r := (f.refs.put s { x with lastGood := some m, prevGood := some last, basis := none, misses := 0 }).loop s e tau
      let rate := match f.rate.learn with
        | some w => if w.due then f.rate else { f.rate with learn := some { w with marks := w.marks ++ [m] } }
        | none => f.rate
      let now := f.clk.stamp.toNat
      let rate := { rate with
        updates := (now, r.rdNext.getD r.rd) :: rate.updates.filter fun u => decide (now ≤ u.1 + 1024 * 2 ^ 32) }
      { f with refs := { r with jump := none }, rate := rate }
    else match f.refs.jump with
      | none => { f with
          refs := { f.refs with jump := some (RefRun.opened m) }, rate := f.rate.jumpRun (stampFrames f.clk.stamp) }
      | some j =>
        if j.agrees m then
          let j' := j.join m
          if 4 ≤ j'.count then
            { f with refs := { f.refs.put s { x with misses := 0 } with
                jump := none, planned := f.refs.planned ++ [.adopt j'] } }
          else { f with refs := { f.refs with jump := some j' } }
        else
          { f with refs := { f.refs.put s { x with misses := x.misses + 1 } with jump := some (RefRun.opened m) } }

/-- R249, R250: disqualify a reference whose count reached 3. -/
def Field.checkLoss (f : Field) (s : RefSrc) : Field :=
  let x := f.refs.get s
  if x.st = .qualified && decide (3 ≤ x.misses) then
    let selected := f.refs.tref = trefOf s
    let r := f.refs.put s (x.disqualify f.clk.fno true)
    let r := if selected then { r with jump := none } else r
    { f with refs := r.replan 2 }
  else f

/-- R239, R241, R232: the evaluation of one mark. -/
def Field.evalMark (f : Field) (m : Mark) : Field :=
  let s := m.src
  let x := f.refs.get s
  let late := match x.lastEval with | some t => decide (m.stamp.toNat ≤ t) | none => false
  if !f.refs.enabled s || late then { f with refs := { f.refs with markDrop := satAdd f.refs.markDrop 1 } }
  else
    let st := m.stamp.toNat
    let om : OMark := ⟨st, markOffset f.clk m, f.refs.corrAt st, (f.refs.movedAt st).set, m.label⟩
    let x := { x with lastEval := some st, missFrom := max x.missFrom st }
    let f := { f with refs := { f.refs.put s x with markOk := satAdd f.refs.markOk 1 } }
    match x.st with
    | .idle | .qualifying =>
      let r := x.runMark om m.unl
      let f := { f with refs := f.refs.put s r.1 }
      if r.2 then { f with refs := f.refs.replan 1 } else f
    | .lost =>
      if x.returns om then { f with refs := (f.refs.put s (x.qualify om none)).replan 3 }
      else if m.unl then f
      else { f with refs := f.refs.put s (x.runMark om false).1 }
    | .qualified =>
      if f.refs.tref = trefOf s && f.refs.ho.isNone then (f.trackMark s om).checkLoss s
      else ({ f with refs := f.refs.put s (x.standbyMark om) }).checkLoss s

/-- Insert a mark in stamp order (R239). -/
def insertMark (m : Mark) : List Mark → List Mark
  | [] => [m]
  | x :: xs => if m.stamp.toNat < x.stamp.toNat then m :: x :: xs else x :: insertMark m xs

/-- MARK_EVALUATE (R239): the marks received in the frame before, in stamp order. -/
def doMarkEvaluate (f : Field) : Field :=
  if !f.runs then f
  else
    let ms := f.refs.marksDue.foldl (fun l m => insertMark m l) []
    ms.foldl (fun f m => f.evalMark m) { f with refs := { f.refs with marksDue := [] } }

/-- MARK_MISS (R242, R244, R248 to R250). -/
def doMarkMiss (s : RefSrc) (f : Field) : Field :=
  let x := f.refs.get s
  let span := f.refs.interval s * 3 / 2
  if !f.runs || !f.refs.enabled s || x.lastEval.isNone || decide (f.clk.stamp.toNat < x.missFrom + span) then f
  else
    let x := { x with missFrom := x.missFrom + span }
    match x.st with
    | .qualifying => { f with refs := f.refs.put s { x with st := .idle, run := none } }
    | .qualified =>
      let r := f.refs.put s { x with misses := x.misses + 1 }
      let r := if r.tref = trefOf s then { r with jump := none } else r
      ({ f with refs := r }).checkLoss s
    | _ => { f with refs := f.refs.put s x }

/-- REFERENCE_IDLE (R251, R253). -/
def doReferenceIdle (s : RefSrc) (f : Field) : Field :=
  let x := f.refs.get s
  if x.st = .lost && decide (x.lostAt + 512 ≤ f.clk.fno) then
    { f with refs := f.refs.put s { x with st := .idle, run := none } }
  else f

/-- SLEW_END (R264): the remaining correction has reached 0. -/
def doSlewEnd (f : Field) : Field :=
  if f.refs.slewOn && f.refs.slewRem = 0 then { f with refs := { f.refs with slewOn := false, slewLeap := false } } else f

/-- HOLD_SEC (R282): stamp seconds since HOLD was selected. -/
def Field.holdSec (f : Field) : Nat :=
  if f.refs.tref = .hold then min ((f.clk.stamp.toNat - f.refs.holdFrom) / 2 ^ 32) 0xFFFFFFFF else 0

/-- HOLDOVER_LONG_SET (R282). -/
def doHoldoverLong (f : Field) : Field :=
  if decide (86400 ≤ f.holdSec) then f.setBit sbHoldoverLong else f

/-- R233: a committed configuration disables references or changes their rank; a selected reference that no longer ranks highest is
lost, without return grace. -/
def Field.refConfig (f : Field) : Field :=
  let off := fun (s : RefSrc) (r : Refs) =>
    if r.enabled s then r
    else r.put s { (r.get s) with st := .idle, run := none, misses := 0 }
  let r := off .pps (off .rf f.refs)
  let f := { f with refs := r }
  let t := r.best
  if t = r.tref then f
  else
    let r := match srcOf r.tref with
      | some s => r.put s ((r.get s).disqualify f.clk.fno false)
      | none => r
    { f with refs := r }.select t 5

/-- R278: at a warm start every reference was disqualified at the hold-up commit, without return grace. -/
def Field.refsWarm (f : Field) (holdAt : Stamp) : Field :=
  let left := f.refs.tref
  let idle := fun (x : Ref) => { x with st := .idle, run := none, misses := 0, lastEval := x.lastEval }
  let f := { f with refs := { f.refs with
    pps := idle f.refs.pps, rf := idle f.refs.rf, planned := [], marksNow := [], marksDue := [], jump := none, ho := none } }
  if f.refs.tracking then
    let f := f.toHold
    let f := { f with refs := { f.refs with holdFrom := holdAt.toNat } }
    f.stage (recRefChange 2 left.code Tref.hold.code 0 0 holdAt f.clk.epn)
  else f

/-- R272: what a hand-over moves in one frame at most, 7.8125 µs in 2^-32 s. -/
def blendMax : Rat := 78125 * 2 ^ 32 / 10000000000

/-- R264, R272: the slew term of the coming frame of `len` ticks, as a rate. -/
def Refs.slewRate (r : Refs) (len : Nat) : Rat :=
  let units : Rat := ((len * 2 ^ 17 : Nat) : Rat)
  let lim : Rat := 500 / 1000000
  match r.ho with
  | some h =>
    if h.step || h.blend = 0 then 0
    else
      let per := h.d / 64
      let per := if ratAbs h.blend < ratAbs per then h.blend else per
      clampQ (-blendMax) blendMax per / units
  | none => if r.slewOn then clampQ (-lim) lim (r.slewRem / units) else 0

/-- R267, R272: what the frame of `len` ticks just ended moved enters the corrections and leaves the slew or the blend; it is one frame
more of a hand-over. -/
def Refs.slewMoved (r : Refs) (len : Nat) : Refs :=
  let moved := r.rs * ((len * 2 ^ 17 : Nat) : Rat)
  let r := { r with corr := r.corr + moved }
  match r.ho with
  | some h => { r with ho := some { h with frames := h.frames + 1, blend := h.blend - moved } }
  | none => { r with slewRem := r.slewRem - moved }

end Sys2Proof.Machine
end

