-- ==== Sys2Proof/Machine/Temperature.lean ====
section
/-! DEFINITION. Sys2Proof/Machine/Temperature.lean: scheduling on the two cores, linearisation, results, sets and held
results (11_temperature.md). -/

namespace Sys2Proof.Machine

/-! ### Linearisation (R394, R395, R764) -/

/-- The value of an IEEE 754 binary32 word; none for infinities and NaNs (R409). -/
def float32 (w : Word) : Option Rat :=
  let s := bitOf w 31
  let e := fieldOf w 23 8
  let m := fieldOf w 0 23
  if e = 255 then none
  else
    let x : Rat := if e = 0 then (m : Rat) / 2 ^ 149
      else if 150 ≤ e then ((2 ^ 23 + m) * 2 ^ (e - 150) : Nat) else ((2 ^ 23 + m : Nat) : Rat) / 2 ^ (150 - e)
    some (if s then 0 - x else x)

/-- The Callendar–Van Dusen resistance in Ω at a temperature in °C (R394). -/
def cvd (t : Rat) : Rat :=
  let a : Rat := 39083 / 10000000
  let b : Rat := -5775 / 10000000000
  let c : Rat := -4183 / 1000000000000000
  1000 * (1 + a * t + b * t * t + (if t < 0 then c * (t - 100) * t * t * t else 0))

/-- Bisection: the largest n with cvd(n / 2^28) at most `r`, between `lo` and `hi`. -/
def cvdSearch (r : Rat) : Nat → Int → Int → Int
  | 0, lo, _ => lo
  | k + 1, lo, hi =>
    let mid := (lo + hi) / 2
    if cvd ((mid : Rat) / 2 ^ 28) ≤ r then cvdSearch r k mid hi else cvdSearch r k lo mid

/-- R394: the inversion to within 1/4096 °C; where in that band the part's result lies is open. -/
def cvdInverse (r : Rat) (choice : BitVec 32) : Rat :=
  let t := (cvdSearch r 40 (-200 * 2 ^ 28) (900 * 2 ^ 28) : Rat) / 2 ^ 28
  let d : Rat := ((choice.toNat % 131071 : Nat) : Rat) / 65535 - 1
  t + d * (1 / 4096 - 1 / 2 ^ 28)

/-- Terms of 2·artanh in fixed point of 2^-96: y, y², the power so far, the odd divisor. -/
def artanhSum : Nat → Nat → Nat → Nat → Nat
  | 0, _, _, _ => 0
  | k + 1, y2, p, d => p / d + artanhSum k y2 (p * y2 / 2 ^ 96) (d + 2)

/-- The natural logarithm of n / d for n ≥ d > 0, in units of 2^-96 (DESIGN CHOICE, unsafe: notes/assumptions/20.md). -/
def lnFixed (n d : Nat) : Nat :=
  let e := Nat.log2 (n / d)
  let m := d * 2 ^ e
  let y := (n - m) * 2 ^ 96 / (n + m)
  let third := 2 ^ 96 / 3
  2 * artanhSum 40 (y * y / 2 ^ 96) y 1 + e * (2 * artanhSum 40 (third * third / 2 ^ 96) third 1)

/-- R394: Steinhart–Hart, in °C; none where no temperature is finite. -/
def steinhart (a b c : Rat) (milliOhm : Nat) : Option Rat :=
  if milliOhm < 1000 then none
  else
    let l : Rat := (lnFixed milliOhm 1000 : Rat) / 2 ^ 96
    let x := a + b * l + c * l * l * l
    if x = 0 then none else some (1 / x - 27315 / 100)

/-- The probe resistance in mΩ: with TYPE 2 the loop lead is subtracted (Table 11-1). -/
def Params.milliOhm (p : Params) (r : Nat) : Nat := if fieldOf p.cfg 0 3 = 2 then r - fieldOf p.lead 0 16 else r

/-- Table 11-3, in mΩ: short below, open above. -/
def faultLimits (ty : Nat) : Nat × Nat :=
  if ty ≤ 2 then (500000, 2400000) else if ty = 3 then (100000, 1000000000) else (1000000, 10000000000)

/-- R394, R395, R764: value, OPEN, SHORT of a result. -/
def linearise (p : Params) (milliOhm : Nat) (padsOk : Bool) (choice : BitVec 32) : Word × Bool × Bool :=
  let ty := fieldOf p.cfg 0 3
  let r := p.milliOhm milliOhm
  let (lo, hi) := faultLimits ty
  if !padsOk || hi < r then (0x80000000#32, true, false)
  else if r < lo then (0x80000000#32, false, true)
  else
    let t : Option Rat :=
      if ty ≤ 2 then some (cvdInverse ((r : Rat) / 1000) choice)
      else match float32 p.a, float32 p.b, float32 p.c with
        | some a, some b, some c => steinhart a b c r
        | _, _, _ => none
    match t with
    | none => (0x80000000#32, false, false)
    | some t =>
      let v := roundQ (t * 1024 + ((p.ofs.truncate 16 : BitVec 16).toInt : Rat))
      if v ≤ -(2 ^ 31) || 2 ^ 31 ≤ v then (0x80000000#32, false, false) else (BitVec.ofInt 32 v, false, false)

/-! ### Configuration -/

def Temp.params (t : Temp) (n : Nat) : Params :=
  ⟨t.cfg[n]?.getD 0#32, t.ofs[n]?.getD 0#32, t.lead[n]?.getD 0#32,
    t.sh[3 * n]?.getD 0#32, t.sh[3 * n + 1]?.getD 0#32, t.sh[3 * n + 2]?.getD 0#32⟩

def planEn (plan : Word) (n : Nat) : Bool := bitOf plan (8 * n + 7)
def planK (plan : Word) (n : Nat) : Nat := fieldOf plan (8 * n) 5

/-- R41, R408: a plan is refused: a period above 18, or more than two cores (sum of 2^(1−k) above 2). -/
def planBad (plan : Word) : Bool :=
  let ks := (List.range 4).filterMap fun n => if planEn plan n then some (planK plan n) else none
  (List.range 4).any (fun n => decide (18 < planK plan n)) || decide (2 ^ 18 < (ks.map fun k => 2 ^ (18 - k)).sum)

/-- The normal plan runs on the committed source (Table 3-4, R80, R81). -/
def Field.planRuns (f : Field) : Bool := f.runs && (f.sup.sel = .vfld || f.sup.sel = .iso)

/-- R392: the channel in continuous mode. -/
def Field.contChannel (f : Field) : Option Nat :=
  if f.planRuns then
    (List.range 4).find? fun n => planEn f.temp.plan n && planK f.temp.plan n = 0 && f.probeType n != 0
  else none

/-- R389: a plan channel falls due at the current boundary. -/
def Field.planDue (f : Field) (n : Nat) : Bool :=
  f.planRuns && planEn f.temp.plan n && f.probeType n != 0 &&
    decide (stampFrames f.clk.stamp % 2 ^ planK f.temp.plan n = 0)

/-- R398, R517: no conversion starts at this boundary. -/
def Field.startsBlocked (f : Field) : Bool :=
  let n := f.clk.fno
  (match f.cal.adc with | some a => decide (n + 1 = a.fc) || decide (n = a.fc) | none => false) ||
  (match f.tst.job.bind (·.ft) with
    | some t => decide (n + 1 = t) || decide (n = t) || decide (n = t + 1)
    | none => false)

/-! ### Sets (R403, R404) -/

/-- Change one member of a set. -/
def SetRec.mark (s : SetRec) (ch : Nat) (d : Word × BitVec 4 × Nat) : SetRec :=
  { s with members := s.members.map fun m => if m.ch = ch && m.done.isNone then { m with done := some d } else m }

/-- The set of a request. -/
def Wait.isSet (w : Wait) (s : SetRec) : Bool := s.kind = w.kind && s.due = w.due && s.asked = w.asked

/-- Flags of a SAMPLE member: bit 0 OPEN, 1 SHORT, 2 STALE, 3 MISS (Table 12-5). -/
def memberFlags (opened short stale miss : Bool) : BitVec 4 :=
  BitVec.ofNat 4 (opened.toNat + 2 * short.toNat + 4 * stale.toNat + 8 * miss.toNat)

/-- A member of a request's set is done. -/
def Temp.done (t : Temp) (w : Wait) (d : Word × BitVec 4 × Nat) : Temp :=
  { t with sets := t.sets.map fun s => if w.isSet s then s.mark w.ch d else s }

/-- A member leaves its set (R384, R404). -/
def Temp.leave (t : Temp) (w : Wait) : Temp :=
  { t with sets := t.sets.map fun s =>
      if w.isSet s then { s with members := s.members.filter fun m => !(m.ch = w.ch && m.done.isNone) } else s }

/-- A member is marked MISS (R391, R392, R80). -/
def Temp.miss (t : Temp) (w : Wait) : Temp := t.done w (0x80000000#32, memberFlags false false false true, 0)

def kindCode : ConvKind → Nat
  | .plan => 0
  | .snap => 1
  | .bat => 2

/-- The SAMPLE record of a complete set (R403). -/
def SetRec.record (s : SetRec) : Slot :=
  recSample (kindCode s.kind) s.stamp s.epn (s.members.map fun m =>
    match m.done with
    | some (v, g, o) => (m.ch, temp24 v, g.toNat, o)
    | none => (m.ch, 0x800000, 0, 0))

/-- R403: stage the record of every set whose members are all done; a set without members leaves no record. -/
def Field.finishSets (f : Field) : Field :=
  let full := fun (s : SetRec) => s.members.all fun m => m.done.isSome
  let ready := f.temp.sets.filter fun s => full s && !s.members.isEmpty
  let f := { f with temp := { f.temp with sets := f.temp.sets.filter fun s => !full s } }
  ready.foldl (fun f s => f.stage s.record) f

/-! ### Falling due (R389, R391) -/

/-- R389, R391: the plan channels that fall due at this boundary; one still waiting from before is dropped. -/
def Field.planItem (f : Field) : Field :=
  let due := (List.range 4).filter f.planDue
  if due.isEmpty then f
  else
    let late := f.temp.waiting.filter fun w => w.kind = .plan && due.contains w.ch
    let t := late.foldl (fun t w => { t.miss w with slip := satAdd t.slip 1 }) f.temp
    let t := { t with
      waiting := (t.waiting.filter fun w => !(w.kind = .plan && due.contains w.ch)) ++
        due.map fun n => ⟨n, .plan, f.clk.fno, f.clk.fno⟩,
      sets := t.sets ++ [⟨.plan, f.clk.fno, f.clk.fno, f.clk.stamp, f.clk.epn, due.map fun n => ⟨n, none⟩⟩] }
    { f with temp := t }.finishSets

/-- BATPLAN_DUE (R83, R382): while FSUP is 2 the coin-cell plan's channels are requested at frame 0 of each stamp
second that is a multiple of BATPLAN_PER. -/
def doBatplanDue (f : Field) : Field :=
  let per := fieldOf f.sup.cfg 16 16
  let sec := stampSec f.clk.stamp
  let due := f.runs && f.sup.sel = .vbat && bitOf f.sup.cfg 12 && decide (per ≠ 0) && decide (sec % per = 0) &&
    decide (stampFrames f.clk.stamp % 64 = 0)
  let chans := (List.range 4).filter fun n =>
    bitOf f.sup.cfg (8 + n) && f.probeType n != 0
  if due && !chans.isEmpty then
    { f with temp := { f.temp with
        waiting := f.temp.waiting ++ chans.map fun n => ⟨n, .bat, f.clk.fno, f.clk.fno⟩,
        sets := f.temp.sets ++ [⟨.bat, f.clk.fno, f.clk.fno, f.clk.stamp, f.clk.epn, chans.map fun n => ⟨n, none⟩⟩] } }
  else f

/-! ### Assignment (R390, R392, R400) -/

/-- R390: the class of a waiting conversion: 0 starved, 1 plan, 2 SNAP, 3 coin-cell. -/
def Wait.cls (w : Wait) (fno : Nat) : Nat :=
  if w.kind ≠ .plan && w.due + 64 ≤ fno then 0 else match w.kind with | .plan => 1 | .snap => 2 | .bat => 3

/-- R390: one waiting conversion goes before another. -/
def Wait.before (a b : Wait) (fno : Nat) : Bool :=
  let ka := (a.cls fno, a.due, a.ch)
  let kb := (b.cls fno, b.due, b.ch)
  decide (ka.1 < kb.1 ∨ (ka.1 = kb.1 ∧ (ka.2.1 < kb.2.1 ∨ (ka.2.1 = kb.2.1 ∧ ka.2.2 < kb.2.2))))

/-- The first of the waiting conversions that may start, in the order of R390. -/
def bestWait (fno : Nat) (ok : Wait → Bool) (ws : List Wait) : Option Wait :=
  ws.foldl (fun b w => if ok w then (match b with
    | none => some w
    | some x => if w.before x fno then some w else some x) else b) none

/-- A channel is in a conversion (R390). -/
def Temp.inConv (t : Temp) (ch : Nat) : Bool :=
  (List.range 2).any fun c => match t.core[c]?.getD none with | some v => v.req.ch = ch | none => false

/-- R39, R390: a SNAP requested in a frame's foreground starts at the second boundary after it at the earliest. -/
def Wait.ripe (w : Wait) (fno : Nat) : Bool := w.kind ≠ .snap || decide (w.asked + 2 ≤ fno)

/-- R390: the class of a waiting conversion that may start now on a free core: 0 starved, 1 plan, others. -/
def Field.mayStart (f : Field) (w : Wait) : Bool :=
  w.ripe f.clk.fno && !f.temp.inConv w.ch && f.probeType w.ch != 0

/-- The window of the continuous channel `n` that would start on core `c` at this boundary (R392). -/
def Field.contWindow (f : Field) (n c : Nat) : Option Wait :=
  if stampFrames f.clk.stamp % 2 = c then f.temp.waiting.find? fun w => w.ch = n && w.kind = .plan else none

/-- R392: a continuous window that a conversion on its core overlaps is marked MISS. -/
def Field.missWindow (f : Field) (n c : Nat) : Field :=
  match f.contWindow n c with
  | some w => { f with temp := { f.temp.miss w with waiting := f.temp.waiting.filter (· ≠ w) } }.finishSets
  | none => f

/-- A waiting conversion starts on core `c`. -/
def Field.startOn (f : Field) (c : Nat) (cont : Bool) (w : Wait) : Field :=
  { f with temp := { f.temp with
      core := f.temp.core.setIfInBounds c (some ⟨w, f.clk.fno, true, cont, none⟩), waiting := f.temp.waiting.filter (· ≠ w) } }

/-- R390, R392: assign one core at this boundary. In continuous mode a starved conversion and a plan conversion that another
channel still waits for go before the window; the window that a starved one displaces is missed. -/
def Field.assignCore (f : Field) (c : Nat) : Field :=
  let fno := f.clk.fno
  match f.temp.core[c]?.getD none, f.contChannel with
  | some _, some n => f.missWindow n c
  | some _, none => f
  | none, some n =>
    (match bestWait fno (fun w => decide (w.cls fno ≤ 1) && decide (w.ch ≠ n) && f.mayStart w) f.temp.waiting with
      | some w => if w.cls fno = 0 then (f.missWindow n c).startOn c false w else f.startOn c false w
      | none => match f.contWindow n c with
        | some w => f.startOn c true w
        | none => f)
  | none, none =>
    match bestWait fno f.mayStart f.temp.waiting with
    | some w => f.startOn c false w
    | none => f

/-- The references, the sequencer and the comparators are on with the cores (Table 3-8). -/
def Field.convDomains (f : Field) : Field :=
  let on := (List.range 2).filterMap fun c => (f.temp.core[c]?.getD none).map fun v => (c, v.req.ch)
  on.foldl (fun f e => ((((((((f.domain (36 + e.1)).domain (24 + 3 * e.2)).domain (25 + 3 * e.2)).domain (26 + 3 * e.2)).domain
    38).domain 39).domain 40).domain 41).domain 42 |>.domain 90) f

/-- CONVERSION_START (R390, R392, R161, R398, R85): the conversions that start at this boundary, core 0 first. -/
def doConversionStart (f : Field) : Field :=
  if !f.runs || f.start.frames < 8 || f.startsBlocked || f.idleOnVbat then f
  else ((f.assignCore 0).assignCore 1).convDomains

/-- R386, R390: at this boundary the channel is in a conversion that does not end here. -/
def Field.stillIn (f : Field) (ch : Nat) : Bool :=
  (List.range 2).any fun c => match f.temp.core[c]?.getD none with
    | some v => v.req.ch = ch && decide (f.clk.fno < v.start + 2)
    | none => false

/-- R400: at a blocked boundary the plan conversions that would have started are noted on the core they would have
used. -/
def Field.blockCore (f : Field) (c : Nat) : Field :=
  let busy := match f.temp.core[c]?.getD none with | some v => decide (f.clk.fno < v.start + 2) | none => false
  if busy || (f.temp.blocked[c]?.getD none).isSome || f.start.frames < 8 then f
  else
    let free := fun (w : Wait) => match f.contChannel with
      | some n => if w.ch = n then decide (stampFrames f.clk.stamp % 2 = c) else !f.stillIn w.ch
      | none => !f.stillIn w.ch
    match bestWait f.clk.fno (fun w => w.kind = .plan && f.probeType w.ch != 0 && free w) f.temp.waiting with
    | none => f
    | some w =>
      { f with temp := { f.temp with
          blocked := f.temp.blocked.setIfInBounds c (some (w, f.clk.fno)), waiting := f.temp.waiting.filter (· ≠ w) } }

/-- R397: the seen bits of a result of a channel. -/
def Temp.seen (t : Temp) (n : Nat) (opened short : Bool) : Temp :=
  { t with flt := t.flt ||| BitVec.ofNat 8 (2 ^ n * opened.toNat + 2 ^ (n + 4) * short.toNat) }

/-- R400 to R402: issue the held result of a blocked conversion at the boundary at which it would have ended. -/
def Field.heldResult (f : Field) (c : Nat) : Field :=
  match f.temp.blocked[c]?.getD none with
  | none => f
  | some (w, start) =>
    if f.clk.fno < start + 2 then f
    else
      let t := { f.temp with blocked := f.temp.blocked.setIfInBounds c none, held := satAdd f.temp.held 1 }
      let old := t.latest[w.ch]?.getD none
      let l : Latest := match old with
        | some l => { l with stamp := f.clk.stamp, stale := true }
        | none => ⟨0x80000000#32, f.clk.stamp, true, false, false, false⟩
      let t := { t with latest := t.latest.setIfInBounds w.ch (some l) }.seen w.ch l.opened l.short
      let t := t.done w (l.value, memberFlags l.opened l.short true false, f.clk.fno - w.due)
      { f with temp := t }.finishSets

/-- Housekeeping of the temperature channels at a boundary: held results end, channels fall due, blocked starts. -/
def Field.tempItem (f : Field) : Field :=
  if !f.runs then f
  else
    let f := (f.heldResult 0).heldResult 1
    let f := f.planItem
    if f.startsBlocked then (f.blockCore 0).blockCore 1 else f

/-! ### Running and ending (R386 to R388, R395) -/

/-- CONTINUITY_CHECK (R395): the check at tick 64 of the start frame. -/
def doContinuityCheck (c : Fin 2) (padsOk : Bool) (f : Field) : Field :=
  match f.temp.core[c.val]?.getD none with
  | none => f
  | some v => { f with temp := { f.temp with
      core := f.temp.core.setIfInBounds c.val (some { v with padsOk := v.padsOk && padsOk }) } }

/-- CONVERSION_LATCH_BUSY (R387, R46). -/
def doLatchBusy (c : Fin 2) (f : Field) : Field :=
  match f.temp.core[c.val]?.getD none, f.temp.latch[c.val]?.getD none with
  | some v, some _ =>
    if v.start = f.clk.fno then
      { f with temp := { f.temp with
          core := f.temp.core.setIfInBounds c.val none, waiting := v.req :: f.temp.waiting,
          slip := satAdd f.temp.slip 1 } }
    else f
  | _, _ => f

/-- CONVERSION_END (R386, R388, R395): two frames after the start the result is latched with the boundary's stamp. -/
def doConversionEnd (c : Fin 2) (milliOhm : Nat) (padsOk : Bool) (f : Field) : Field :=
  match f.temp.core[c.val]?.getD none, f.temp.latch[c.val]?.getD none with
  | some v, none =>
    if f.clk.fno < v.start + 2 || !f.runs then f
    else
      let l : Latch := ⟨v.req, f.clk.fno, f.clk.stamp, milliOhm, v.padsOk && padsOk, v.cont,
        v.params.getD (f.temp.params v.req.ch)⟩
      { f with temp := { f.temp with
          core := f.temp.core.setIfInBounds c.val none, latch := f.temp.latch.setIfInBounds c.val (some l) } }
  | _, _ => f

/-- Table 2-4: the completion slices that the results latched or ending at this boundary ask for. -/
def Field.completionReqs (f : Field) : List Req :=
  (List.range 2).filterMap fun c =>
    let ending := match f.temp.core[c]?.getD none with | some v => decide (v.start + 2 ≤ f.clk.fno) | none => false
    let planned := f.sched.deferred.any fun r => r.kind = .completion c
    if (ending || (f.temp.latch[c]?.getD none).isSome) && !planned then some ⟨2, 8, .completion c⟩ else none

/-- R392: a SNAP of the channel in continuous mode is filled by its next result. -/
def Temp.mergeSnap (t : Temp) (l : Latch) (v : Word) (g : BitVec 4) : Temp :=
  if l.cont then
    match t.waiting.find? fun w => w.ch = l.req.ch && w.kind = .snap && decide (w.due < l.sampleFno) with
    | some w => { t.done w (v, g, l.sampleFno - w.due) with waiting := t.waiting.filter (· ≠ w) }
    | none => t
  else t

/-- R394 to R397, R403, R337, R338: the result of a latched conversion; a GAP that has begun ends its hold. -/
def Field.complete (f : Field) (c : Nat) (l : Latch) : Field :=
  let n := l.req.ch
  let r := linearise l.params l.milliOhm l.padsOk f.free
  let v := r.1
  let flags := memberFlags r.2.1 r.2.2 false false
  let latest : Latest := ⟨v, l.sample, false, r.2.1, r.2.2, l.req.kind = .bat⟩
  let t := { f.temp with latch := f.temp.latch.setIfInBounds c none, latest := f.temp.latest.setIfInBounds n (some latest) }
  let t := (t.seen n r.2.1 r.2.2).done l.req (v, flags, l.sampleFno - l.req.due)
  let t := if f.contChannel = some n then t.mergeSnap l v flags else t
  let value := if v = 0x80000000#32 then none else some v.toInt
  let per := f.per.result n l.sample value (r.2.1 || r.2.2)
  let per := match f.sup.gap with | some g => per.gapStart g.start | none => per
  ({ f with temp := t, per := per }.freeNext).finishSets

/-- CONVERSION_COMPLETION (R394): the priority-2 slice of a core, when it is the next of this frame's plan. -/
def doConversionCompletion (c : Fin 2) (f : Field) : Field :=
  match takeReq (fun k => k = .completion c.val) f.sched.plan with
  | none => f
  | some (_, rest) =>
    if !f.slices then f
    else
      let g := f.planLeft rest
      (match f.temp.latch[c.val]?.getD none with
        | none => g
        | some l => (g.complete c.val l).sram 0).periodSlices

/-! ### Supply changes and commits (R80, R82, R384, R385, R404) -/

/-- The plan conversions whose held results have still to come (R400). -/
def Temp.heldWaits (t : Temp) : List Wait := (List.range 2).filterMap fun c => (t.blocked[c]?.getD none).map fun b => b.1

/-- R80: at a commit to VBAT plan conversions that have not started are marked MISS, without T_SLIP. -/
def Field.planStop (f : Field) : Field :=
  let late := (f.temp.waiting.filter fun (w : Wait) => w.kind = ConvKind.plan) ++ f.temp.heldWaits
  let t := late.foldl Temp.miss f.temp
  { f with temp := { t with
      waiting := t.waiting.filter fun (w : Wait) => w.kind ≠ ConvKind.plan, blocked := Vector.replicate 2 none } }.finishSets

/-- R82, R404: at a commit to hold-up conversions in progress and untaken results are discarded; a held result that would end in
hold-up leaves its set as they do (DEDUCED, unsafe: notes/assumptions/83.md). -/
def Field.discardConv (f : Field) : Field :=
  let gone := (List.range 2).filterMap (fun c => (f.temp.core[c]?.getD none).map fun v => v.req) ++
    (List.range 2).filterMap (fun c => (f.temp.latch[c]?.getD none).map fun l => l.req) ++ f.temp.heldWaits
  let t := gone.foldl Temp.leave f.temp
  { f with temp := { t with
      core := Vector.replicate 2 none, latch := Vector.replicate 2 none, blocked := Vector.replicate 2 none } }

/-- R410, R384: a conversion that ends at this boundary keeps the parameters of before the commit. -/
def Temp.freeze (t : Temp) (n fno : Nat) : Temp :=
  { t with core := t.core.map fun o => o.map fun v =>
      if v.req.ch = n && decide (v.start + 2 ≤ fno) && v.params.isNone then { v with params := some (t.params n) } else v }

/-- Table 11-6. -/
def shDefaults (ty : Nat) : Word × Word × Word :=
  if ty = 4 then (0x3A59117F#32, 0x395AF153#32, 0x33ABCC77#32) else (0x3A8E40A0#32, 0x397964B0#32, 0x33D6BF95#32)

/-- R384, R385: a PRBn set commits. -/
def Field.prbCommit (f : Field) (n : Nat) (cfg : Word) : Field :=
  let old := f.temp.cfg[n]?.getD 0#32
  let fno := f.clk.fno
  let t := f.temp.freeze n fno
  let gone := (List.range 2).filterMap fun c => match t.core[c]?.getD none with
    | some v => if v.req.ch = n && decide (fno < v.start + 2) then some (c, v.req) else none
    | none => none
  let t := gone.foldl (fun t e => { (t.leave e.2) with core := t.core.setIfInBounds e.1 none }) t
  let ty := fieldOf cfg 0 3
  let t := { t with cfg := t.cfg.setIfInBounds n cfg }
  let t := if ty = 0 then
      let ws := t.waiting.filter fun w => w.ch = n
      { ws.foldl Temp.leave t with waiting := t.waiting.filter fun w => w.ch ≠ n }
    else t
  let t := if (ty = 3 || ty = 4) && fieldOf old 0 3 ≠ ty then
      let d := shDefaults ty
      { t with sh := ((t.sh.setIfInBounds (3 * n) d.1).setIfInBounds (3 * n + 1) d.2.1).setIfInBounds (3 * n + 2) d.2.2 }
    else t
  ({ f with temp := t }.stage (recCalReg f.clk.stamp (0x1510 + 4 * n) old cfg)).finishSets

/-- R383: a staged set is refused. -/
def prbBad (cfg : Word) : Bool :=
  let ty := fieldOf cfg 0 3
  let exc := fieldOf cfg 4 2
  decide (5 ≤ ty) || exc == 3 || (ty == 0 && exc != 0)

/-- The words of a `SAMP` (Table 4-6). -/
def sampWords (n : Nat) (l : Latest) : List Word :=
  let w0 := n * 2 ^ 30 + l.stale.toNat * 2 ^ 29 + l.opened.toNat * 2 ^ 28 + l.short.toNat * 2 ^ 27 + l.bat.toNat * 2 ^ 26
  [BitVec.ofNat 32 w0 ||| stampHi l.stamp, stampLo l.stamp, stampFr l.stamp, l.value]

end Sys2Proof.Machine
end

