-- ==== Sys2Proof/Machine/JournalOps.lean ====
section
/-! DEFINITION. Sys2Proof/Machine/JournalOps.lean: flush, seal, mount, wear, the ring, export, verify and erasure, the
seal key and the KEEP mirror (12_journal.md; 16_commands.md R600, R603, R604). -/

namespace Sys2Proof.Machine

/-! ### Blocks and the seal chain (R411 to R414) -/

/-- A slot that has never been programmed (R412). -/
def erasedSlot : Slot := BitVec.allOnes 256

def Blk.slot (b : Blk) (i : Nat) : Slot := ((b.slots.find? fun e => e.1 = i).map (·.2)).getD erasedSlot
def Blk.closed (b : Blk) : Bool := b.slots.any fun e => e.1 = 127
/-- Record slots used (Table 12-11). -/
def Blk.used (b : Blk) : Nat := (b.slots.filter fun e => 0 < e.1 && e.1 < 127).length

def Jrn.blk (j : Jrn) (bsn : Word) : Option Blk := j.blocks.find? fun b => b.bsn = bsn
def Jrn.openBlk (j : Jrn) : Option Blk := j.blocks.find? fun b => !b.closed
def Jrn.newest (j : Jrn) : Option Word := j.blocks.getLast?.map (·.bsn)
/-- `J_TAIL` and `J_HEAD` (Table 12-11). -/
def Jrn.tail (j : Jrn) : Word := (j.blocks.head?.map (·.bsn)).getD j.nextBsn
def Jrn.head (j : Jrn) : Word := (j.openBlk.map (·.bsn)).getD j.nextBsn

/-- The seal before a block: the closed block before it, or the stored anchor (R414, R438). -/
def Jrn.sealBefore (j : Jrn) (bsn : Word) : Slot :=
  match j.blk (bsn - 1) with
  | some b => b.slot 127
  | none => j.anchor

/-- A slot of bytes in stored order. -/
def slotOfBytes (bs : List Byte) : Slot := BitVec.ofNat 256 (natOfLE bs)

/-- R414: the seal over header, slots 1 to 126 as stored and the seal before. -/
def sealOf (slots : List Slot) (prev : Slot) : Slot :=
  slotOfBytes (sha256 ((slots.map slotBytes).flatten ++ slotBytes prev))

def Blk.sealed (b : Blk) (prev : Slot) : Blk :=
  { b with slots := b.slots ++ [(127, sealOf ((List.range 127).map b.slot) prev)] }

def Jrn.putBlk (j : Jrn) (b : Blk) : Jrn := { j with blocks := j.blocks.map fun x => if x.bsn = b.bsn then b else x }

/-- Close the open block as it stands. -/
def Jrn.sealOpen (j : Jrn) : Jrn :=
  match j.openBlk with
  | none => j
  | some b => j.putBlk (b.sealed (j.sealBefore b.bsn))

/-! ### Cycle counts and erased blocks (R446) -/

def Jrn.cyc (j : Jrn) (phys : Nat) : Nat := ((j.cycles.find? fun e => e.1 = phys).map (·.2)).getD 0

/-- One more program cycle of a block, the list rising. -/
def bumpCyc (phys : Nat) : List (Nat × Nat) → List (Nat × Nat)
  | [] => [(phys, 1)]
  | (p, n) :: rest =>
    if p < phys then (p, n) :: bumpCyc phys rest else if p = phys then (p, n + 1) :: rest else (phys, 1) :: (p, n) :: rest

def Jrn.bump (j : Jrn) (phys : Nat) : Jrn := { j with cycles := bumpCyc phys j.cycles }
def Jrn.cycMax (j : Jrn) : Nat := (j.cycles.map (·.2)).foldl max 0

/-- The erased block that a comparison of cycle counts prefers, the lowest number among equals. -/
def pickErased (better : Nat → Nat → Bool) (j : Jrn) : Option Nat :=
  j.erased.foldl
    (fun o p => match o with
      | none => some p
      | some q => if better (j.cyc p) (j.cyc q) || (j.cyc p = j.cyc q && p < q) then some p else some q) none

def Jrn.leastWorn (j : Jrn) : Option Nat := pickErased (fun a b => decide (a < b)) j
def Jrn.mostWorn (j : Jrn) : Option Nat := pickErased (fun a b => decide (b < a)) j

/-- System blocks S0 to S15 stand at the top of the array (DESIGN CHOICE, unsafe: notes/assumptions/3.md). -/
def sysBase : Nat := 1008

/-- The physical block of a system block: its own, or the spare that replaced it (R444). -/
def Jrn.sysPhys (j : Jrn) (k : Nat) : Nat := ((j.sysMap.find? fun e => e.1 = k).map (·.2)).getD (sysBase + k)

/-- The system block that a physical block holds; an abandoned one is out of use (R452). -/
def Jrn.sysAt (j : Jrn) (phys : Nat) : Option Nat :=
  (List.range 16).find? fun k => j.sysPhys k = phys && !j.sysBad.contains k

/-- A physical block holds data, is erased, a spare or a system block; one that was retired does not. -/
def Jrn.inUse (j : Jrn) (phys : Nat) : Bool :=
  j.spares.contains phys || j.erased.contains phys || j.blocks.any (fun b => b.phys = phys) || (j.sysAt phys).isSome

/-- Table 3-8: the domains that an NVM slice switches on: the bank, the ECC, the pumps when it programs, the hash. -/
def Field.nvmOn (f : Field) (phys : Nat) (program hash : Bool) : Field :=
  let f := (f.domain (51 + phys / 64)).domain 69
  let f := if program then (f.domain 67).domain 68 else f
  if hash then f.domain 70 else f

/-- The physical block programmed next. -/
def Jrn.workPhys (j : Jrn) : Nat := match j.openBlk with | some b => b.phys | none => j.leastWorn.getD 0

/-! ### Wear records, read-only, the ring (R440 to R452) -/

def Field.wearRec (f : Field) (sub phys corr bsn last : Nat) : Field :=
  f.stage (recWear sub f.clk.stamp phys f.jrn.spares.length (f.jrn.cyc phys) (min corr 255) bsn last)

/-- R450: staged records go to the ring, in order, when the journal becomes read-only. -/
def Jrn.toRing (j : Jrn) : Jrn :=
  let g := (j.staging.map fun r => r.first :: r.more).flatten.foldl Jrn.ringPut j
  { g with staging := [] }

/-- The further slots that follow a record's first slot. -/
def takeMore : Nat → List Slot → List Slot × List Slot
  | 0, ss => ([], ss)
  | _ + 1, [] => ([], [])
  | n + 1, s :: ss =>
    if 0x80 ≤ s.toNat % 256 then
      let r := takeMore n ss
      (s :: r.1, r.2)
    else ([], s :: ss)

/-- Ring slots as records again (R415); further slots whose first slot was overwritten stand alone. -/
def regroup : Nat → Nat → List Slot → List Rec
  | 0, _, _ => []
  | _ + 1, _, [] => []
  | k + 1, fno, s :: ss =>
    let n := if s.toNat % 256 < 0x80 then s.toNat / 2 ^ 14 % 4 else 0
    let r := takeMore n ss
    ⟨s, r.1, fno⟩ :: regroup k fno r.2

/-- R451: once a record can be written to NVM again, the OVF record of the overwritten ring slots. -/
def Field.ovfRing (f : Field) : Field :=
  if decide (0 < f.jrn.ovwPend) && !f.jrnRo && decide (f.jrn.stagedSlots + 1 ≤ Config.stagingSlots) then
    let n := f.jrn.ovwPend
    { f with jrn := { f.jrn with ovwPend := 0 } }.stage (recOvf 5 f.clk.stamp n f.jrn.ovwFirst f.jrn.ring.length)
  else f

/-- R441: an erased data block became available while the cause is full. -/
def Field.drain (f : Field) : Field :=
  if f.jrn.roFull && !f.jrn.roWorn && !f.jrn.erased.isEmpty then
    let j := f.jrn
    let recs := regroup j.ring.length f.clk.fno j.ring
    { f with jrn := { j with
        roFull := false, ring := [], staging := j.staging ++ recs,
        job := j.job.map fun (b : JrnJob) => { b with ringLost := b.ringLost + j.ring.length } } }.ovfRing
  else f

/-- R440: no erased data block for a block that must be opened. -/
def Field.becomeFull (f : Field) : Field := 
  let j := { f.jrn with roFull := true }
  { f with jrn := j.toRing }

/-- R449: the last spare is taken. -/
def Field.becomeWorn (f : Field) (phys : Nat) : Field :=
  let j := f.jrn.sealOpen
  let j := { j with roWorn := true }.toRing
  (({ f with jrn := j }).domain 70).wearRec 3 phys 0 0 0

/-- R448, R449: after a spare is taken. -/
def Field.spareTaken (f : Field) (phys : Nat) : Field :=
  let low := decide (f.jrn.spares.length < 16)
  let f := if low && !f.jrn.spareLow then
      ({ f with jrn := { f.jrn with spareLow := true } }).wearRec 2 phys 0 0 0 else f
  if f.jrn.spares.isEmpty && !f.jrn.roWorn then f.becomeWorn phys else f

/-- R444, R452: retire a physical block that needed `corr` corrections in a slot; a retired block is out of use. -/
def Field.retire (f : Field) (phys corr : Nat) : Field :=
  let j := f.jrn
  let sys := j.sysAt phys
  let bsn := ((j.blocks.find? fun b => b.phys = phys).map (·.bsn)).getD 0#32
  if j.spares.contains phys then
    let j := { j with spares := j.spares.filter (· ≠ phys), retired := satAdd j.retired 1 }
    (({ f with jrn := j }).wearRec 1 phys corr 0 0).spareTaken phys
  else if !j.inUse phys then f
  else match j.spares with
    | [] =>
      (match sys with
        | some k => ({ f with jrn := { j with sysBad := j.sysBad ++ [k] } }).setBit sbNvmErr
        | none => f)
    | new :: rest =>
      let j := { j with
        spares := rest, retired := satAdd j.retired 1,
        sysMap := match sys with | some k => j.sysMap.filter (fun (e : Nat × Nat) => e.1 ≠ k) ++ [(k, new)] | none => j.sysMap,
        blocks := j.blocks.map fun (b : Blk) => if b.phys = phys then { b with phys := new } else b,
        erased := j.erased.map fun p => if p = phys then new else p }
      (({ f with jrn := j.bump new }).wearRec 1 phys corr bsn.toNat 0).spareTaken phys

/-- R445: uncorrectable slots, or a seal mismatch. -/
def Field.unreadable (f : Field) (phys : Nat) (bsn : Word) (slots : Nat) (mismatch : Bool) : Field :=
  let f := { f with jrn := { f.jrn with uncorr := satAdd f.jrn.uncorr slots } }
  let f := if 0 < slots || mismatch then f.setBit sbNvmErr else f
  (List.range (slots + mismatch.toNat)).foldl (fun f _ => f.wearRec 6 phys 0 bsn.toNat 0) f

/-! ### Flush (R418 to R421, R424, R425) -/

/-- R424, R425: the block whose program was stopped moves to an erased block under its BSN. -/
def Field.relocate (f : Field) : Field :=
  match f.jrn.abandoned.bind f.jrn.blk with
  | none => { f with jrn := { f.jrn with abandoned := none } }
  | some b =>
    let j := { f.jrn with abandoned := none }
    let go := fun (j : Jrn) (new : Nat) =>
      let f := { f with jrn := (j.putBlk { b with phys := new }).bump new }
      f.wearRec 7 b.phys 0 b.bsn.toNat new
    match j.leastWorn, j.spares with
    | some new, _ => go { j with erased := j.erased.filter (· ≠ new) ++ [b.phys] } new
    | none, new :: rest => go { j with spares := rest ++ [b.phys] } new
    | none, [] => { f with jrn := j }

/-- R421, R446, R413: open a block with its header stamped at this boundary.
DEDUCED, unsafe: notes/assumptions/66.md. -/
def Field.openBlock (f : Field) : Field :=
  match f.jrn.leastWorn with
  | none => f.becomeFull
  | some p =>
    let j := f.jrn
    let key := bitOf f.status sbSealKey
    let b : Blk := ⟨j.nextBsn, p, [(0, headerSlot j.nextBsn f.uid f.start.bootn f.clk.epn f.clk.stamp key j.policy)]⟩
    { f with jrn := { j with
        blocks := j.blocks ++ [b], nextBsn := j.nextBsn + 1, erased := j.erased.filter (· ≠ p) }.bump p }

/-- R418, R419: the staged records that fit, in order; the flag tells that one did not fit. -/
def fillBlk : List Rec → Blk → Blk × List Rec × Bool
  | [], b => (b, [], false)
  | r :: rs, b =>
    let at0 := b.used + 1
    if 126 < b.used + r.size then (b, r :: rs, true)
    else
      let new := (r.first :: r.more).zipIdx.map fun (s, i) => (at0 + i, s)
      fillBlk rs { b with slots := b.slots ++ new }

/-- One flush of staged records into one block; `mustSeal` for the cases of R420 that ask for it. -/
def Field.flush (f : Field) (mustSeal : Bool) : Field :=
  let f := if f.jrn.abandoned.isSome && !f.jrn.roWorn then f.relocate else f
  if f.jrnRo then f
  else if f.jrn.staging.isEmpty then
    if mustSeal then { f with jrn := f.jrn.sealOpen }.domain 70 else f
  else
    let f := if f.jrn.openBlk.isNone then f.openBlock else f
    match f.jrn.openBlk with
    | none => f
    | some b =>
      let r := fillBlk f.jrn.staging b
      let j := { f.jrn with staging := r.2.1 }.putBlk r.1
      let f := if r.2.2 || mustSeal || 126 ≤ r.1.used then { f with jrn := j.sealOpen }.domain 70 else { f with jrn := j }
      f.ovfRing

/-- How many flush slices program the staged records after `room` slots are left in the open block (R418, R419). -/
def flushesFor : Nat → List Rec → Nat
  | _, [] => 1
  | room, r :: rs => if r.size ≤ room then flushesFor (room - r.size) rs else flushesFor (126 - r.size) rs + 1

/-- The urgent flushes that seal every staged record (R45, R98). -/
def Field.urgentReqs (f : Field) : List Req :=
  let room := match f.jrn.openBlk with | some b => 126 - b.used | none => 126
  List.replicate (flushesFor room f.jrn.staging) ⟨1, 200, .urgentFlush⟩

/-- The kinds of flush slice. -/
def ReqKind.isFlush : ReqKind → Bool
  | .flush => true
  | .urgentFlush => true
  | _ => false

/-- A flush is requested or planned. -/
def Field.flushPending (f : Field) : Bool :=
  (f.sched.plan ++ f.sched.deferred ++ f.sched.arrived).any fun r => r.kind.isFlush

/-- Frames since the oldest staged record was staged. -/
def Field.stagedAge (f : Field) : Option Nat := f.jrn.staging.head?.map fun r => f.clk.fno - r.frame

/-- FLUSH_REQUEST (R44): when a block fills or the oldest staged record reaches 48 frames. -/
def doFlushRequest (f : Field) : Field :=
  let room := match f.jrn.openBlk with | some b => 126 - b.used | none => 126
  let due := (match f.stagedAge with | some n => decide (48 ≤ n) | none => false) ||
    (!f.jrn.staging.isEmpty && decide (room ≤ f.jrn.stagedSlots))
  if f.runs && f.start.mounted && !f.jrnRo && due && !f.flushPending then f.request 5 200 .flush else f

/-- R44: raise a waiting routine flush. -/
def raiseFlush (rs : List Req) : List Req := rs.map fun r => if r.kind = .flush then { r with prio := 1 } else r

/-- FLUSH_PRIORITY_RAISE (R44): a flush not started when its record reaches 60 frames. -/
def doFlushRaise (f : Field) : Field :=
  match f.stagedAge with
  | none => f
  | some n =>
    if 60 ≤ n && f.runs then
      { f with sched := { f.sched with
          plan := raiseFlush f.sched.plan, deferred := raiseFlush f.sched.deferred, arrived := raiseFlush f.sched.arrived } }
    else f

/-- FLUSH_SLICE (R418, R420, R444): the planned flush; an urgent one seals. `corr` is the largest count of corrections
in one slot that its verify needed. -/
def doFlushSlice (corr : Nat) (f : Field) : Field :=
  match takeReq ReqKind.isFlush f.sched.plan with
  | none => f
  | some (q, rest) =>
    if !f.slices then f
    else if !f.start.mounted then (f.planLeft rest).periodSlices
    else
      let g := ((f.planLeft rest).nvmOn f.jrn.workPhys true false).sram 0
      let g := g.flush (q.kind = ReqKind.urgentFlush)
      let g := if 2 ≤ corr && !g.jrnRo then
          (match g.jrn.blocks.getLast? with
            | some b => g.retire b.phys corr
            | none => g)
        else g
      g.periodSlices

/-! ### A program stopped by hold-up or the watchdog (R76, R47, R424) -/

/-- The flush slice that stands first in the plan is the running one; it is stopped. If it was opening a block, whether
its header had been verified is open (DESIGN CHOICE, unsafe: notes/assumptions/21.md). -/
def Field.abandonProgram (f : Field) : Field :=
  let running := match f.sched.plan with | r :: _ => r.kind.isFlush | [] => false
  if !running || !f.start.mounted || f.jrnRo || f.jrn.staging.isEmpty then f
  else match f.jrn.openBlk with
    | some b => { f with jrn := { f.jrn with abandoned := some b.bsn } }
    | none =>
      if f.free.getLsbD 0 then
        let g := f.freeNext.openBlock
        { g with jrn := { g.jrn with abandoned := g.jrn.openBlk.map (·.bsn) } }
      else f.freeNext

/-! ### Mount (R422, R423, R429, R162, R163) -/

/-- R427: the key check value, h0 × 256 + h1. -/
def kcvOf (key : List Byte) : BitVec 16 := BitVec.ofNat 16 (natOfBE ((hmacSha256 key (textBytes (txt "KERTI"))).take 2))

/-- The wear map as a rebuild from the block headers leaves it (R422, Table 12-2): the headers name each data block and its place;
cycle counts, `EXP_BSN`, `ESN`, the anchor seal and the retired count stood in the logs only.
DESIGN CHOICE, safe: notes/assumptions/87.md. -/
def Jrn.rebuild (j : Jrn) (ctr : Nat) : Jrn :=
  let x := Config.rebuilt ctr
  { j with
    cycles := ((List.range 1024).map fun p => (p, (Config.rebuiltCycle ctr p).toNat)).filter fun e => e.2 ≠ 0,
    expBsn := if x.getLsbD 32 then none else some (x.truncate 32), esn := (x >>> 33).truncate 32,
    anchor := (x >>> 65).truncate 256, retired := (x >>> 321).truncate 16 }

/-- JOURNAL_MOUNT (R422, R423, R160): mounted at start frame 6 (Table 5-2); `mapOk`: a wear-map log passed its CRC, and the newer
one holds the map as it stands; the key copies' checks bear on a stored key only. An urgent flush asked for before the mount is made
here, further ones follow if records remain.
DESIGN CHOICE, unsafe: notes/assumptions/65.md, notes/assumptions/84.md. -/
def doJournalMount (mapOk keyAOk keyBOk : Bool) (f : Field) : Field :=
  if !f.slices || f.start.mounted || f.start.s0 || f.start.frames < 6 then f
  else
    let f := if mapOk then f else { f with jrn := f.jrn.rebuild f.freeCtr }.freeNext.setBit sbNvmErr
    let f := ((if f.start.kind = .cold then { f with jrn := f.jrn.sealOpen } else f).domain 70).sram 0
    let f := { f with start := { f.start with bootStored := f.start.bootn } }
    let bad := f.jrn.key.isSome && !keyAOk && !keyBOk
    let f := if bad then f.setBit sbNvmErr else f
    let kcv := if bad then 0#16 else match f.jrn.key with | some k => kcvOf k | none => 0#16
    let f := { f with
      jrn := { f.jrn with keyBad := bad, kcv := kcv, spareLow := decide (f.jrn.spares.length < 16) },
      start := { f.start with mounted := true } }
    let urgent := f.jrn.urgentDue
    let f := { f with jrn := { f.jrn with urgentDue := false } }.flush urgent
    let f := if urgent && !f.jrn.staging.isEmpty then
        { f with sched := { f.sched with arrived := f.urgentReqs ++ f.sched.arrived } } else f
    if 0 < f.jrn.refused && f.roomFor 1 then
      let n := f.jrn.refused
      { f with jrn := { f.jrn with refused := 0 } }.stage (recOvf 1 f.clk.stamp n f.jrn.refusedFirst 0)
    else f

/-! ### Scrub (R443 to R447) -/

/-- The bits of a pass as bits per 1000 block reads (R447), eight slices reading one block. -/
def cbpkOf (bits slices : Nat) : BitVec 16 := BitVec.ofNat 16 (if slices = 0 then 0 else min 0xFFFF (bits * 8000 / slices))

/-- R446: a closed block whose count lies far below the highest moves to the most-worn erased block. -/
def Field.level (f : Field) (b : Blk) : Field :=
  match f.jrn.mostWorn with
  | none => f
  | some new =>
    if b.closed && !f.jrn.roWorn && decide (f.jrn.cyc b.phys + 2000 < f.jrn.cycMax) then
      let j := f.jrn
      let j := { j with erased := j.erased.filter (· ≠ new) ++ [b.phys] }
      ({ f with jrn := (j.putBlk { b with phys := new }).bump new }).wearRec 4 b.phys 0 b.bsn.toNat 0
    else f

/-! ### Erasure (R437 to R439, R441, R603) -/

/-- The oldest block that has been exported and lies in no job's range. -/
def Field.erasable (f : Field) : Option Blk :=
  match f.jrn.blocks, f.jrn.expBsn with
  | b :: _, some e =>
    let held := match f.jrn.job with | some x => decide (x.first ≤ b.bsn ∧ b.bsn ≤ x.last) | none => false
    if b.closed && decide (b.bsn ≤ e) && !held then some b else none
  | _, _ => none

/-- R438, R441: erase the oldest present block. -/
def Field.eraseOldest (f : Field) (b : Blk) : Field :=
  let j := f.jrn
  let j := { j with anchor := b.slot 127, blocks := j.blocks.tail, erased := j.erased ++ [b.phys] }
  (({ f with jrn := j }).wearRec 5 b.phys 0 b.bsn.toNat b.bsn.toNat).drain

/-! ### Export and verify (R430 to R436, R603) -/

/-- A journal job runs (R603). -/
def Jrn.busy (j : Jrn) : Bool := j.job.isSome || j.eraseJob

/-- R430, R603: the range of an export, or the error. -/
def Jrn.exportRange (j : Jrn) (range : Option (Nat × Nat)) : Sum Nat (Word × Word) :=
  if j.busy then .inl 23
  else match range, j.newest with
    | some (a, b), some n => if j.tail.toNat ≤ a && a ≤ b && b ≤ n.toNat then .inr (BitVec.ofNat 32 a, BitVec.ofNat 32 b) else .inl 20
    | _, none => .inl 22
    | none, some n =>
      let first := match j.expBsn with | some e => (if e + 1 < j.tail then j.tail else e + 1) | none => j.tail
      if first ≤ n then .inr (first, n) else if j.ring.isEmpty then .inl 22 else .inr (n + 1, n)

/-- R436, R603: the range of a verify, or the error. -/
def Jrn.verifyRange (j : Jrn) (range : Option (Nat × Nat)) : Sum Nat (Word × Word) :=
  let closed := (j.blocks.filter Blk.closed).getLast?.map (·.bsn)
  if j.busy then .inl 23
  else match range, closed with
    | some (a, b), some n => if j.tail.toNat ≤ a && a ≤ b && b ≤ n.toNat then .inr (BitVec.ofNat 32 a, BitVec.ofNat 32 b) else .inl 20
    | some _, none => .inl 20
    | none, none => .inl 22
    | none, some n => .inr (j.tail, n)

/-- A slot as the eight words of a payload (Table 4-6). -/
def slotWords (s : Slot) : List Word := (List.range 8).map fun i => BitVec.ofNat 32 (s.toNat / 2 ^ (32 * i))

/-- The slot that eight payload words spell. -/
def slotOfWords (ws : List Word) : Slot := BitVec.ofNat 256 (ws.foldr (fun w n => w.toNat + 2 ^ 32 * n) 0)

/-- The start of an export or verify job; its `RSPX` data tell the host side what the head and anchor lines name.
DEDUCED, unsafe: notes/assumptions/67.md. -/
def Field.startJrnJob (f : Field) (verify : Bool) (first last : Word) : Field × List Word :=
  let j := f.jrn
  let esn := if verify then j.esn else j.esn + 1
  let ring := if !verify && j.newest = some last then j.ring else []
  let anchor := j.sealBefore first
  let job : JrnJob := ⟨verify, first, last, esn, f.clk.stamp, anchor, ring, 0, 0, []⟩
  ({ f with jrn := { j with esn := esn, job := some job } },
    [esn, first, last, stampHi f.clk.stamp, stampLo f.clk.stamp, stampFr f.clk.stamp, f.uid, BitVec.ofNat 32 ring.length] ++
      slotWords anchor)

/-- Table 4-6: what a `JREQ` names: OP, first slot, slots, block or ring index. -/
def reqOp (w0 : Word) : Nat := fieldOf w0 28 4
def reqSlot (w0 : Word) : Nat := fieldOf w0 21 7
def reqCnt (w0 : Word) : Nat := fieldOf w0 18 3 + 1

/-- Table 4-6: a `JREQ` that is answered with `NAK` 0x14. -/
def Jrn.reqBad (j : Jrn) (w0 w1 : Word) : Bool :=
  let ring := match j.job with | some b => b.ring.length | none => j.ring.length
  if reqOp w0 = 1 then (j.blk w1).isNone || decide (128 < reqSlot w0 + reqCnt w0)
  else if reqOp w0 = 2 then decide (ring < w1.toNat + reqCnt w0) || decide (reqSlot w0 ≠ 0)
  else true

/-- The worst of the `ECCST` codes of a read: uncorrectable, corrected, erased, clean (DEDUCED, unsafe: notes/assumptions/22.md). -/
def worstEcc (cs : List Nat) : Nat :=
  if cs.contains 2 then 2 else if cs.contains 1 then 1 else if cs.contains 3 then 3 else 0

/-- The `JDAT` of a request. -/
def jdatWords (w0 w1 : Word) (ecc : Nat) (slots : List Slot) : List Word :=
  withField (withField w0 0 18 0) 16 2 ecc :: w1 :: (slots.map slotWords).flatten

/-- A verify job gathers the slots of a block, in order. -/
def JrnJob.read (x : JrnJob) (at0 : Nat) (slots : List Slot) : JrnJob :=
  let seen := if at0 = 0 then [] else x.seen
  if x.verify && seen.length = at0 then { x with seen := seen ++ slots } else { x with seen := [] }

/-- R436, R445: the service that completes a closed block of a verify job checks its seal, over the slots as read. -/
def Jrn.sealFails (j : Jrn) (b : Blk) (at0 : Nat) (slots : List Slot) : Bool :=
  match j.job with
  | some x =>
    let seen := (x.read at0 slots).seen
    x.verify && b.closed && seen.length = 128 && seen[127]?.getD 0 ≠ sealOf (seen.take 127) (j.sealBefore b.bsn)
  | none => false

/-- JOURNAL_SERVICE_SLICE (R430, R442, R445): the planned service of one `JREQ` for the running job. -/
def doJournalService (reads : List SlotRead) (f : Field) : Field :=
  match takeReq ReqKind.isJournal f.sched.plan with
  | some (⟨_, _, .journal w0 w1⟩, rest) =>
    if !f.slices then f
    else
      let f : Field := { f.planLeft rest with jobEv := f.jobEv ++ [.jrnStarted] }
      let g := f.nvmOn (match f.jrn.blk w1 with | some b => b.phys | none => 0) false true
      let asks := match g.jrn.openBlk, g.jrn.job with
        | some b, some job => decide (job.first ≤ b.bsn ∧ b.bsn ≤ job.last)
        | _, _ => false
      let ring := match g.jrn.job with | some job => job.ring | none => g.jrn.ring
      let g := if asks then g.flush true else g
      let cnt := reqCnt w0
      if reqOp w0 = 2 then g.send .jdat (jdatWords w0 w1 0 ((ring.drop w1.toNat).take cnt))
      else match g.jrn.blk w1 with
        | none => g
        | some b =>
          let one : Nat → Nat × Slot := fun i =>
            let s := b.slot (reqSlot w0 + i)
            match reads.find? fun r => r.pos = i with
            | some r => if r.ecc = 2#2 then (2, r.value) else if r.ecc = 1#2 then (1, s) else (if s = erasedSlot then 3 else 0, s)
            | none => (if s = erasedSlot then 3 else 0, s)
          let got := (List.range cnt).map one
          let slots := got.map Prod.snd
          let bad := (got.filter fun e => e.1 = 2).length
          let g := { g with jrn := { g.jrn with job := g.jrn.job.map fun (x : JrnJob) => { x with uncorr := x.uncorr + bad } } }
          let g := g.unreadable b.phys b.bsn bad (g.jrn.sealFails b (reqSlot w0) slots)
          let g := { g with jrn := { g.jrn with job := g.jrn.job.map fun (x : JrnJob) => x.read (reqSlot w0) slots } }
          g.send .jdat (jdatWords w0 w1 (worstEcc (got.map Prod.fst)) slots)
  | _ => f

/-- R432: the certificate of a finished export. -/
def Field.certificate (f : Field) (x : JrnJob) : Text :=
  match f.jrn.key with
  | none => txt "+C,NOKEY"
  | some k =>
    if f.jrn.keyBad then txt "+C,NOKEY"
    else
      let lastSeal := match f.jrn.blk x.last with | some b => b.slot 127 | none => x.anchor
      let hash := if x.ring.isEmpty then List.replicate 32 0#8 else sha256 (x.ring.map slotBytes).flatten
      let msg := textBytes (txt "KJC1") ++ bytesLE 4 f.uid.toNat ++ bytesLE 4 x.esn.toNat ++ bytesLE 4 x.first.toNat ++
        bytesLE 4 x.last.toNat ++ slotBytes x.anchor ++ slotBytes lastSeal ++ bytesLE 2 x.ring.length ++ hash ++
        bytesLE 9 x.start.toNat ++ bytesLE 2 (min x.uncorr 0xFFFF)
      txt "+C," ++ hexBytes (hmacSha256 k msg)

/-- R434: an export ended DONE_OK or DONE_PARTIAL; a verify changes nothing (R436). -/
def Field.endJrnJob (f : Field) : Field :=
  match f.jrn.job with
  | none => f
  | some x =>
    if x.verify then { f with jrn := { f.jrn with job := none } }
    else
      let e := match f.jrn.expBsn with | some e => if e < x.last then x.last else e | none => x.last
      { f with jrn := { f.jrn with job := none, expBsn := some e, ring := f.jrn.ring.drop (x.ring.length - x.ringLost) } }

/-! ### Field commands of the journal (16_commands.md Table 16-9) -/

/-- NOTE (R416): 1 to 20 printable characters, stamped with the executing slice's boundary. -/
def Field.note (f : Field) (t : Text) : Field × Nat :=
  if t.length < 1 || 20 < t.length || t.any (fun c => c.toNat < 0x20 || 0x7E < c.toNat) then (f, 20)
  else (f.stage (recNote t f.clk.stamp), 0)

/-- The value of a hexadecimal digit. -/
def hexVal (c : Char) : Option Nat :=
  let n := c.toNat
  if 48 ≤ n && n ≤ 57 then some (n - 48) else if 65 ≤ n && n ≤ 70 then some (n - 55)
  else if 97 ≤ n && n ≤ 102 then some (n - 87) else none

/-- Bytes from an even count of hexadecimal digits. -/
def hexParse : Text → Option (List Byte)
  | [] => some []
  | [_] => none
  | a :: b :: rest =>
    match hexVal a, hexVal b, hexParse rest with
    | some x, some y, some bs => some (BitVec.ofNat 8 (16 * x + y) :: bs)
    | _, _, _ => none

/-- SEAL.KEY (R426 to R429, R604): one part; with all four held the key is stored. -/
def Field.sealKey (f : Field) (p : Nat) (t : Text) : Field × Nat :=
  if f.jrn.key.isSome || f.jrn.keyBad then (f, 22)
  else
    let d := t.filter (· ≠ ' ')
    match hexParse d with
    | none => (f, 20)
    | some bs =>
      if d.length ≠ 16 || 3 < p then (f, 20)
      else
        let parts := f.jrn.keyParts.filter (fun e => e.1 ≠ p) ++ [(p, bs)]
        let get := fun i => parts.find? fun e => e.1 = i
        match get 0, get 1, get 2, get 3 with
        | some a, some b, some c, some e =>
          let key := a.2 ++ b.2 ++ c.2 ++ e.2
          let kcv := kcvOf key
          let f := { f with jrn := { f.jrn with key := some key, keyParts := parts, kcv := kcv } }
          (f.stage (recCal 7 f.clk.stamp [(11, 2, kcv.toNat)]), 0)
        | _, _, _, _ => ({ f with jrn := { f.jrn with keyParts := parts } }, 0)

/-- J.ERASE (R439, R603). -/
def Field.startErase (f : Field) : Field × Nat :=
  if f.jrn.roWorn then (f, 40)
  else if f.jrn.busy then (f, 23)
  else match f.erasable with
    | none => (f, 22)
    | some _ => ({ f with jrn := { f.jrn with eraseJob := true } }, 0)

/-- The blocks that an erase job covers at its start (R439, R592). -/
def Jrn.exported (j : Jrn) : Nat :=
  match j.expBsn with
  | some e => (j.blocks.filter fun b => b.closed && decide (b.bsn ≤ e)).length
  | none => 0

/-! ### The KEEP mirror (R600) -/

/-- KEEP.SAVE: recorded unless on VBAT or in hold-up, or while a save is pending. -/
def Field.keepSave (f : Field) : Field × Nat :=
  if f.sup.sel = .vbat || f.sup.sel = .vbk || f.jrn.mirrorSave.isSome then (f, 22)
  else ({ f with jrn := { f.jrn with mirrorSave := some (f.keep.bytes.toList, 0) } }, 0)

/-- The save count of the next save: one more, modulo 2^16, than the higher count held. -/
def Jrn.mirrorCount (j : Jrn) : Nat :=
  let get := fun (o : Option (Nat × List Byte)) => (o.map (·.1 + 1)).getD 0
  max (get j.mirrorA) (get j.mirrorB) % 65536

/-- KEEP.LOAD: the copy with the higher save count; every PERR clears. -/
def Field.keepLoad (f : Field) : Field × Nat :=
  let best := match f.jrn.mirrorA, f.jrn.mirrorB with
    | some a, some b => some (if a.1 < b.1 then b.2 else a.2)
    | some a, none => some a.2
    | none, some b => some b.2
    | none, none => none
  match best with
  | none => (f, 41)
  | some bs =>
    ({ f with keep := { bytes := Vector.ofFn fun i => bs[i.val]?.getD 0#8, bad := 0#64, perr := 0#64 } }, 0)

end Sys2Proof.Machine
end

