-- ==== Sys2Proof/Machine/RateOps.lean ====
section
/-! DEFINITION. Sys2Proof/Machine/RateOps.lean: COMP, TRIM, the learning windows and RATE_Q (08_rate.md). -/

namespace Sys2Proof.Machine

/-! ### COMP (R293, R294) -/

/-- A signed field of a register. -/
def sField (w : Word) (lo len : Nat) : Int :=
  let v := fieldOf w lo len
  if v < 2 ^ (len - 1) then (v : Int) else (v : Int) - 2 ^ len

/-- T0 in °C and CURV in ppb/°C² (Table 8-5). -/
def compT0 (p : Word) : Rat := (sField p 0 16 : Rat) / 64
def compCurv (p : Word) : Rat := (sField p 16 16 : Rat) / 100

/-- An entry of the learned table in ppb, and its confidence. -/
def ltabVal (w : Word) : Rat := (sField w 0 16 : Rat) / 10
def ltabConf (w : Word) : Nat := fieldOf w 16 4

/-- R294: the table index and fraction of a die temperature in °C. -/
def tabIndex (t : Rat) : Nat × Rat :=
  let x := (t + 40) / 4
  let j := min 31 x.floor.toNat
  (j, x - (j : Rat))

/-- R294: the clamped die temperature. -/
def clampT (t : Rat) : Rat := clampQ (-40) 88 t

/-- R294: the factory parabola in ppb. -/
def yFac (p : Word) (t : Rat) : Rat := compCurv p * (t - compT0 p) * (t - compT0 p)

/-- R294: the learned table in ppb. -/
def lTab (tab : Vector Word 33) (t : Rat) : Rat :=
  let (j, g) := tabIndex t
  (1 - g) * ltabVal (tab[j]?.getD 0#32) + g * ltabVal (tab[j + 1]?.getD 0#32)

/-- R294: r_c at a die temperature. -/
def compRate (cfg p : Word) (tab : Vector Word 33) (t : Rat) : Rat :=
  if bitOf cfg 13 then
    let t := clampT t
    (0 - (yFac p t + lTab tab t)) / 1000000000
  else 0

/-- R293: r_c from the last read of this start; held before it, and 0 from a commit of COMP_EN = 0. -/
def Field.compNow (f : Field) : Rat :=
  if f.rate.tvalid then compRate f.rate.cfg f.cal.ws.compPar f.cal.ws.ltab ((f.rate.tdie.toInt : Rat) / 64)
  else if bitOf f.rate.cfg 13 then f.rate.rc else 0

/-- R293: an input of R294 changed at this boundary. -/
def Field.recomp (f : Field) : Field := { f with rate := { f.rate with rc := f.compNow, rcNext := none } }

/-- R303: TRIM as a rate. -/
def Rate.trim (r : Rate) : Rat := (sField r.cfg 0 9 : Rat) / (32768 * 2 ^ fieldOf r.cfg 9 4)

/-- R194, Table 8-1: the steering sum. -/
def Field.steering (f : Field) : Rat := f.refs.rd + f.refs.rs + f.rate.rc + f.rate.trim

/-- The slew term and the increment of a frame supposed to have `len` ticks, and the ticks that it then has.
DESIGN CHOICE, unsafe: notes/assumptions/54.md. -/
def Field.tryLen (f : Field) (len : Nat) : Rat × Nat × Nat :=
  let rs := f.refs.slewRate len
  let g := { f with refs := { f.refs with rs := rs } }
  let inc := if f.start.rc then 2 ^ 49 else incrOf g.steering f.freeCtr
  (rs, inc, ticksToBoundary f.clk.acc inc)

/-- R193, R194, R264: the rate terms, the increment and the length of the frame that begins.
DEDUCED, unsafe: notes/assumptions/55.md. -/
def Field.newRate (f : Field) : Field :=
  let a := f.tryLen 512
  let b := f.tryLen 511
  let c := f.tryLen 513
  let x := if a.2.2 = 512 then a else if b.2.2 = 511 then b else if c.2.2 = 513 then c else a
  { f with
    refs := { f.refs with
      rs := x.1,
      corrPast :=
        (⟨f.clk.stamp.toNat, f.refs.corr, x.1 * (2 ^ 49 : Nat) / (x.2.1 : Rat), f.refs.set⟩ :: f.refs.corrPast).take markFrames },
    clk := { f.clk with incr := x.2.1, frameLen := x.2.2 },
    freeCtr := f.freeCtr + 1 }

/-- The rate of the frame that begins is formed again, at its boundary (R28). -/
def Field.rerate (f : Field) : Field :=
  { f with refs := { f.refs with corrPast := f.refs.corrPast.tail } }.newRate

/-! ### Die temperature reads (R289 to R292) -/

/-- R290: the read against which the slope is formed: the latest taken 64 s or more before, else the oldest; `now` in frames. -/
def slopeBase (now : Nat) (reads : List (Nat × Int)) : Option (Nat × Int) :=
  match reads.find? fun r => r.1 + 4096 ≤ now with
  | some r => some r
  | none => reads.getLast?

/-- Reads kept: those of the last 64 s and the latest one at or before that (R290). -/
def keepReads (now : Nat) : List (Nat × Int) → List (Nat × Int)
  | [] => []
  | r :: rs => if r.1 + 4096 ≤ now then [r] else r :: keepReads now rs

/-- R289, R26: a read falls due at frame 0, by the stamp seconds count there. -/
def Field.readDue (f : Field) : Bool :=
  let sec := stampSec f.clk.stamp
  let zero := decide (f.clk.frame = 0)
  f.runs && !f.start.rc && f.start.restored && zero &&
    (if !f.rate.tvalid then true else if f.rate.fast then sec % 4 == 0 else sec % 64 == 0)

/-- DIE_TEMP_READ (R289 to R293): the read, the slope, the mode; r_c applies at the next frame boundary. -/
def doDieTempRead (t : BitVec 16) (f : Field) : Field :=
  if !f.readDue then f
  else
    let now := stampFrames f.clk.stamp
    let v := t.toInt
    let first := !f.rate.tvalid
    let slope : Option Rat := (slopeBase now f.rate.reads).bind fun b =>
      if b.1 < now then some (ratAbs (((v - b.2 : Int) : Rat) / 64 * 60 * 64 / ((now - b.1 : Nat) : Rat))) else none
    let quick := match slope with | some x => decide (1 / 2 < x) | none => false
    let still := match slope with | some x => decide (x ≤ 2 / 5) | none => false
    let fast := if first then true else f.rate.fast
    let calm := if !fast then 0 else if first then 0 else if still then f.rate.calm + 1 else 0
    let fast' := if quick then true else if fast && decide (16 ≤ calm) then false else fast
    let rate := { f.rate with
      tdie := t, tvalid := true, fast := fast', calm := if fast' && !quick then calm else 0,
      reads := (now, v) :: keepReads now f.rate.reads,
      rcNext := some (compRate f.rate.cfg f.cal.ws.compPar f.cal.ws.ltab ((v : Rat) / 64)) }
    let rate := match rate.learn with
      | none => rate
      | some w =>
        let w := { w with temps := w.temps ++ [v] }
        let lo := w.temps.foldl min v
        let hi := w.temps.foldl max v
        if 64 < hi - lo then { rate with learn := some w }.abort else { rate with learn := some w }
    { f with rate := rate }

/-! ### Learning (R295 to R300) -/

/-- R295: the conditions of a learning window. -/
def Field.learnOk (f : Field) : Bool :=
  bitOf f.rate.cfg 14 && bitOf f.rate.cfg 13 && f.refs.tracking && f.refs.ho.isNone && f.refs.jump.isNone &&
    !f.refs.slewOn && f.sup.sel ≠ .vbk && f.runs

/-- The frames of a half-window of 256 s (R295). -/
def halfFrames : Nat := 256 * 64

/-- r_d + r_c + r_t of the frame that begins (R298). -/
def Field.baseRate (f : Field) : Rat := f.refs.rd + f.rate.rc + f.rate.trim

/-- R295, R26: a window opens at frame 0 where its conditions hold. -/
def Field.learnOpen (f : Field) : Field :=
  if f.learnOk && decide (f.clk.frame = 0) && f.rate.learn.isNone then
    { f with rate := { f.rate with
        learn := some ⟨1, stampFrames f.clk.stamp, [], f.baseRate, 1, none, false, []⟩ } }
  else f

/-- R295, R296, R298: at each boundary a window whose condition fails is aborted, and one opens at frame 0; the half in progress
gathers the rates of the frame that begins, or it ends there. -/
def Field.learnFrame (f : Field) : Field :=
  let f := if f.learnOk then f else { f with rate := f.rate.abort }
  match f.rate.learn with
  | none => f.learnOpen
  | some w =>
    if w.due then f
    else
      let w := if w.start + halfFrames ≤ stampFrames f.clk.stamp then { w with due := true }
        else { w with rbSum := w.rbSum + f.baseRate, rbFrames := w.rbFrames + 1 }
      { f with rate := { f.rate with learn := some w } }

/-- R298: the least-squares slope of offset against stamp time.
DEDUCED, unsafe: notes/assumptions/57.md. -/
def slopeLS (ms : List OMark) : Rat :=
  match ms with
  | [] => 0
  | m0 :: _ =>
    let n : Rat := (ms.length : Rat)
    let pts := ms.map fun m => (((m.stamp - m0.stamp : Nat) : Rat), (m.ofs : Rat))
    let sx := pts.foldl (fun a p => a + p.1) 0
    let sy := pts.foldl (fun a p => a + p.2) 0
    let sxx := pts.foldl (fun a p => a + p.1 * p.1) 0
    let sxy := pts.foldl (fun a p => a + p.1 * p.2) 0
    let den := n * sxx - sx * sx
    if den = 0 then 0 else (n * sxy - sx * sy) / den

/-- R298: the crystal error that a half estimates. -/
def Learn.estimate (w : Learn) : Rat :=
  let rb := if w.rbFrames = 0 then 0 else w.rbSum / (w.rbFrames : Rat)
  0 - (slopeLS w.marks + rb)

/-- LEARNING_HALF_END (R297, R298): with fewer than 8 consistent marks the window is aborted; else the first half's
estimate is kept and the second half runs. -/
def doLearningHalfEnd (f : Field) : Field :=
  match f.rate.learn with
  | none => f
  | some w =>
    if !w.due then f
    else if w.marks.length < 8 then { f with rate := f.rate.abort }.learnOpen
    else if w.half = 1 then
      { f with rate := { f.rate with
          learn := some { w with
            half := 2, start := w.start + halfFrames, marks := [], rbSum := f.baseRate, rbFrames := 1,
            y1 := some w.estimate, due := false } } }
    else f

/-- R300: one entry of the learned table moved by its share of the error. -/
def learnEntry (w : Word) (share e : Rat) : Word × Int :=
  let conf := ltabConf w
  let g : Rat := if conf < 4 then 1 / 2 else 1 / 8
  let dv := roundQ (g * share * e * 10)
  let v := max (-32767) (min 32767 (sField w 0 16 + dv))
  let conf := if 1 / 2 ≤ share && conf < 15 then conf + 1 else conf
  (withField (BitVec.ofNat 32 (conf * 2 ^ 16)) 0 16 (BitVec.ofInt 16 v).toNat, v - sField w 0 16)

/-- R300: the update of the two entries that bracket t_m; the larger change and its entry. -/
def learnUpdate (tab : Vector Word 33) (p : Word) (rt : Rat) (y tm : Rat) : Vector Word 33 × Int × Nat :=
  let t := clampT tm
  let (j, g) := tabIndex t
  let e := y * 1000000000 - (yFac p t + lTab tab t - rt * 1000000000)
  let a := learnEntry (tab[j]?.getD 0#32) (1 - g) e
  let b := learnEntry (tab[j + 1]?.getD 0#32) g e
  ((tab.setIfInBounds j a.1).setIfInBounds (j + 1) b.1,
    if a.2.natAbs < b.2.natAbs then (b.2, j + 1) else (a.2, j))

/-- R311: the largest change of the summary's span. -/
def Rate.noteChange (r : Rate) (d : Int) (entry : Nat) : Rate :=
  if r.sumMax.natAbs < d.natAbs then { r with sumMax := d, sumEntry := entry } else r

/-- LEARNING_WINDOW_CLOSE (R299, R300, R501): at the end of the second half; the update enters the increment at that boundary. The rejection count of item 0x04 follows
R460 and R461. -/
def doLearningWindowClose (f : Field) : Field :=
  match f.rate.learn with
  | none => f
  | some w =>
    match w.y1 with
    | none => f
    | some y1 =>
      if !w.due || w.half ≠ 2 then f
      else if w.marks.length < 8 then { f with rate := f.rate.abort }.learnOpen
      else
        let y2 := w.estimate
        let diff := ratAbs (y1 - y2) * 10000000000
        let d16 : BitVec 16 := BitVec.ofNat 16 (min (roundQ diff).toNat 0xFFFF)
        let base := { f.rate with learn := none, lrnDiff := d16 }
        if diff ≤ 200 then
          let tm : Rat := if w.temps.isEmpty then (f.rate.tdie.toInt : Rat) / 64
            else ((w.temps.foldl (· + ·) 0 : Int) : Rat) / ((w.temps.length : Nat) : Rat) / 64
          let u := learnUpdate f.cal.ws.ltab f.cal.ws.compPar f.rate.trim ((y1 + y2) / 2) tm
          let rate := { base with lrnOk := satAdd base.lrnOk 1, sumOk := base.sumOk + 1 }.noteChange u.2.1 u.2.2
          let cal := { f.cal with
            ws := { f.cal.ws with ltab := u.1 }, dirty := true, rejc := f.cal.rejc.setIfInBounds 6 0,
            applied := satAdd f.cal.applied 1 }
          let j := (tabIndex (clampT tm)).1
          let sec := stampSec f.clk.stamp
          let ovl := { f.ovl with tabAt := (f.ovl.tabAt.setIfInBounds j sec).setIfInBounds (j + 1) sec }
          ({ f with rate := rate, cal := cal, ovl := ovl }.recomp.rerate).learnOpen
        else
          let n := min ((f.cal.rejc[6]?.getD 0) + 1) 15
          let rate := { base with lrnRej := satAdd base.lrnRej 1, sumRej := base.sumRej + 1 }
          let cal := { f.cal with rejc := f.cal.rejc.setIfInBounds 6 n, rejected := satAdd f.cal.rejected 1 }
          let f := ({ f with rate := rate, cal := cal }.setBit sbCalRej).learnOpen
          if n = 3 then
            let f := { f with cal := { f.cal with flt := f.cal.flt ||| 0x40#8 } }.setBit sbTestFail
            f.stage (recCal 4 f.clk.stamp
              [(11, 1, 4), (13, 1, 3), (14, 4, (roundQ diff).toNat), (18, 1, 1)])
          else f

/-- LEARNED_TABLE_SUMMARY (R311): once per 86 400 s in which a window was accepted. -/
def doLearnedSummary (f : Field) : Field :=
  let sec := stampSec f.clk.stamp
  if sec < f.rate.sumStart + 86400 then f
  else
    let r := f.rate
    let g := { f with rate := { r with sumStart := sec, sumOk := 0, sumRej := 0, sumAbt := 0, sumMax := 0, sumEntry := 0 } }
    if r.sumOk = 0 then g
    else g.stage (recCal 5 f.clk.stamp
      [(11, 2, min r.sumOk 0xFFFF), (13, 2, min r.sumRej 0xFFFF), (15, 2, min r.sumAbt 0xFFFF), (17, 1, r.sumEntry),
       (18, 4, twos 4 r.sumMax)])

/-! ### RATE_Q (R306) -/

/-- The square root of `a / b` rounded to the nearest integer, ties away from zero. -/
def sqrtRound (a b : Nat) : Nat :=
  -- the largest n with (2n − 1)² b ≤ 4a
  let r := Nat.sqrt (4 * a / b)
  (r + 1) / 2

/-- R306: RMS of r_d over the updates of the last 1024 s, in 0.1 ppb. -/
def Field.rateQ (f : Field) : Nat :=
  let us := f.rate.updates.filter fun u => decide (f.clk.stamp.toNat ≤ u.1 + 1024 * 2 ^ 32)
  if us.length < 4 then 0xFFFF
  else
    let sum := us.foldl (fun a u => a + u.2 * u.2) (0 : Rat)
    let q := sum * (10000000000 : Rat) * 10000000000 / ((us.length : Nat) : Rat)
    min (sqrtRound q.num.toNat q.den) 0xFFFE

end Sys2Proof.Machine
end

