-- ==== Sys2Proof/Machine/CalOps.lean ====
section
/-! DEFINITION. Sys2Proof/Machine/CalOps.lean: the calibration engine, the working set, its copies and its image
(13_calibration.md; 05_first_second.md section 4). -/

namespace Sys2Proof.Machine

/-- Tell the jobs. -/
def Field.tell (f : Field) (e : JobEv) : Field := { f with jobEv := f.jobEv ++ [e] }

/-! ### Items (Table 13-1) -/

/-- Table 12-7. -/
def itemCode : CalItem → Nat
  | .tdc => 1
  | .adc => 2
  | .xl => 3
  | .ltab => 4
  | .bar => 5
  | .synth => 6
  | .iq => 7
  | .pa => 8

/-- The place of a field calibration among the seven. -/
def calIdx (item : CalItem) (lane : Nat) : Nat :=
  match item with
  | .tdc => lane
  | .adc => 4
  | .xl => 5
  | _ => 6

/-- The place in `CAL_REJC` and `CAL_FLT` (Table 13-6). -/
def rejIdx (item : CalItem) (lane : Nat) : Nat :=
  match item with
  | .tdc => lane
  | .adc => 4
  | .xl => 5
  | .ltab => 6
  | _ => 7

/-- R453: the item's enable bit. -/
def Cal.enabled (c : Cal) (item : CalItem) : Bool :=
  match item with
  | .tdc => bitOf c.cfg 0
  | .adc => bitOf c.cfg 1
  | .xl => bitOf c.cfg 2
  | .bar => bitOf c.cfg 3
  | _ => false

/-- Table 13-1: an item runs on a source. -/
def runsOn (item : CalItem) (s : Source) : Bool := s = .vfld || s = .iso || (item = .adc && s = .vbat)

/-- R453. -/
def Field.calAllowed (f : Field) (item : CalItem) : Bool :=
  f.runs && f.start.restored && f.cal.enabled item && runsOn item f.sup.sel && (item ≠ .bar || f.bar.linked)

/-- Table 13-1: an ADC calibration bears on channels in use. -/
def Field.adcWanted (f : Field) : Bool :=
  (List.range 4).any fun n => planEn f.temp.plan n && f.probeType n != 0

/-- The calibration of an item or lane is under way. -/
def Cal.busyWith (c : Cal) (item : CalItem) (lane : Nat) : Bool :=
  if item = .adc then c.adc.isSome
  else match c.act with
    | some a => a.item = item && a.lane = lane
    | none => false

/-- An item of the lane kind is due, or requested (R454, R482). -/
def Field.itemDue (f : Field) (item : CalItem) (lane : Nat) : Bool :=
  let i := calIdx item lane
  (decide (f.cal.due[i]?.getD 0 ≤ stampFrames f.clk.stamp) || f.cal.asked.getLsbD i) && f.calAllowed item

/-- R479: the due calibration that goes first: lowest code, then lowest lane. -/
def Field.nextDue (f : Field) : Option (CalItem × Nat) :=
  [(CalItem.tdc, 0), (.tdc, 1), (.tdc, 2), (.tdc, 3), (.xl, 0), (.bar, 0)].find? fun e => f.itemDue e.1 e.2

/-! ### The background lane (R35) -/

/-- R470: an ADC result waits to be computed. -/
def Field.adcComputeDue (f : Field) : Bool :=
  match f.cal.adc with
  | some a => decide (a.fc < f.clk.fno) && a.runs.isSome && !a.computed
  | none => false

/-- R35, R466: a calibration slice is due in this frame's lane; an ADC computation and a slice do not share a frame. -/
def Field.calWaits (f : Field) : Bool :=
  !f.cal.sliceUsed && (f.adcComputeDue || (match f.cal.act with
    | some a => a.res2.isNone && f.calAllowed a.item
    | none => false))

/-- R35: a background slice of class `cls` can run: 2 scrubbing, 3 wear management, 4 telemetry. Due calibration goes first, and
the classes follow one another; how long the slices of a class are, and so whether one more fits, no file of the spec says: one
of each class runs in a frame.
DESIGN CHOICE, unsafe: notes/assumptions/86.md. -/
def Field.laneFree (f : Field) (cls : Nat) : Bool := f.slices && decide (f.sched.lane < cls) && !f.calWaits

/-- The lane has come to a class of work. -/
def Field.laneTook (f : Field) (cls : Nat) : Field := { f with sched := { f.sched with lane := cls } }

/-! ### Booking of an ADC calibration (R399, R467, R468) -/

/-- How many plan conversions fall due at a stamp frame. -/
def Field.planCount (f : Field) (sf : Nat) : Nat :=
  ((List.range 4).filter fun n =>
    f.planRuns && planEn f.temp.plan n && f.probeType n != 0 && decide (sf % 2 ^ planK f.temp.plan n = 0)).length

/-- R398, R399: a plan conversion would start at the boundary of f_c − 1 or f_c: one due there, or one of more than two
due two frames before; `d` is f_c less the current frame.
DESIGN CHOICE, unsafe: notes/assumptions/59.md. -/
def Field.displaces (f : Field) (d : Nat) : Bool :=
  let sf := stampFrames f.clk.stamp + d
  decide (0 < f.planCount (sf - 1)) || decide (0 < f.planCount sf) || decide (2 < f.planCount (sf - 2)) ||
    decide (2 < f.planCount (sf - 3)) || (decide (d ≤ 4) && f.temp.waiting.any fun w => w.kind = ConvKind.plan)

/-- R467: frames from now to the booked frame on a main. -/
def Field.bookMain (f : Field) : Nat := ((List.range 62).map (· + 2)).find? (fun d => !f.displaces d) |>.getD 63

/-- R468: on VBAT, frame 60 of the second before the coin-cell set that falls due. -/
def Field.bookVbat (f : Field) : Option Nat :=
  let per := fieldOf f.sup.cfg 16 16
  let fr := stampFrames f.clk.stamp % 64
  let sec := stampSec f.clk.stamp
  let old := match f.cal.lastAdc with | some n => decide (n + 3600 * 64 ≤ stampFrames f.clk.stamp) | none => true
  let coin := (List.range 4).any fun n => bitOf f.sup.cfg (8 + n) && f.probeType n != 0
  if bitOf f.sup.cfg 12 && coin && decide (per ≠ 0) && decide ((sec + 1) % per = 0) && decide (fr ≤ 58) && old then some (60 - fr)
  else none

/-- CAL_ITEM_DUE (R453, R454, R467, R468, R479, R483). -/
def doCalItemDue (item : CalItem) (lane : Fin 4) (f : Field) : Field :=
  match item with
  | .adc =>
    if f.cal.adc.isSome || !f.calAllowed .adc || f.start.frames < 8 then f
    else
      let asked := f.cal.asked.getLsbD 4
      let due := decide (f.cal.due[4]?.getD 0 ≤ stampFrames f.clk.stamp) && f.adcWanted
      let book := fun d => { f with cal := { f.cal with adc := some ⟨f.clk.fno + d, none, false⟩ } }.tell (.calStarted .adc 0)
      if f.sup.sel = .vbat then (match f.bookVbat with | some d => book d | none => f)
      else if asked || due then book f.bookMain else f
  | _ =>
    if f.cal.act.isSome || f.start.frames < 8 then f
    else match f.nextDue with
      | some (i, l) =>
        if i = item && (l = lane.val || i ≠ .tdc) then
          { f with cal := { f.cal with act := some ⟨i, l, false, 0, none, none⟩ } }.tell (.calStarted i l)
        else f
      | none => f

/-- The slices of one run (R466, R471, R474). -/
def runSlices : CalItem → Nat
  | .tdc => 103
  | .xl => 32
  | _ => 1

/-- CAL_SLICE (R466, R471, R474, R479): one slice of the calibration under way; `m` is the run's result, read at the
run's last slice. -/
def doCalSlice (m : CalMeas) (f : Field) : Field :=
  match f.cal.act with
  | none => f
  | some a =>
    if !f.slices || 0 < f.sched.lane || f.adcComputeDue || f.cal.sliceUsed || a.res2.isSome || !f.calAllowed a.item then f
    else
      let n := a.slices + 1
      let a' : CalAct :=
        if n < runSlices a.item then { a with slices := n }
        else if a.run2 then { a with slices := n, res2 := some m }
        else { a with slices := 0, run2 := true, run1 := some m }
      let lane := if a.item = .tdc then some a.lane else none
      let f := ({ f with cal := { f.cal with act := some a', sliceUsed := true, sliceLane := lane } }.laneTook 1).domain 79
      if a.item = .tdc then (f.domain (16 + 2 * a.lane)).domain (17 + 2 * a.lane) else f

/-- ADC_CAL_FRAME (R469): both runs in the booked frame. -/
def doAdcCalFrame (r0 r1 s0 s1 : AdcRun) (f : Field) : Field :=
  match f.cal.adc with
  | none => f
  | some a =>
    if f.runs && a.fc = f.clk.fno && a.runs.isNone then
      ((((({ f with cal := { f.cal with adc := some { a with runs := some (r0, r1, s0, s1) } } }.domain 36).domain 37).domain
        38).domain 39).domain 40).domain 41
    else f

/-- ADC_CAL_COMPUTE (R470): computed in the background lane of f_c + 1. -/
def doAdcCompute (f : Field) : Field :=
  match f.cal.adc with
  | none => f
  | some a =>
    if f.slices && f.adcComputeDue && f.sched.lane = 0 && !f.cal.sliceUsed then
      ({ f with cal := { f.cal with adc := some { a with computed := true }, sliceUsed := true } }.laneTook 1).domain 79
    else f

/-! ### Comparison (R458, R469, R471) -/

def listAt (xs : List Int) (i : Nat) : Int := xs[i]?.getD 0

/-- The largest difference of two lists of `n` values. -/
def maxDiff (n : Nat) (a b : List Int) : Nat :=
  (List.range n).foldl (fun m i => max m (listAt a i - listAt b i).natAbs) 0

/-- The mean of two values, to the nearest, ties away from zero.
DEDUCED, unsafe: notes/assumptions/60.md. -/
def meanInt (a b : Int) : Int := roundDiv (a + b) 2

/-- R469: the network whose ratio, over both cores, lies furthest from the median of the four; the lowest among equals. -/
def dropNet (a b : AdcRun) : Nat :=
  let v := fun i => listAt a.ratio i + listAt b.ratio i
  let tot := v 0 + v 1 + v 2 + v 3
  let hi := max (max (v 0) (v 1)) (max (v 2) (v 3))
  let lo := min (min (v 0) (v 1)) (min (v 2) (v 3))
  let med2 := tot - hi - lo
  let far := fun i => (2 * v i - med2).natAbs
  (List.range 4).foldl (fun b i => if far b < far i then i else b) 0

/-- The ratios in use of a core. -/
def usedRatios (r : AdcRun) (drop : Nat) : List Int := ((List.range 4).filter (· ≠ drop)).map (listAt r.ratio)

def gainOf (r : AdcRun) (drop : Nat) : Int := roundDiv ((usedRatios r drop).foldl (· + ·) 0) 3

def spreadOf (r : AdcRun) (drop : Nat) : Int :=
  let u := usedRatios r drop
  u.foldl max (u.headD 0) - u.foldl min (u.headD 0)

/-- What a calibration decided: agreement, the quality figure of run 2 and the largest difference, in item units
(R458, R487). -/
structure Verdict where
  agree : Bool
  q : Int
  d : Nat
  deriving DecidableEq, Repr

def peakPs (vals : List Int) : Nat :=
  (roundDiv ((List.range 32).foldl (fun (m : Nat) i => max m (listAt vals i).natAbs) 0 : Nat) 10).toNat

def popcount32 (w : Word) : Nat := ((List.range 32).filter fun i => w.getLsbD i).length

def verdictOf (item : CalItem) (ws : WSet) (a b : CalMeas) : Verdict :=
  match item with
  | .tdc =>
    let d := maxDiff 32 a.vals b.vals
    ⟨decide (d ≤ 150), (peakPs b.vals : Int), (roundDiv (d : Nat) 10).toNat⟩
  | .xl =>
    let d := (listAt a.vals 0 - listAt b.vals 0).natAbs
    let good := 28 ≤ popcount32 (~~~(a.bad &&& b.bad))
    ⟨decide (a.choice = b.choice) && decide (d ≤ 500) && good, roundDiv (listAt b.vals 0) 10, (roundDiv (d : Nat) 10).toNat⟩
  | _ =>
    let d := (listAt a.vals 0 - listAt b.vals 0).natAbs
    ⟨decide (d ≤ 100), meanInt (listAt a.vals 0) (listAt b.vals 0) - ws.barA.toInt, d⟩

def adcVerdict (r0 r1 s0 s1 : AdcRun) : Verdict :=
  let p := dropNet r0 r1
  let q := dropNet s0 s1
  let d := max (max (r0.ofs - s0.ofs).natAbs (r1.ofs - s1.ofs).natAbs)
    (max (gainOf r0 p - gainOf s0 q).natAbs (gainOf r1 p - gainOf s1 q).natAbs)
  ⟨decide (d ≤ 2000), roundDiv (max (spreadOf s0 q) (spreadOf s1 q)) 100, (roundDiv (d : Nat) 100).toNat⟩

/-! ### Applying and rejecting (R459 to R461, R472, R285, R500, R501) -/

/-- R487. -/
def calLine (item : CalItem) (lane : Nat) (applied : Bool) (v : Verdict) : Text :=
  commas [('+' :: hexText 2 (itemCode item)), decText lane, txt (if applied then "A" else "R"), intText v.q, decText v.d]

/-- The stamp frames between calibrations (Table 13-1). -/
def calPeriod : CalItem → Nat
  | .tdc => 600 * 64
  | .adc => 60 * 64
  | .xl => 2592000 * 64
  | _ => 86400 * 64

/-- R454, R484: the next due time counts from here; a request is met. -/
def Field.calEnded (f : Field) (item : CalItem) (lane : Nat) : Field :=
  let i := calIdx item lane
  let now := stampFrames f.clk.stamp
  { f with cal := { f.cal with
      due := f.cal.due.setIfInBounds i (now + calPeriod item), asked := f.cal.asked &&& ~~~(1#7 <<< i),
      lastAdc := if item = .adc then some now else f.cal.lastAdc } }

/-- R460, R461, R501. -/
def Field.calReject (f : Field) (item : CalItem) (lane : Nat) (v : Verdict) : Field :=
  let i := rejIdx item lane
  let n := min (f.cal.rejc[i]?.getD 0 + 1) 15
  let fault := decide (n = 3)
  let f := { f with cal := { f.cal with
      rejc := f.cal.rejc.setIfInBounds i n, rejected := satAdd f.cal.rejected 1,
      flt := if fault then f.cal.flt ||| (1#8 <<< i) else f.cal.flt } }.setBit sbCalRej
  let f := if fault then f.setBit sbTestFail else f
  let f := f.stage (recCal 4 f.clk.stamp
    [(11, 1, itemCode item), (12, 1, lane), (13, 1, n), (14, 4, v.d), (18, 1, fault.toNat)])
  (f.calEnded item lane).tell (.calDone item lane (calLine item lane false v) true)

/-- R459, R500: what every applied result does; `record` asks for the CAL record of `SUB` 3. -/
def Field.calApplied (f : Field) (item : CalItem) (lane : Nat) (v : Verdict) (record : Bool) (new old : Int) : Field :=
  let f := { f with cal := { f.cal with
      rejc := f.cal.rejc.setIfInBounds (rejIdx item lane) 0, applied := satAdd f.cal.applied 1, dirty := true } }
  let f := if record then
      f.stage (recCal 3 f.clk.stamp [(11, 1, itemCode item), (12, 1, lane), (13, 4, twos 4 new), (17, 4, twos 4 old)]) else f
  (f.calEnded item lane).tell (.calDone item lane (calLine item lane true v) false)

/-- The INL entries of a lane, and their registers (Table 13-6). -/
def inlEntry (ws : WSet) (lane i : Nat) : Int := sField (ws.inl[16 * lane + i / 2]?.getD 0#32) (16 * (i % 2)) 16

def putInl (inl : Vector Word 64) (lane : Nat) (vals : List Int) : Vector Word 64 :=
  (List.range 16).foldl
    (fun v m => v.setIfInBounds (16 * lane + m)
      (BitVec.ofNat 32 (twos 2 (listAt vals (2 * m)) + 65536 * twos 2 (listAt vals (2 * m + 1))))) inl

def Field.applyTdc (f : Field) (lane : Nat) (v : Verdict) (a b : CalMeas) : Field :=
  let old := (List.range 32).map (inlEntry f.cal.ws lane)
  let new := (List.range 32).map fun i => max (-10000) (min 10000 (meanInt (listAt a.vals i) (listAt b.vals i)))
  let first := !f.cal.firstDone.getLsbD lane
  let peak := peakPs new
  let f := { f with
    cal := { f.cal with
      ws := { f.cal.ws with inl := putInl f.cal.ws.inl lane new },
      qTdc := f.cal.qTdc.setIfInBounds lane (BitVec.ofNat 8 (min peak 255)),
      firstDone := f.cal.firstDone ||| (1#5 <<< lane) },
    ev := { f.ev with laneCal := f.ev.laneCal ||| (1#4 <<< lane) } }
  f.calApplied .tdc lane v (first || decide (150 < maxDiff 32 new old)) peak (peakPs old)

/-- R285: the measured change enters every entry of the learned table. -/
def shiftTab (tab : Vector Word 33) (dy : Int) : Vector Word 33 :=
  tab.map fun w => withField w 0 16 (twos 2 (max (-32767) (min 32767 (sField w 0 16 + dy))))

def Field.applyXl (f : Field) (v : Verdict) (a b : CalMeas) : Field :=
  let ws := f.cal.ws
  let bad := a.bad &&& b.bad
  let rc := listAt b.vals 0
  let rs := listAt b.vals 1
  let old := ws.xlRes.toInt
  let move := decide (b.choice ≠ ws.xlSel) && (decide (rc.natAbs + 500 ≤ rs.natAbs) || decide (ws.xlSel &&& bad ≠ 0#32))
  let now := BitVec.ofNat 32 (stampSec f.clk.stamp)
  let res := if move then rc else rs
  let ws := { ws with xlBad := bad, xlRes := BitVec.ofInt 32 res, lastXl := now }
  let f := if move then
      let f := { f with cal := { f.cal with ws := { ws with xlSel := b.choice, ltab := shiftTab ws.ltab (rc - rs) } },
                        rate := f.rate.abort }
      (f.stage (recCal 6 f.clk.stamp
        [(11, 4, ws.xlSel.toNat), (15, 4, b.choice.toNat), (19, 4, twos 4 (rc - rs))])).recomp
    else { f with cal := { f.cal with ws := ws } }
  let f := { f with cal := { f.cal with storeReq := true } }
  f.calApplied .xl 0 v true (roundDiv res 10) (roundDiv old 10)

def Field.applyBar (f : Field) (v : Verdict) (a b : CalMeas) : Field :=
  let mean := meanInt (listAt a.vals 0) (listAt b.vals 0)
  let old := f.cal.barRes.toInt
  let f := { f with cal := { f.cal with
      ws := { f.cal.ws with barA := BitVec.ofInt 32 mean, lastBar := BitVec.ofNat 32 (stampSec f.clk.stamp) },
      barRes := BitVec.ofInt 32 v.q, storeReq := true } }
  f.calApplied .bar 0 v true v.q old

def Field.applyAdc (f : Field) (v : Verdict) (r0 r1 s0 s1 : AdcRun) : Field :=
  let p := dropNet r0 r1
  let q := dropNet s0 s1
  let lim := fun (x : Int) => max (-1000000) (min 1000000 x)
  let o0 := lim (meanInt r0.ofs s0.ofs)
  let o1 := lim (meanInt r1.ofs s1.ofs)
  let g0 := lim (meanInt (gainOf r0 p) (gainOf s0 q))
  let g1 := lim (meanInt (gainOf r1 p) (gainOf s1 q))
  let ws := f.cal.ws
  let was := fun (x : Vector Word 2) (i : Nat) => (x[i]?.getD 0#32).toInt
  let moved := max (max (o0 - was ws.adcOfs 0).natAbs (o1 - was ws.adcOfs 1).natAbs)
    (max (g0 - was ws.adcGain 0).natAbs (g1 - was ws.adcGain 1).natAbs)
  let first := !f.cal.firstDone.getLsbD 4
  let old := (f.cal.spread.toNat : Int)
  let f := { f with cal := { f.cal with
      ws := { ws with
        adcOfs := #v[BitVec.ofInt 32 o0, BitVec.ofInt 32 o1], adcGain := #v[BitVec.ofInt 32 g0, BitVec.ofInt 32 g1],
        adcSel := ~~~(1#4 <<< q) },
      firstDone := f.cal.firstDone ||| 16#5 } }
  f.calApplied .adc 0 v (first || decide (2000 < moved)) v.q old

/-- R459, R460, R470: at a frame boundary the verdicts of calibrations whose second run has completed take effect. -/
def Field.calBoundary (f : Field) : Field :=
  let f := { f with cal := { f.cal with sliceUsed := false, sliceLane := none } }
  let f := match f.cal.act with
    | some ⟨item, lane, _, _, some a, some b⟩ =>
      let g := { f with cal := { f.cal with act := none } }
      let v := verdictOf item g.cal.ws a b
      if !v.agree then g.calReject item lane v
      else match item with
        | .tdc => g.applyTdc lane v a b
        | .xl => g.applyXl v a b
        | _ => g.applyBar v a b
    | _ => f
  match f.cal.adc with
  | some ⟨fc, some (r0, r1, s0, s1), true⟩ =>
    if fc + 2 ≤ f.clk.fno then
      let v := adcVerdict r0 r1 s0 s1
      let g := { f with cal := { f.cal with adc := none } }
      let g := if v.agree then g.applyAdc v r0 r1 s0 s1 else g.calReject .adc 0 v
      { g with cal := { g.cal with spread := BitVec.ofNat 16 (min v.q.toNat 0xFFFF) } }
    else f
  | some ⟨fc, none, _⟩ => if fc < f.clk.fno then { f with cal := { f.cal with adc := none } } else f
  | _ => f

/-! ### Abandoning (R464, R486) -/

/-- R464, R486: the calibration of an item is abandoned; a request for it fails with it. -/
def Field.calDrop (f : Field) (item : CalItem) (lane : Nat) : Field :=
  { f with cal := { f.cal with
      act := if item = CalItem.adc then f.cal.act else none, adc := if item = CalItem.adc then none else f.cal.adc,
      asked := f.cal.asked &&& ~~~(1#7 <<< calIdx item lane) } }.tell (.calAbandoned item lane)

/-- R464: calibrations named by `p` whose second run has not completed are abandoned. -/
def Field.calAbandon (f : Field) (p : CalItem → Nat → Bool) : Field :=
  let f := match f.cal.act with
    | some a => if p a.item a.lane && a.res2.isNone then f.calDrop a.item a.lane else f
    | none => f
  match f.cal.adc with
  | some a => if p .adc 0 && a.runs.isNone then f.calDrop .adc 0 else f
  | none => f

/-! ### Due times at a start (R455, R456) -/

/-- Due from the stamp seconds of the last calibration, by their low 32 bits. -/
def dueFromWord (now : Nat) (last : Word) (period : Nat) : Nat :=
  let gone := (BitVec.ofNat 32 (now / 64) - last).toNat * 64
  if period ≤ gone then now else now + (period - gone)

/-- R455, R456: at start frame 8. -/
def Field.calDueInit (f : Field) : Field :=
  if f.clk.fno ≠ f.cal.startAt + 8 then f
  else
    let now := stampFrames f.clk.stamp
    let cold := f.start.kind = .cold
    let fuse := f.start.calSource = 3 && f.start.kind ≠ .watchdog
    let lane := fun k => if fuse then now else if cold then now + 150 * 64 * k else now + 600 * 64
    let xl := if cold then now + calPeriod .xl else dueFromWord now f.cal.ws.lastXl (calPeriod .xl)
    let bar := if cold then now + calPeriod .bar else dueFromWord now f.cal.ws.lastBar (calPeriod .bar)
    { f with cal := { f.cal with
        due := #v[lane 0, lane 1, lane 2, lane 3, if fuse then now else now + calPeriod .adc, xl, bar] } }

/-! ### The image (Table 13-5) -/

def wordsLE (ws : List Word) : List Byte := (ws.map fun w => bytesLE 4 w.toNat).flatten

/-- The image of a working set. -/
def calImage (ws : WSet) (uid csn : Word) (sec : Nat) : List Byte :=
  let body := textBytes (txt "KCS1") ++ bytesLE 2 1 ++ bytesLE 2 0x220 ++ wordsLE [uid, csn] ++ wordsLE ws.inl.toList ++
    ws.lat.toList ++ ws.flt8.toList ++ wordsLE ws.adcRef.toList ++ wordsLE ws.adcOfs.toList ++ wordsLE ws.adcGain.toList ++
    bytesLE 16 ws.adcSel.toNat ++ wordsLE [ws.xlSel, ws.compPar, ws.xlBad, ws.xlRes] ++ wordsLE ws.ltab.toList ++
    List.replicate 12 0#8 ++ wordsLE [ws.barTL, ws.barTA, ws.barA, 0#32] ++ wordsLE [ws.lastXl, ws.lastBar, 0#32, 0#32] ++
    bytesLE 5 sec ++ List.replicate 7 0#8
  body ++ bytesLE 4 (crc32 body).toNat

/-- The word at a byte offset of an image. -/
def imgWord (img : List Byte) (o : Nat) : Word := BitVec.ofNat 32 (natOfLE ((img.drop o).take 4))

/-- The working set of an image. -/
def wsOfImage (img : List Byte) : WSet :=
  let w := imgWord img
  { inl := Vector.ofFn fun i => w (0x10 + 4 * i.val), lat := Vector.ofFn fun i => img[0x110 + i.val]?.getD 0#8,
    flt8 := Vector.ofFn fun i => img[0x118 + i.val]?.getD 0#8, adcRef := Vector.ofFn fun i => w (0x120 + 4 * i.val),
    adcOfs := Vector.ofFn fun i => w (0x130 + 4 * i.val), adcGain := Vector.ofFn fun i => w (0x138 + 4 * i.val),
    adcSel := (img[0x140]?.getD 0#8).truncate 4, xlSel := w 0x150, compPar := w 0x154, xlBad := w 0x158, xlRes := w 0x15C,
    ltab := Vector.ofFn fun i => w (0x160 + 4 * i.val), barTL := w 0x1F0, barTA := w 0x1F4, barA := w 0x1F8,
    lastXl := w 0x200, lastBar := w 0x204 }

/-- R495: an image checks. -/
def imgCrcOk (img : List Byte) : Bool := decide (img.length = 544) && decide (imgWord img 0x21C = crc32 (img.take 0x21C))

/-! ### Ranges of working registers (Tables 8-5, 13-6; R284, R309, R499) -/

def inRange (w : Word) (lim : Int) : Bool := decide (-lim ≤ w.toInt) && decide (w.toInt ≤ lim)
def inlBad (w : Word) : Bool := let bad := fun (v : Int) => v < -10000 || 10000 < v; bad (sField w 0 16) || bad (sField w 16 16)
def xlSelBad (w : Word) : Bool := decide (popcount32 w ≠ 28)
def compParBad (w : Word) : Bool :=
  let t := sField w 0 16
  let c := sField w 16 16
  t < 0 || 3200 < t || c < -6000 || -1000 < c
def ltabBad (w : Word) : Bool := decide (sField w 0 16 = -32768)
def adcSelBad (n : Nat) : Bool := decide (((List.range 4).filter fun i => n / 2 ^ i % 2 = 1).length ≠ 3)

/-- R495: a value of the working set lies outside its register's range. -/
def wsBad (ws : WSet) : Bool :=
  ws.inl.toList.any inlBad || (ws.adcRef.toList ++ ws.adcOfs.toList ++ ws.adcGain.toList).any (fun w => !inRange w 1000000) ||
  adcSelBad ws.adcSel.toNat || xlSelBad ws.xlSel || compParBad ws.compPar ||
  ws.ltab.toList.any (fun w => ltabBad w || decide (fieldOf w 20 12 ≠ 0)) || !inRange ws.barA 10000

/-! ### Loading (R494 to R497), storing (R489 to R492) -/

/-- CAL.LOAD NN,h. -/
def Field.calLoad (f : Field) (line : Nat) (bs : List Byte) : Field × Nat :=
  if bs.length ≠ 16 then (f, 10)
  else if 33 < line then (f, 20)
  else ({ f with cal := { f.cal with load := f.cal.load.filter (fun e => e.1 ≠ line) ++ [(line, bs)] } }, 0)

/-- CAL.LOAD GO: the load buffer is validated and cleared. -/
def Field.calLoadGo (f : Field) : Field × Nat :=
  let ls := f.cal.load
  let f := { f with cal := { f.cal with load := [] } }
  let img := ((List.range 34).map fun i => ((ls.find? fun e => e.1 = i).map (·.2)).getD []).flatten
  if (List.range 34).any fun i => !(ls.any fun e => e.1 = i) then (f, 22)
  else if img.take 8 ≠ textBytes (txt "KCS1") ++ bytesLE 2 1 ++ bytesLE 2 0x220 then (f, 22)
  else if !imgCrcOk img then (f, 13)
  else if imgWord img 8 ≠ f.uid then (f, 22)
  else if wsBad (wsOfImage img) then (f, 20)
  else ({ f with pendW := f.pendW ++ [.calImage img] }, 0)

/-- R496: a loaded image replaces the working set at the commit boundary. -/
def Field.commitImage (f : Field) (img : List Byte) : Field :=
  let f := f.calAbandon fun _ _ => true
  let f := { f with cal := { f.cal with ws := wsOfImage img, dirty := true, storeReq := true }, rate := f.rate.abort }
  (f.stage (recCal 1 f.clk.stamp [(11, 1, 4)])).recomp

/-- CAL_STORE_DUE (R489, R490): the store starts.
DEDUCED, unsafe: notes/assumptions/61.md. -/
def doCalStoreDue (f : Field) : Field :=
  let sec := stampSec f.clk.stamp
  let main := f.sup.sel = .vfld || f.sup.sel = .iso
  let aged := match f.cal.lastStore with | some s => decide (s + 86400 ≤ sec) | none => decide (86400 ≤ sec)
  let rested := match f.cal.lastStore with | some s => decide (s + 3600 ≤ sec) | none => true
  if f.runs && f.start.restored && main && f.cal.dirty && (f.cal.storeReq || aged) && rested && f.cal.store.isNone then
    let csn := f.cal.csn + 1
    { f with cal := { f.cal with
        storeReq := false, csn := csn, lastStore := some sec, store := some ⟨calImage f.cal.ws f.uid csn sec, 0, false⟩ } }
  else if f.cal.dirty && aged then { f with cal := { f.cal with storeReq := true } }
  else f

/-- The working set no longer differs from what was stored. -/
def Cal.sameAs (c : Cal) (img : List Byte) : Bool := decide (c.ws = wsOfImage img)

/-- CAL_STORE_SLICE (R491, R492, R452): four erase slices and one program slice of copy A, then of copy B; a copy is
read back and checked at its program slice. -/
def doCalStoreSlice (ok : Bool) (f : Field) : Field :=
  match f.cal.store with
  | none => f
  | some st =>
    if !f.planRuns || !f.laneFree 3 then f
    else
      let n := st.slices + 1
      let aBad := f.jrn.sysBad.contains 0
      let bBad := f.jrn.sysBad.contains 1
      let f := (f.laneTook 3).nvmOn (f.jrn.sysPhys (n / 6)) true false
      let c := f.cal
      let endStore := fun (c : Cal) => { c with store := none, dirty := !c.sameAs st.image }
      let c :=
        if n ≤ 4 then { c with store := some { st with slices := n }, copyA := if aBad then c.copyA else none }
        else if n = 5 then
          if aBad then (if st.aOnly then { c with store := none } else { c with store := some { st with slices := n } })
          else if ok then
            let c := { c with copyA := some st.image, aOk := true }
            if st.aOnly then { c with store := none } else { c with store := some { st with slices := n } }
          else { c with store := none, aOk := false }
        else if n ≤ 9 then { c with store := some { st with slices := n }, copyB := if bBad then c.copyB else none }
        else if bBad then endStore c
        else if ok then endStore { c with copyB := some st.image, bOk := true }
        else { c with store := none, bOk := false }
      { f with cal := c }

/-! ### The Layout Table overlay (R697, Table 19-7) -/

/-- R307: the conditions of y_HL as the learned limit 0x0210 takes them: entries 2 to 18 at `LCONF` 4 or more, each
updated within the last 30 days. -/
def Field.learnedOk (f : Field) : Bool :=
  (List.range 17).all fun i =>
    decide (4 ≤ fieldOf (f.cal.ws.ltab[i + 2]?.getD 0#32) 16 4) &&
      decide (stampSec f.clk.stamp < (f.ovl.tabAt[i + 2]?.getD 0) + 2592000)

/-- The die temperature of the first entry at `LCONF` 4 or more along `js`, in 1/1024 °C; 0x80000000 means not stated. -/
def Field.confTemp (f : Field) (js : List Nat) : Word :=
  match js.find? fun j => 4 ≤ fieldOf (f.cal.ws.ltab[j]?.getD 0#32) 16 4 with
  | some j => BitVec.ofInt 32 ((4 * (j : Int) - 40) * 1024)
  | none => 0x80000000#32

/-- The limits that the overlay holds (Table 19-7): of the factory, then learned. -/
def Field.limits (f : Field) : List (Nat × Word) :=
  ((List.range 8).map fun i => (0x100 + i, (f.fuse.ws.lat[i]?.getD 0#8).setWidth 32)) ++
  [(0x110, f.fuse.ws.barTL), (0x111, f.fuse.ws.barTA), (0x112, f.fuse.ws.barA),
   (0x200, BitVec.ofNat 32 f.jrn.spares.length), (0x210, if f.learnedOk then 200#32 else 3000#32),
   (0x211, f.confTemp (List.range 33)), (0x212, f.confTemp (List.range 33).reverse)]

/-- OVERLAY_REWRITE (R697, R452): S2 is written and read back, and only then S3.
DESIGN CHOICE, unsafe: notes/assumptions/64.md. -/
def doOverlayRewrite (ok : Bool) (f : Field) : Field :=
  let img := f.limits
  let sec := stampSec f.clk.stamp
  let soon := match f.ovl.last with | some t => decide (sec < t + 86400) | none => false
  if !f.laneFree 3 || !(f.sup.sel = .vfld || f.sup.sel = .iso) || !f.start.mounted || soon || f.ovl.s2 = some img then f
  else
    let a := if f.jrn.sysBad.contains 2 then f.ovl.s2 else if ok then some img else none
    let f := (f.laneTook 3).nvmOn (f.jrn.sysPhys 2) true false
    if !ok then { f with ovl := { f.ovl with s2 := a, last := some sec } }.setBit sbNvmErr
    else
      let b := if f.jrn.sysBad.contains 3 then f.ovl.s3 else some img
      { f with ovl := { f.ovl with s2 := a, s3 := b, last := some sec } }.nvmOn (f.jrn.sysPhys 3) true false

/-! ### Restore (R171 to R176) -/

/-- CAL_RESTORE_DONE (R171 to R174, R160): copy A, else copy B, else fuses and nominal values; `aOk`, `bOk`: the checks of the copies
that are present; it begins at start frame 0. Where copy A passes, R172 reads no copy B and Table 12-5 still gives the record a
byte for it: copy B is judged all the same.
DESIGN CHOICE, unsafe: notes/assumptions/89.md. -/
def doCalRestore (aOk bOk : Bool) (f : Field) : Field :=
  if !f.runs || f.start.s0 || f.start.restored then f
  else
    let rec1 := fun (f : Field) (src : Nat) (a b : Bool) =>
      f.stage (recCal 1 f.clk.stamp [(11, 1, src), (12, 1, a.toNat), (13, 1, b.toNat)])
    let load := fun (img : List Byte) (src : Nat) (c : Cal) =>
      let sec := natOfLE ((img.drop 0x210).take 5)
      ({ f with
        cal := { c with
          ws := wsOfImage img, csn := imgWord img 0xC, lastStore := if sec ≤ stampSec f.clk.stamp then some sec else none },
        start := { f.start with restored := true, calSource := src } } : Field).recomp
    match (if aOk then f.cal.copyA else none), (if bOk then f.cal.copyB else none) with
    | some img, b => rec1 (load img 1 { f.cal with aOk := true, bOk := b.isSome }) 1 false b.isNone
    | none, some img =>
      let g := load img 2 { f.cal with aOk := false, bOk := true, store := some ⟨img, 0, true⟩ }
      rec1 (g.setBit sbNvmErr) 2 true false
    | none, none =>
      let c := { f.cal with aOk := false, bOk := false, ws := f.fuse.ws }
      let g := ({ f with
        cal := c, ev := { f.ev with laneCal := 0#4 }, start := { f.start with restored := true, calSource := 3 } } : Field).recomp
      rec1 (g.setBit sbNvmErr) 3 true true

/-! ### Calibration by command (R481 to R485) -/

/-- CAL.RUN of a field item: the error, or the calibrations it covers. -/
def Field.calRun (f : Field) (item : CalItem) (index : Option Nat) : Field × Nat × List Word :=
  let bad := match item, index with
    | .tdc, some i => decide (3 < i)
    | _, some _ => true
    | _, none => false
  if bad then (f, 20, [])
  else if !f.cal.enabled item || !runsOn item f.sup.sel || !f.calAllowed item then (f, 22, [])
  else
    let lanes := match item, index with
      | .tdc, none => [0, 1, 2, 3]
      | .tdc, some i => [i]
      | _, _ => [0]
    let mask := lanes.foldl (fun m l => m ||| (1#7 <<< calIdx item l)) 0#7
    ({ f with cal := { f.cal with asked := f.cal.asked ||| mask } }, 0, lanes.map (BitVec.ofNat 32))

/-- R486: a cancelled request; a run under way for it applies nothing. -/
def Field.calCancel (f : Field) (item : CalItem) (lanes : List Nat) : Field :=
  let mask := lanes.foldl (fun m l => m ||| (1#7 <<< calIdx item l)) 0#7
  let hit := fun i l => decide (i = item) && lanes.contains l
  let f := { f with cal := { f.cal with
      asked := f.cal.asked &&& ~~~mask,
      act := match f.cal.act with | some a => if hit a.item a.lane then none else some a | none => none,
      adc := if item = .adc then none else f.cal.adc } }
  f

end Sys2Proof.Machine
end

