-- ==== Sys2Proof/Machine/Lane.lean ====
section
/-! DEFINITION. Sys2Proof/Machine/Lane.lean: scrubbing and wear management in the background lane (02_frame.md R35;
12_journal.md R437, R443 to R447; 16_commands.md R600). -/

namespace Sys2Proof.Machine

/-- R443: a scrub slice is due: a pass is under way, or 86 400 s of stamp time have passed since the last one began. -/
def Field.scrubDue (f : Field) : Bool :=
  f.planRuns && f.start.mounted && (f.jrn.scrubPos ≠ 0 || decide (f.jrn.scrubNext ≤ stampSec f.clk.stamp))

/-- R443: the pass goes on behind a slice that corrected `bits` bits. -/
def Field.scrubOn (f : Field) (bits : Nat) : Field :=
  let j := f.jrn
  let sec := stampSec f.clk.stamp
  let all := j.passBits + bits
  if j.scrubPos = 8191 then
    { f with jrn := { j with scrubPos := 0, passBits := 0, cbpk := cbpkOf all 8192, scrubDone := sec } }
  else
    { f with jrn := { j with
        scrubPos := j.scrubPos + 1, passBits := all, scrubNext := if j.scrubPos = 0 then sec + 86400 else j.scrubNext } }

/-- SCRUB_SLICE (R443 to R447): sixteen slots of one block: the corrections that each needed, the slots that are
uncorrectable, and, at the last slice of a closed data block, whether its seal matched. A retired block is passed over. -/
def doScrubSlice (corr uncorr : List Nat) (sealOk : Bool) (f : Field) : Field :=
  if !f.scrubDue || !f.laneFree 2 then f
  else
    let f := f.laneTook 2
    let phys := f.jrn.scrubPos / 8
    let last := f.jrn.scrubPos % 8 = 7
    if !f.jrn.inUse phys then f.scrubOn 0
    else
      let corr := (corr.take 16).map fun n => min n 3
      let worst := corr.foldl max 0
      let blk := f.jrn.blocks.find? fun b => b.phys = phys
      let closed := match blk with | some b => b.closed | none => false
      let f := (f.nvmOn phys false (last && closed)).scrubOn corr.sum
      let bsn := (blk.map (·.bsn)).getD 0#32
      let bad := (uncorr.filter fun i => decide (i < 16)).length
      let f := f.unreadable phys bsn bad (last && closed && !sealOk)
      if 2 ≤ worst then f.retire phys worst
      else match blk with
        | some b => if last then f.level b else f
        | none => f

/-- WRAP_ERASE (R437): under WRAP, while fewer than 4 erased data blocks remain; wear management runs on a main (Table 3-4). -/
def doWrapErase (f : Field) : Field :=
  if f.planRuns && f.laneFree 3 && f.start.mounted && f.jrn.policy && !f.jrn.roWorn && decide (f.jrn.erased.length < 4) then
    match f.erasable with
    | some b => ((f.laneTook 3).nvmOn b.phys true false).eraseOldest b
    | none => f
  else f

/-- ERASE_JOB_SLICE (R439, R441): the oldest exported block of an erase job; the job ends when none is left. -/
def doEraseSlice (f : Field) : Field :=
  if !f.laneFree 3 || !f.jrn.eraseJob || f.jrn.roWorn then f
  else match f.erasable with
    | none => { f with jrn := { f.jrn with eraseJob := false } }.tell .eraseEnd
    | some b =>
      let g := (((f.laneTook 3).nvmOn b.phys true false).eraseOldest b).tell (.eraseDone b.bsn b.bsn)
      match g.erasable with
      | none => { g with jrn := { g.jrn with eraseJob := false } }.tell .eraseEnd
      | some _ => g

/-- KEEP_SAVE_SLICE (R600): S10, then S11, ending the save. -/
def doKeepSaveSlice (f : Field) : Field :=
  if !f.laneFree 3 then f
  else match f.jrn.mirrorSave with
    | none => f
    | some (bs, 0) =>
      let n := f.jrn.mirrorCount
      let a := if f.jrn.sysBad.contains 10 then f.jrn.mirrorA else some (n, bs)
      ({ f with jrn := { f.jrn with mirrorA := a, mirrorSave := some (bs, n + 1) } }.laneTook 3).nvmOn (f.jrn.sysPhys 10) true false
    | some (bs, k + 1) =>
      let b := if f.jrn.sysBad.contains 11 then f.jrn.mirrorB else some (k, bs)
      ({ f with jrn := { f.jrn with mirrorB := b, mirrorSave := none } }.laneTook 3).nvmOn (f.jrn.sysPhys 11) true false

end Sys2Proof.Machine
end

