-- ==== Sys2Proof/Machine/TestOps.lean ====
section
/-! DEFINITION. Sys2Proof/Machine/TestOps.lean: the in-service test of the field side, its self-test jobs, and the
domain counts of telemetry (14_inservice_test.md). -/

namespace Sys2Proof.Machine

/-! ### The slices in rotation order (Table 14-1) -/

/-- `n` slices of one code. -/
def testRow (code n : Nat) : List (Nat × Nat) := (List.range n).map fun i => (code, i)

def fieldTests : List (Nat × Nat) :=
  testRow 1 4 ++ testRow 2 1 ++ testRow 3 4 ++ testRow 4 3 ++ testRow 5 8 ++ testRow 6 4 ++ testRow 7 2 ++ testRow 8 4

/-- The length of a test slice in ticks (Table 14-1). -/
def testLen (code : Nat) : Nat := if code = 2 then 8 else if code = 5 || code = 6 then 64 else if 7 ≤ code then 32 else 16

def hostTests : List (Nat × Nat) := testRow 0x10 1 ++ testRow 0x11 2 ++ testRow 0x12 8 ++ testRow 0x13 2

/-- The part line of a finished slice (R522); `verdict` is 0 for pass, 1 for fail, 2 for N/A. -/
def testLine (code idx verdict : Nat) (measured limit : Int) : Text :=
  commas ['+' :: hexText 2 code, decText idx, txt (if verdict = 0 then "P" else if verdict = 1 then "F" else "N"),
    intText measured, intText limit]

/-- The banks that hold staging, the event queue or the reserve ring, which R74 keeps in retention (Table 3-8). -/
def sramRet (i : Nat) : Bool :=
  decide (43 ≤ i) && decide (i ≤ 50) && (List.range 3).any fun k => (Config.sramBanks k).getLsbD (i - 43)

/-- R503, R389, R392: a conversion of a channel is to start at the next boundary, as far as it is known now. -/
def Field.startsNext (f : Field) (ch : Nat) : Bool :=
  f.temp.waiting.any (fun w => w.ch = ch) || f.contChannel = some ch ||
    (f.planRuns && planEn f.temp.plan ch && decide ((stampFrames f.clk.stamp + 1) % 2 ^ planK f.temp.plan ch = 0))

/-- R517: this frame is one of the two that a forced job has booked. -/
def Field.testBooked (f : Field) : Bool :=
  match f.tst.job.bind (·.ft) with | some t => decide (f.clk.fno = t ∨ f.clk.fno = t + 1) | none => false

/-- R503: the condition of Table 14-1 as far as the state holds it; in the frames that a forced job has booked R517 stands in the place
of the next boundary's start. -/
def Field.testRuns (f : Field) (code idx : Nat) : Bool :=
  if code = 2 then f.refs.pps.st = .qualified && f.refs.rf.st = .qualified
  else if code = 3 then !f.temp.inConv idx
  else if code = 5 then !sramRet (43 + idx)
  else if code = 6 then (f.sup.sel = .vfld || f.sup.sel = .iso) && !f.jrn.spares.isEmpty
  else if code = 7 then f.bar.linked
  else if code = 8 then
    f.probeType idx != 0 && !f.temp.inConv idx && (f.testBooked || !f.startsNext idx)
  else true

/-- R509: one slice of a rotation is finished. -/
def Rot.finish (r : Rot) (total : Nat) : Rot :=
  if total ≤ r.done + 1 then { r with done := 0, rot := satAdd r.rot 1 } else { r with done := r.done + 1 }

/-- R511, R512: what a verdict leaves in a side's registers; the flag asks for a TEST record. -/
def Rot.verdict (r : Rot) (key code idx verdict : Nat) : Rot × Bool :=
  if verdict = 1 then
    ({ r with
        lastCode := BitVec.ofNat 8 code, lastIdx := BitVec.ofNat 8 idx, fails := satAdd r.fails 1,
        failed := if r.failed.contains key then r.failed else r.failed ++ [key] }, !r.failed.contains key)
  else ({ r with failed := r.failed.filter (· ≠ key) }, false)

/-- The TEST record of a failure (R512). -/
def Field.testRec (f : Field) (code idx : Nat) (measured limit : Int) : Field :=
  f.stage (recTest 1 code idx f.clk.stamp measured limit)

/-- The spare that test 0x06 verifies in this rotation: the spares take turns (DEDUCED, unsafe: notes/assumptions/62.md). -/
def Field.testSpare (f : Field) : Option Nat := f.jrn.spares[f.tst.rot.rot.toNat % f.jrn.spares.length]?

/-- The domains of a test slice (Table 3-8). -/
def Field.testDomains (f : Field) (code idx : Nat) : Field :=
  let f := f.domain 78
  if code = 1 then (f.domain (16 + 2 * idx)).domain (17 + 2 * idx)
  else if code = 5 then f.domain (43 + idx)
  else if code = 6 then (match f.testSpare with | some p => f.nvmOn p false false | none => f)
  else if code = 3 || code = 8 then f.domain 90
  else f

/-- One field slice with its outcome (R503, R505, R511, R512).
DEDUCED, unsafe: notes/assumptions/62.md. -/
def Field.runTest (f : Field) (pos : Nat) (applicable pass : Bool) (measured limit : Int) : Field × Nat :=
  let (code, idx) := fieldTests[pos]?.getD (1, 0)
  let verdict := if !(f.testRuns code idx && applicable) then 2 else if pass then 0 else 1
  let f := if verdict = 2 then f else f.testDomains code idx
  let r := f.tst.rot.verdict pos code idx verdict
  let f := { f with tst := { f.tst with rot := r.1 } }
  let f := if verdict = 1 then f.setBit sbTestFail else f
  let f := if r.2 then f.testRec code idx measured limit else f
  let f := if verdict = 1 && code = 6 then
      (match f.testSpare with
        | some p => f.retire p 0
        | none => f)
    else f
  (f, verdict)

/-- Places of the probe-excitation slices (code 0x08), which a forced job books (R517). -/
def isBooked (pos : Nat) : Bool := 26 ≤ pos

/-- The places of a forced job's slices that are requested and have not run. -/
def Sched.testsWaiting (s : Sched) : List Nat :=
  (s.plan ++ s.deferred ++ s.arrived).filterMap fun r => match r.kind with | .test p => some p | _ => none

/-- R516, R517: the slices that a forced job requests at housekeeping item 6: four in a frame, those still waiting among them; and
beside them the slices of test 0x08 in the booked frames, two in each (Table 14-4). -/
def TstJob.requests (j : TstJob) (fno : Nat) (waiting : List Nat) : List Nat :=
  let inBook := match j.ft with | some t => fno = t || fno = t + 1 | none => false
  let after := match j.ft with | some t => decide (t + 1 < fno) | none => false
  let new := j.left.filter fun p => !waiting.contains p
  let booked := if inBook then (new.filter isBooked).take (2 - (waiting.filter isBooked).length) else []
  let free := (new.filter fun p => !isBooked p || after).take (4 - (waiting.filter fun p => !isBooked p || after).length)
  free ++ booked

/-- R48: a test slice of `len` ticks fits between the end of the foreground and tick L − 50; the foreground is over. -/
def Field.slackFits (f : Field) (len : Nat) : Bool :=
  f.sched.plan.isEmpty && decide (17 + f.sched.used + f.sched.slack + len + 50 ≤ f.clk.frameLen)

/-- A test slice takes its ticks of the frame's slack. -/
def Field.slackTook (f : Field) (len : Nat) : Field := { f with sched := { f.sched with slack := f.sched.slack + len } }

/-- R48, R503: whether the slice at a place of the rotation starts in slack; one that is not applicable takes no time. -/
def Field.slackStarts (f : Field) (pos : Nat) (applicable : Bool) : Bool :=
  let (code, idx) := fieldTests[pos]?.getD (1, 0)
  !(f.testRuns code idx && applicable) || f.slackFits (testLen code)

/-- One slice of a self-test job has its outcome. -/
def Field.jobTest (f : Field) (j : TstJob) (p : Nat) (applicable pass : Bool) (measured limit : Int) : Field :=
  let (code, idx) := fieldTests[p]?.getD (1, 0)
  let r := f.runTest p applicable pass measured limit
  let j := { j with left := j.left.filter (· ≠ p), inFrame := j.inFrame + 1 }
  ({ r.1 with tst := { r.1.tst with job := some j } }).tell (.testSlice (some (testLine code idx r.2 measured limit)) r.2)

/-- A slice of a forced job, at its place in the foreground (R516). -/
def Field.forcedTest (f : Field) (p : Nat) (applicable pass : Bool) (measured limit : Int) : Field :=
  match f.tst.job with
  | some j => if j.forced && j.left.contains p then f.jobTest j p applicable pass measured limit else f
  | none => f

/-- A slice of a requested job, one a frame, under R48 (R49, R515). -/
def Field.requestedTest (f : Field) (j : TstJob) (applicable pass : Bool) (measured limit : Int) : Field :=
  match (if j.forced || j.inFrame ≠ 0 then none else j.left.head?) with
  | none => f
  | some p =>
    let g := f.jobTest j p applicable pass measured limit
    if !f.slackStarts p applicable then f
    else if (f.testRuns (fieldTests[p]?.getD (1, 0)).1 (fieldTests[p]?.getD (1, 0)).2 && applicable) then
      g.slackTook (testLen (fieldTests[p]?.getD (1, 0)).1)
    else g

/-- A slice of the rotation, at most one in `PACE` frames, under R48 (R506 to R508). -/
def Field.rotationTest (f : Field) (applicable pass : Bool) (measured limit : Int) : Field :=
  let pos := f.tst.rot.done
  if bitOf f.tst.rot.cfg 0 && decide (fieldOf f.tst.rot.cfg 16 16 ≤ f.tst.rot.since) && f.slackStarts pos applicable then
    let r := f.runTest pos applicable pass measured limit
    let g := { r.1 with tst := { r.1.tst with rot :=
      { r.1.tst.rot.finish 30 with since := if r.2 = 2 then r.1.tst.rot.since else 0 } } }
    if r.2 = 2 then g else g.slackTook (testLen (fieldTests[pos]?.getD (1, 0)).1)
  else f

/-- TEST_SLICE on the field side (R48, R49, R506 to R508, R514 to R517): a forced job's slice that is first in the foreground; else
a slice in slack, of the requested job or of the rotation. -/
def doFieldTest (applicable pass : Bool) (measured limit : Int) (f : Field) : Field :=
  let main := f.sup.sel = .vfld || f.sup.sel = .iso
  if !f.slices then f
  else match f.sched.plan with
    | ⟨_, _, .test p⟩ :: rest => (f.planLeft rest).forcedTest p applicable pass measured limit
    | _ =>
      if !main then f
      else match f.tst.job with
        | some j => f.requestedTest j applicable pass measured limit
        | none => f.rotationTest applicable pass measured limit

/-- R514, R520: a self-test job as a field command. -/
def Field.startTest (f : Field) (forced : Bool) : Field × Nat :=
  if f.tst.job.isSome then (f, 23)
  else if f.sup.sel = .vbat || f.sup.sel = .vbk then (f, 22)
  else ({ f with tst := { f.tst with job := some ⟨forced, List.range 30, 0, none, false⟩ } }, 0)

/-- The slices of a job that has ended are no longer requested. -/
def Sched.noTests (s : Sched) : Sched :=
  let keep := List.filter fun (r : Req) => match r.kind with | .test _ => false | _ => true
  { s with plan := keep s.plan, deferred := keep s.deferred, arrived := keep s.arrived }

/-- A self-test job is over on the field side. -/
def Field.testOver (f : Field) : Field := { f with tst := { f.tst with job := none }, sched := f.sched.noTests }

/-- R521: a cancel ends the job at once, or after the booked frames once they have begun. -/
def Field.cancelTest (f : Field) : Field :=
  match f.tst.job with
  | none => f
  | some j =>
    let wait := match j.ft with | some t => decide (t ≤ f.clk.fno + 1) && decide (f.clk.fno ≤ t + 1) | none => false
    if wait then { f with tst := { f.tst with job := some { j with cancel := true } } }
    else f.testOver.tell .testCancelled

/-- R521: the job fails when FSUP leaves 0 and 1. -/
def Field.dropTest (f : Field) : Field :=
  match f.tst.job with
  | none => f
  | some _ => f.testOver.tell .testDropped

/-- R514, R523: the end of a job: one rotation more, and its summary record. -/
def Field.endTest (f : Field) (passed failed na : Nat) : Field :=
  let forced := match f.tst.job with | some j => j.forced | none => false
  let f := { f.testOver with tst := { f.tst with job := none, rot := { f.tst.rot with rot := satAdd f.tst.rot.rot 1 } } }
  f.stage (firstSlot 0x08 0 2 f.clk.stamp
    [(11, 1, 0), (12, 1, forced.toNat), (13, 2, passed), (15, 2, failed), (17, 2, na)])

/-- Housekeeping of the test engine at a boundary: pacing, the booking of f_t (R517), a waiting cancel, the slices that a forced
job requests (R516). -/
def Field.testBoundary (f : Field) : Field :=
  let rot := { f.tst.rot with since := min (f.tst.rot.since + 1) 65536 }
  match f.tst.job with
  | none => { f with tst := { f.tst with rot := rot } }
  | some j =>
    let past := match j.ft with | some t => decide (t + 1 < f.clk.fno) | none => false
    if j.cancel && past then ({ f with tst := { f.tst with rot := rot } }.testOver).tell .testCancelled
    else
      let ft := if j.forced && j.ft.isNone then some (f.clk.fno + 2) else j.ft
      let j := { j with inFrame := 0, ft := ft }
      let f := { f with tst := { f.tst with rot := rot, job := some j } }
      if !j.forced || !(f.sup.sel = .vfld || f.sup.sel = .iso) then f
      else (j.requests f.clk.fno f.sched.testsWaiting).foldl
        (fun f p => f.request 7 (testLen (fieldTests[p]?.getD (1, 0)).1) (.test p)) f

/-! ### Telemetry (section 5, R35, Table 3-8) -/

/-- The domains that are ON in every frame in the present state. In hold-up R74 keeps powered what it lists and no more, so F80 to
F84 are OFF there, which Table 3-8 calls always ON; the lanes F71 to F75 are ON in every tick housekeeping.
DESIGN CHOICE, unsafe: notes/assumptions/63.md. -/
def Field.baseDomains (f : Field) : List Nat :=
  if f.start.holdUp then [0, 1, 2, 3, 4, 5, 6, 7, 89, 91]
  else
    [0, 1, 2, 3, 4, 5, 6, 7, 71, 72, 73, 74, 75, 77, 80, 81, 82, 83, 84, 85, 86, 87, 89, 91] ++
    ((List.range 8).filter fun i => bitOf (f.ev.cfg[i]?.getD 0#32) 0).map (· + 8) ++
    (if f.sup.isoOffer then [76] else [])

/-- The states of a domain (Table 3-8). -/
inductive DomSt where
  | on | ret | off
  deriving DecidableEq, Repr

/-- R88, R90: the state of domain F`i` in this frame, as far as frames tell it: ON in a frame in which it was switched ON, else
its idle state. -/
def Field.domState (f : Field) (i : Nat) : DomSt :=
  if f.tst.domNow.getLsbD i || f.baseDomains.contains i then .on
  else if sramRet i || (!f.start.holdUp && (i = 77 || i = 88)) then .ret
  else .off

/-- At a frame boundary the ON counts of the frame that ended are taken. -/
def Field.domBoundary (f : Field) : Field :=
  let base := f.baseDomains
  let now := f.tst.domNow
  { f with tst := { f.tst with
      domNew := (f.tst.domNew.zipIdx).map fun (n, i) => if now.getLsbD i || base.contains i then n + 1 else n,
      domNow := 0#92 } }

/-- A 32-bit saturating sum. -/
def satWord (w : Word) (n : Nat) : Word := BitVec.ofNat 32 (min (w.toNat + n) 0xFFFFFFFF)

/-- TELEMETRY_SLICE (R35): the counts are folded into retained storage, last in the background lane. -/
def doTelemetry (f : Field) : Field :=
  if !f.laneFree 4 then f
  else
    ({ f with tst := { f.tst with
        domOn := (f.tst.domOn.zip f.tst.domNew).map fun (w, n) => satWord w n, domNew := Vector.replicate 92 0 } }.laneTook 4).domain 88

/-- The count of a domain as telemetry shows it. -/
def Field.domCount (f : Field) (i : Nat) : Word :=
  satWord (f.tst.domOn[i]?.getD 0#32) (f.tst.domNew[i]?.getD 0)

/-- A cleared count (R525, R526, Table 14-2). -/
def Field.domClr (f : Field) (i : Nat) : Field :=
  { f with tst := { f.tst with
      domOn := f.tst.domOn.setIfInBounds i 0#32, domNew := f.tst.domNew.setIfInBounds i 0 } }

end Sys2Proof.Machine
end

