-- ==== Sys2Proof/Machine/Supply.lean ====
section
/-! DEFINITION. Sys2Proof/Machine/Supply.lean: sources, demotion and promotion, hold-up, the field-side starts and the
watchdog (03_power_fabric.md; 05_first_second.md; 02_frame.md R47). -/

namespace Sys2Proof.Machine

/-! ### Sources (Table 3-1) -/

def Sup.ok (s : Sup) (x : Source) : Bool :=
  match x with
  | .vfld => s.vfldOk
  | .iso => s.isoOk
  | .vbat => s.vbatOk
  | .vbk => true

def Sup.putOk (s : Sup) (x : Source) (b : Bool) : Sup :=
  match x with
  | .vfld => { s with vfldOk := b }
  | .iso => { s with isoOk := b }
  | .vbat => { s with vbatOk := b }
  | .vbk => s

/-- R56, R61: the valid source of highest priority, leaving out `x`; VBK if there is none. -/
def Sup.bestBut (s : Sup) (x : Source) : Source :=
  ([Source.vfld, .iso, .vbat].find? fun y => y ≠ x && s.ok y).getD .vbk

def Sup.best (s : Sup) : Source := s.bestBut .vbk

/-- VSW_TH in mV (R58). -/
def Sup.vsw (s : Sup) : Nat := 2400 + 100 * fieldOf s.cfg 0 4

/-- Table 3-2, R60: a source above its rise threshold, in mV, with the live VBAT. -/
def Sup.aboveRise (s : Sup) (x : Source) (mv vbat : Nat) : Bool :=
  match x with
  | .vbat => decide (2100 < mv)
  | .vbk => false
  | _ => decide (max (vbat + 50) s.vsw + 100 < mv)

/-! ### Intervals without sampling (R97, R85) -/

def Field.openGap (f : Field) (cause : Nat) (st : Stamp) : Field :=
  { f with sup := { f.sup with gap := some ⟨cause, st⟩ }, per := f.per.gapStart st }

/-- The GAP record of an interval that ends outside hold-up. -/
def Field.closeGap (f : Field) (st : Stamp) : Field :=
  match f.sup.gap with
  | none => f
  | some g =>
    { f with sup := { f.sup with gap := none }, per := f.per.gapEnd g.start st }.stage (recGap g.cause g.start st f.clk.epn)

/-! ### The link, as far as supplies bear on it (R122, R140) -/

/-- What the field side ends with the link: the jobs of the host side that it served, whose slots the host side ends by itself (R122,
R464, R521, R633); firings whose `WAKE` was lost get their record (R24). -/
def Field.linkWorkEnds (f : Field) : Field :=
  let f := f.wakesLost
  Field.calAbandon { f with
    jrn := { f.jrn with job := none, eraseJob := false },
    tst := { f.tst with job := none },
    sched := f.sched.noTests } fun item _ => item = .bar

/-- The field side is unlinked: unanswered and waiting transactions are dropped; entries of the event queue stay. -/
def Field.unlink (f : Field) : Field :=
  let f := f.linkWorkEnds
  { f with
    start := { f.start with heldMsg := false },
    bar := { f.bar with
      linked := false, training := false, sendTick := false, echoMiss := 0, rtt := none, unans := none, queue := [],
      resendDue := false, lastSeq := none, nextSeq := 0#4 } }

/-! ### Committed switches (R65 to R68, R80 to R82, R96 to R98) -/

/-- The SUPPLY record of a committed switch. -/
def Field.supplyRec (f : Field) (cause : Nat) (old new : Source) (st : Stamp) : Field :=
  let v := if f.sup.batMeas then f.sup.vbatMv.toNat else 0xFFFF
  let f := f.stage (recSupply cause st (sourceCode old) (sourceCode new) v f.sup.cancelsSince)
  { f with sup := { f.sup with swCommit := satAdd f.sup.swCommit 1, cancelsSince := 0 } }

/-- R45: the slices that fit into `room` ticks, in their order, and those that do not. -/
def fitPlan : Nat → List Req → List Req × List Req
  | _, [] => ([], [])
  | room, r :: rs =>
    if r.len ≤ room then
      let x := fitPlan (room - r.len) rs
      (r :: x.1, x.2)
    else
      let x := fitPlan room rs
      (x.1, r :: x.2)

/-- R45, R80: the running slice finishes, the urgent flush follows, then the rest of the plan as far as it fits before tick
L − 50. Before the mount the flush waits for it; under a watchdog restart, for the scheduler.
DESIGN CHOICE, unsafe: notes/assumptions/50.md, notes/assumptions/84.md (before the mount). -/
def Field.urgentFlush (f : Field) (tick : Nat) : Field :=
  if !f.start.mounted then { f with jrn := { f.jrn with urgentDue := true } }
  else if f.start.wdog then { f with sched := { f.sched with arrived := f.urgentReqs ++ f.sched.arrived } }
  else
    let s := f.sched
    let k := if 17 ≤ tick then 1 else 0
    let running := s.plan.take k
    let waiting := s.plan.drop k
    let runEnd := if running.isEmpty then 17 else 17 + s.used - (waiting.map (·.len)).sum
    let start := max runEnd (tick + 1)
    let x := fitPlan (f.clk.frameLen - 50 - start) (f.urgentReqs ++ waiting)
    { f with sched := { s with
        plan := running ++ x.1, used := start + (x.1.map (·.len)).sum - 17, deferred := x.2 ++ s.deferred } }

/-- What enters a new committed source other than VBK. -/
def Field.enterSource (f : Field) (new : Source) (st : Stamp) (tick : Nat) : Field :=
  let f := { f with sup := { f.sup with sel := new, path := new, pend := false } }
  if new = .vbat then
    let f := f.planStop
    let f := f.calAbandon fun item _ => item ≠ .adc
    let f := f.dropTest
    let f := { f with sup := { f.sup with measAt := f.sup.measAt ++ [f.clk.fno + 64] } }
    let f := if f.idleOnVbat then f.openGap 2 st else f
    f.urgentFlush tick
  else f

/-- Requests that outlive hold-up: the actions of alarms and of periodic events and the records of a closed period. -/
def ReqKind.survives : ReqKind → Bool
  | .action a => a.src ≠ 4
  | .period _ => true
  | _ => false

/-- R74 to R76, R82, R97, R370: the commit to hold-up.
DESIGN CHOICE, unsafe: notes/assumptions/47.md. -/
def Field.enterHoldUp (f : Field) (st : Stamp) (tick : Nat) : Field :=
  let f := f.abandonProgram
  let held := match f.sup.gap with
    | some g => f.sup.gapHeld ++ [(g.cause, g.start, st)]
    | none => f.sup.gapHeld
  let f := f.discardConv
  let f := f.calAbandon fun _ _ => true
  let f := f.dropTest
  let f := { f with sup := { f.sup with sel := .vbk, path := .vbk, pend := false, gapHeld := held, holdAt := st } }
  let f := f.openGap 1 st
  let keep := (f.sched.plan ++ f.sched.deferred ++ f.sched.arrived).filter fun r => r.kind.survives
  let f := { f with
    start := { f.start with holdUp := true },
    sched := { f.sched with plan := [], deferred := keep, arrived := [] },
    jrn := { f.jrn with urgentDue := false },
    wake := { f.wake with tkrDue := false },
    refs := { f.refs with planned := [], ho := none, jump := none },
    ev := { (List.range 8).foldl (fun (e : Ev) i => e.cancelHold (f.clk.ticks + tick) i) f.ev with arm := 0#8 },
    rate := f.rate.abort }
  f.unlink

/-- R65, R66: the demotion commits to the source that powers the field side. -/
def Field.commitDown (f : Field) (tick : Nat) : Field :=
  let st := f.clk.atTick tick
  let old := f.sup.sel
  let new := f.sup.path
  let f := { f with sup := f.sup.putOk old false }
  let f := if new ≠ .vbat && new ≠ .vbk then f.closeGap st else f
  if new = .vbk then (f.supplyRec 1 old new st).enterHoldUp st tick
  else (f.supplyRec 1 old new st).enterSource new st tick

/-- SOURCE_FALL (R61, R66): the source that powers the field side falls below its fall threshold. -/
def doSourceFall (f : Field) : Field :=
  let s := f.sup
  if !f.start.alive || f.start.holdUp || s.path = .vbk then f
  else
    let s := if s.path = s.sel then s else s.putOk s.path false
    { f with sup := { s with pend := true, path := s.bestBut s.sel } }

/-- DEMOTION_DECIDE (R63 to R66): at the first tick after the drop; `back`: the demoted source is above its rise
threshold there. -/
def doDemotionDecide (tick : Nat) (back : Bool) (f : Field) : Field :=
  if !f.start.alive || !f.sup.pend then f
  else if back then
    { f with sup := { f.sup with
        pend := false, path := f.sup.sel, swCancel := satAdd f.sup.swCancel 1,
        cancelsSince := min (f.sup.cancelsSince + 1) 0xFFFF } }
  else f.commitDown tick

/-- STANDBY_SOURCE_FALL (R56): a source that does not power the field side loses its qualification. -/
def doStandbyFall (src : Source) (f : Field) : Field :=
  if src = .vbk || (f.start.alive && (src = f.sup.path || src = f.sup.sel)) then f
  else { f with sup := f.sup.putOk src false }

/-! ### Starts (05_first_second.md) -/

/-- What every field-side start clears (R216, R406, R428, R497, R569). -/
def Field.startClears (f : Field) : Field :=
  { f with
    tset := ⟨Vector.replicate 8 0#8, false, 0#8, false⟩,
    al := f.al.map fun a => { a with stg := none },
    per := { f.per with stg := none },
    temp := { f.temp with latest := Vector.replicate 4 none, stg := Vector.replicate 4 none },
    jrn := { f.jrn with keyParts := [] },
    cal := { f.cal with load := [] } }

/-- R78, Table 5-3: the warm start at the promotion commit out of hold-up: SUPPLY, the GAP records and BOOT 0x02. -/
def Field.warmStart (f : Field) (src : Source) (st : Stamp) (tick : Nat) : Field :=
  let f := f.supplyRec 3 .vbk src st
  let gaps := f.sup.gapHeld ++ (match f.sup.gap with | some g => [(g.cause, g.start, st)] | none => [])
  let f := gaps.foldl (fun f g => f.stage (recGap g.1 g.2.1 g.2.2 f.clk.epn)) f
  let from_ := match gaps with | g :: _ => g.2.1 | [] => st
  let f := { f with
    sup := { f.sup with gap := none, gapHeld := [], measAt := f.sup.measAt.filter (fun n => decide (f.clk.fno < n)) ++ [f.clk.fno + 1 + 64] }, per := f.per.gapEnd from_ st,
    keep := { f.keep with bad := f.keep.bad ||| Config.keepParity f.freeCtr } }
  let f := f.freeNext.keepCheckAll
  let f := f.bootRec 2 st
  let f := { f with
    start := { f.start with
      holdUp := false, kind := .warm, frames := 0, s0 := true, restored := false, mounted := false, wdog := false },
    rate := { f.rate with tdie := 0#16, tvalid := false, fast := false, calm := 0, reads := [], rcNext := none },
    cal := { f.cal with act := none, adc := none, asked := 0#7, store := none, firstDone := 0#5, startAt := f.clk.fno + 1 },
    ev := { f.ev with
      arm := (List.range 8).foldl (fun a i => setBit8 a i (evEnabled (f.evCfg i))) 0#8, armAt := f.clk.ticks + tick + 1 } }
  let f := (f.startClears).refsWarm f.sup.holdAt
  f.enterSource src st tick

/-- R67, R68: the promotion of a source, ending a pending demotion with it. DEDUCED, unsafe: notes/assumptions/80.md. -/
def Field.promote (f : Field) (src : Source) (tick : Nat) : Field :=
  let st := f.clk.atTick tick
  let old := f.sup.sel
  let f := f.supplyRec 2 old src st
  (if src ≠ .vbat then f.closeGap st else f).enterSource src st tick

/-- SOURCE_QUALIFY (R59, R60, R67, R68, R78): a source has stayed above its rise threshold for 66 ticks.
DEDUCED, unsafe: notes/assumptions/49.md. -/
def doSourceQualify (src : Source) (tick srcMv vbatMv : Nat) (f : Field) : Field :=
  if src = .vbk || !f.sup.aboveRise src srcMv vbatMv then f
  else if !f.start.alive || f.start.por then { f with sup := f.sup.putOk src true }
  else if f.start.holdUp then
    let f := { f with sup := f.sup.putOk src true }
    f.warmStart src (f.clk.atTick tick) tick
  else if f.sup.pend then
    if src = f.sup.sel then f
    else
      let s := (f.sup.putOk f.sup.sel false).putOk src true
      let f := { f with sup := s }
      let new := s.best
      if sourceCode new < sourceCode f.sup.sel then f.promote new tick
      else { f with sup := { f.sup with path := new } }.commitDown tick
  else
    let f := { f with sup := f.sup.putOk src true }
    if sourceCode src < sourceCode f.sup.sel then f.promote src tick else f

/-- VBK_POR (R77, R153): VBK falls below V_BKH with no valid source; the field side stands until a cold start. -/
def doVbkPor (f : Field) : Field :=
  if f.start.holdUp || (f.start.alive && f.sup.path = .vbk) then
    { f with
      start := { f.start with alive := false, holdUp := false, por := true },
      sup := { f.sup with sel := .vbk, path := .vbk, pend := false },
      wake := { f.wake with ponF := false } }.unlink
  else f

/-- A journal right after a cold start: what the NVM holds stays (R154, R412). -/
def Jrn.cold (j : Jrn) : Jrn :=
  { j with
    policy := false, staging := [], refused := 0, refusedFirst := 0#72, spareLow := false, ring := [], ringOvw := 0#16,
    ovwPend := 0, ovwFirst := 0#72, passBits := 0, scrubPos := 0, scrubDone := 0, scrubNext := 0, keyParts := [], kcv := 0#16,
    abandoned := none, urgentDue := false, job := none, eraseJob := false, mirrorSave := none }

/-- What a cold start leaves as it was: the fuses, the NVM with the cold-start count and the copies it holds, the pins and
the qualified sources. -/
structure ColdKept where
  fuse : Fuse
  bootStored : BitVec 16
  vfldOk : Bool
  isoOk : Bool
  vbatOk : Bool
  raw : BitVec 8
  jrn : Jrn
  csn : Word
  copyA : Option (List Byte)
  copyB : Option (List Byte)
  ovl : Ovl
  freeCtr : Nat
  deriving DecidableEq, Repr

/-- A reference after a cold start (R230). -/
def idleRef : Ref := ⟨.idle, none, none, 0, 0, none, none, none, 0⟩

/-- The field side right after a cold start (R154, R258, R336, R343, R455, R711), before its records are staged.
DESIGN CHOICE, unsafe: notes/assumptions/6.md (PSN), notes/assumptions/88.md (`DLY` before the first round trip). -/
def ColdKept.field (k : ColdKept) (best : Source) : Field :=
  let alarm : Alarm := ⟨0#32, 0x101#32, 0x7F#32, none, 0#16, 0#4, none⟩
  let sh := shDefaults 3
  let day : Inst := ⟨0, 0, true, false, false, 0#72, 0, 0, Vector.replicate 4 ChAcc.zero, Vector.replicate 8 0,
    Vector.replicate 4 none⟩
  { fuse := k.fuse,
    clk := { stamp := 0#72, phase := 0#32, incr := 2 ^ 49, frameLen := 512, fno := 0, ticks := 0, eofs := 0#54, epn := 0#16,
             ecause := 0#8, calWrap := false, item1 := false, past := [], steps := [], repeatEnd := none },
    tset := ⟨Vector.replicate 8 0#8, false, 0#8, false⟩,
    start := { alive := true, holdUp := false, por := false, kind := .cold, frames := 0, s0 := false, wdog := false, rc := true,
               xtalFail := false, xtalFrom := 0, xtalNext := 0, restored := false, calSource := 0, mounted := false, bootStored := k.bootStored,
               bootn := satAdd k.bootStored 1, heldMsg := false },
    sup := { cfg := 0x012C1F33#32, sel := best, path := best, pend := false, vfldOk := k.vfldOk, isoOk := k.isoOk,
             vbatOk := k.vbatOk, isoOffer := false, batMeas := false, vbatMv := 0#12, swCommit := 0#16, swCancel := 0#16,
             cancelsSince := 0, gap := none, gapHeld := [], holdAt := 0#72, measAt := [64] },
    stat := ⟨0x60#32, 0#32⟩,
    sched := { plan := [], used := 0, slack := 0, deferred := [], arrived := [], lane := 0, ovr := 0#16, wdog := 0#16 },
    bar := { linked := false, training := false, sendTick := false, echoMiss := 0, rtt := none, dly := 0#14, lastSeq := none,
             lastAns := none, unans := none, queue := [], nextSeq := 0#4, lane := [], room := 0, resendDue := false, crcHF := 0#16, retryF := 0#16,
             dupF := 0#16 },
    refs := { cfg := 0x106B#32, stepLim := 0x1F4#32, tref := .none, pps := idleRef, rf := idleRef, marksNow := [],
              marksDue := [], rd := 0, rdNext := none, i := 0, iPast := [], jump := none, ho := none, planned := [],
              slewOn := false, slewRem := 0, slewLeap := false, rs := 0, corr := 0, set := 0, corrPast := [], discRes := 0#32,
              holdFrom := 0, markOk := 0#16, markDrop := 0#16 },
    rate := { cfg := 0x7400#32, rc := 0, rcNext := none, tdie := 0#16, fast := false, tvalid := false, calm := 0, reads := [],
              learn := none, lrnDiff := 0#16, lrnOk := 0#16, lrnRej := 0#16, lrnAbt := 0#16, updates := [], sumStart := 0,
              sumOk := 0, sumRej := 0, sumAbt := 0, sumMax := 0, sumEntry := 0 },
    al := #v[alarm, alarm],
    wake := { perEvt := 0#32, tkrCfg := 0x3F#32, tkrLeft := 0, tkrDue := false, ponCfg := 0x01000102#32, ponH := false,
              ponF := false, ponHLeft := 0, ponFLeft := 0, ponHDue := false, ponFDue := false,
              sent := [] },
    keep := ⟨Vector.replicate 64 0#8, 0#64, 0#64⟩,
    per := { cfg := 1#32, localOfs := 0#8, dayEn := true, effLocal := 0#8, stg := none, hi := Vector.replicate 4 0x2000#32,
             lo := Vector.replicate 4 0x800#32, day := some day, trip := none, high := none, past := [], psn := 0#16,
             midnight := none },
    ev := { cfg := Vector.replicate 8 0x40#32, raw := k.raw, level := 0#8, arm := 0#8, armAt := 0, hold := Vector.replicate 8 none,
            caps := [], stray := [], dead := Vector.replicate 4 0, laneCal := 0#4, queue := [], lost := 0#16, coarse := 0#16,
            norec := 0#16, refused := 0, refusedFirst := 0#72 },
    temp := { plan := 0x0C0C0C0C#32, cfg := Vector.replicate 4 0#32, stg := Vector.replicate 4 none,
              ofs := Vector.replicate 4 0#32, lead := Vector.replicate 4 0#32,
              sh := #v[sh.1, sh.2.1, sh.2.2, sh.1, sh.2.1, sh.2.2, sh.1, sh.2.1, sh.2.2, sh.1, sh.2.1, sh.2.2],
              core := Vector.replicate 2 none, latch := Vector.replicate 2 none, waiting := [], sets := [],
              latest := Vector.replicate 4 none, flt := 0#8, slip := 0#16, held := 0#16, blocked := Vector.replicate 2 none },
    jrn := k.jrn.cold,
    cal := { cfg := 0xF#32, ws := k.fuse.ws, act := none, adc := none, due := Vector.replicate 7 0, asked := 0#7,
             lastAdc := none, startAt := 0, rejc := Vector.replicate 8 0, flt := 0#8, qTdc := Vector.replicate 4 0#8,
             spread := 0#16, barRes := 0#32, applied := 0#16, rejected := 0#16, firstDone := 0#5, dirty := false, aOk := false,
             bOk := false, storeReq := false, store := none, lastStore := none, csn := k.csn, copyA := k.copyA,
             copyB := k.copyB, load := [], sliceUsed := false, sliceLane := none },
    tst := { rot := { cfg := 0x04000001#32, done := 0, rot := 0#16, lastCode := 0#8, lastIdx := 0#8, fails := 0#16, since := 0,
                      failed := [] },
             job := none, domOn := Vector.replicate 92 0#32, domNew := Vector.replicate 92 0, domNow := 0#92 },
    ovl := { k.ovl with tabAt := Vector.replicate 33 0 },
    pendW := [], jobEv := [], freeCtr := k.freeCtr }

/-- What a cold start of a field side keeps. -/
def Field.kept (f : Field) : ColdKept :=
  { fuse := f.fuse, bootStored := f.start.bootStored, vfldOk := f.sup.vfldOk, isoOk := f.sup.isoOk, vbatOk := f.sup.vbatOk,
    raw := f.ev.raw, jrn := f.jrn, csn := f.cal.csn, copyA := f.cal.copyA, copyB := f.cal.copyB, ovl := f.ovl,
    freeCtr := f.freeCtr }

def Field.cold (f : Field) (best : Source) : Field := f.kept.field best

/-- FIELD_COLD_START (R153, R154, R163, Table 5-2): at the POR release tick, once a source has qualified; BOOT 0x01 and
the EPOCH record are staged. -/
def doColdStart (f : Field) : Field :=
  let best := f.sup.best
  if !f.start.por || best = .vbk then f
  else
    let f := f.cold best
    let f := f.bootRec 1 f.clk.stamp
    let f := f.stage (recEpoch 0 f.clk.stamp 0#16 0#16 0 0#54)
    if f.idleOnVbat then f.openGap 2 f.clk.stamp else f

/-- CRYSTAL_START_FAIL (R169): not running 128 start frames after POR release; code 0x09 (14_inservice_test.md); the first restart
follows 64 frames later (DESIGN CHOICE, unsafe: notes/assumptions/85.md). -/
def doCrystalFail (f : Field) : Field :=
  if f.start.alive && f.start.rc && f.start.kind = .cold && !f.start.xtalFail && decide (128 ≤ f.start.frames) then
    ({ f with start := { f.start with xtalFail := true, xtalNext := f.clk.fno + 64 } }.setBit sbTestFail).stage (recTest 1 9 0 f.clk.stamp 0 0)
  else f

/-- CRYSTAL_RESTART (R169): every 64 frames until it runs; the cycles that R165 counts start again. -/
def doCrystalRestart (f : Field) : Field :=
  if f.start.alive && f.start.rc && f.start.xtalFail && decide (f.start.xtalNext ≤ f.clk.fno) then
    { f with start := { f.start with xtalFrom := f.clk.fno, xtalNext := f.clk.fno + 64 } }
  else f

/-- R165: 2048 crystal cycles, 62.5 ms, have passed since the oscillator started: at least four RC frames at ±3 % (R31). -/
def Field.xtalRuns (f : Field) : Bool := decide (f.start.xtalFrom + 4 ≤ f.clk.fno)

/-- WATCHDOG_RESTART (R47, R277, R464, R634): the running slices stop; the scheduler restarts at the next boundary.
DEDUCED, unsafe: notes/assumptions/48.md. -/
def doWatchdog (f : Field) : Field :=
  if !f.runs then f
  else
    let f := f.abandonProgram
    let f := f.calAbandon fun _ _ => true
    { f with
      sched := { f.sched with plan := [], wdog := satAdd f.sched.wdog 1 },
      wake := { f.wake with tkrDue := f.sched.deferred.any fun r => r.kind.isTicker },
      start := { f.start with wdog := true } }

/-- The watchdog restart at its boundary: BOOT 0x03 and what every start clears (R335, R455). -/
def Field.wdogBoundary (f : Field) : Field :=
  if !f.start.wdog then f
  else
    let late := decide (8 ≤ f.start.frames)
    let f := { f with
      start := { f.start with wdog := false, kind := if late then .watchdog else f.start.kind },
      cal := { f.cal with startAt := if late then f.clk.fno else f.cal.startAt, firstDone := 0#5 } }
    (f.startClears.keepCheckAll).bootRec 3 f.clk.stamp

/-! ### Loaded measurement of VBAT (R86, R87) -/

/-- R86: a measurement is due in this frame. -/
def Field.measDue (f : Field) : Bool :=
  let sec := stampSec f.clk.stamp
  f.runs && (f.sup.measAt.contains f.clk.fno ||
    (decide (0 < sec) && decide (sec % 3600 = 0) && decide (stampFrames f.clk.stamp % 64 = 0)))

/-- VBAT_MEASURE (R86, R87): the reading in mV, to 10 mV. -/
def doVbatMeasure (mv : Nat) (f : Field) : Field :=
  if !f.measDue then f
  else
    let v := min ((mv + 5) / 10 * 10) 4090
    let th := 2200 + 100 * fieldOf f.sup.cfg 4 4
    let f := { f with sup := { f.sup with
        batMeas := true, vbatMv := BitVec.ofNat 12 v, measAt := f.sup.measAt.filter (· ≠ f.clk.fno) } }
    if v < th || !f.sup.vbatOk then f.setBit sbBatlow
    else if th + 100 ≤ v then f.clrBit sbBatlow
    else f

end Sys2Proof.Machine
end

