-- ==== Sys2Proof/Machine/State.lean ====
section
/-! DEFINITION. Sys2Proof/Machine/State.lean: the state of the VT-7120, the reasons for which a step stops, and the state
after reset: both sides powered and released from their power-on resets, nothing yet received. -/

namespace Sys2Proof.Machine

/-- The faults of the machine: none. Every row of the table has an effect on every state, and where the spec leaves a value open the
step goes on with a free one. -/
inductive Fault where
  deriving DecidableEq, Repr

/-- A command without a meaning. -/
inductive Refusal where
  /-- Raised by the dispatch for a command whose meaning is not written. Safe: the machine stops. -/
  | notModelled (mnemonic : String)
  deriving DecidableEq, Repr

/-- The state of the part, and the commands that wait, first in, first out. -/
structure State where
  f : Field
  h : HostSide
  pending : List Instr
  deriving DecidableEq, Repr

/-! ### The fuses of the part of the worked examples (DESIGN CHOICE, unsafe: notes/assumptions/3.md) -/

/-- The working set of the fuses, with the nominal values of R173.
DESIGN CHOICE, unsafe: notes/assumptions/9.md. -/
def fuseWs : WSet :=
  ⟨Vector.replicate 64 0#32, Vector.replicate 8 50#8, Vector.replicate 8 137#8, Vector.replicate 4 0#32,
    Vector.replicate 2 0#32, Vector.replicate 2 0#32, 7#4, 0x0FFFFFFF#32, 0xF2B80640#32, 0#32, 0#32, Vector.replicate 33 0#32,
    100000#32, 2400000#32, 0#32, 0#32, 0#32⟩

def fuse : Fuse := ⟨0x4B5400005A31C0D4#64, 0#32, fuseWs⟩

/-- A journal that has never been written (DESIGN CHOICE, unsafe: notes/assumptions/7.md). -/
def newJrn : Jrn :=
  { policy := false, staging := [], refused := 0, refusedFirst := 0#72, blocks := [], nextBsn := 0#32, anchor := 0#256,
    expBsn := none, esn := 0#32, erased := List.range Config.dataBlocks,
    spares := (List.range Config.spareBlocks).map (· + Config.dataBlocks), cycles := [], retired := 0#16, spareLow := false,
    roFull := false, roWorn := false, ring := [], ringOvw := 0#16, ovwPend := 0, ovwFirst := 0#72, cbpk := 0#16, passBits := 0,
    scrubPos := 0, scrubDone := 0, scrubNext := 0, uncorr := 0#16, keyParts := [], key := none, keyBad := false, kcv := 0#16,
    abandoned := none, urgentDue := false, job := none, eraseJob := false, mirrorA := none, mirrorB := none,
    mirrorSave := none, sysBad := [], sysMap := [] }

/-- A part that has never run, with VFLD valid and qualified: the fuses, an NVM never written, no cold start counted.
DESIGN CHOICE, unsafe: notes/assumptions/5.md, notes/assumptions/7.md, notes/assumptions/8.md. -/
def newPart : ColdKept :=
  { fuse := fuse, bootStored := 0#16, vfldOk := true, isoOk := false, vbatOk := false, raw := 0#8, jrn := newJrn, csn := 0#32,
    copyA := none, copyB := none,
    ovl := { s2 := some [(0x200, 64#32)], s3 := some [(0x200, 64#32)], last := none, tabAt := Vector.replicate 33 0 },
    freeCtr := 0 }

/-- The registers of the field side at a cold start (R154, Table 20-4), with the cold start itself still to take place: its
step stages the first records.
DESIGN CHOICE, unsafe: notes/assumptions/4.md. -/
def Field.afterReset : Field :=
  let f := newPart.field .vfld
  { f with start := { f.start with alive := false, por := true, bootn := 0#16 } }

/-- A free job slot (R156). -/
def idleJob : Job := ⟨0, 0, 0, 0, 0#8, [], .none, 0⟩

/-- The radio after a host start (R653, Table 18-8). -/
def radioStart : Radio :=
  { st := .sleep, goal := none, rxAsk := false, ch := 0#32, chStg := none, phy := 8#32, frm := 0x808#32, phyStg := none,
    pa := 0x200#32, paStg := none, cx := 0x00640284#32, htemp := 0#8, vpaMv := 0#12, err := 0#5, irr := 0#8,
    detErr := 0#8, lockT := 0#8, rej7 := 0#4, rej8 := 0#4, phr := 0#16, cnt := Vector.replicate 11 0#16, tx := none, txid := 0#8,
    nextTx := 0#8, results := [], buf := [], rxq := [], nextRx := 0#8, marks := [], rxNow := none, susp := false, cxReq := false,
    cxPri := false, corr := [], lastEntry := 0, calIq := ⟨none, none⟩, calPa := ⟨none, none⟩, vpaCal := none,
    trsw := [(0, false, false)] }

/-- The UART after a host start (R529, Table 15-1). -/
def uartStart : Uart :=
  { baud := 115200, prev := none, next := none, mode := .human, rxEn := true, rxLow := false, brk := false, stuck := false,
    on := true, idle := 0, open' := false, buf := [], long := false, bad := false, skip := false, lastCr := false, frm := 0#16,
    brkN := 0#16, stuckN := 0#16, rxEarly := 0#16, chk := 0#16 }

/-- The host end of the barrier after a host start. -/
def hbarStart : HBar :=
  { link := false, ticked := false, train := none, since := 0xFF#8, mir := 0, mirTicks := 0, frames := 0, loss := none, crcf := 0,
    lastSeq := none, lastAns := none, unans := none, queue := [], nextSeq := 0#4, lane := [], crcFH := 0#16, retryH := 0#16,
    dupH := 0#16, trainFail := 0#16, linkLost := 0#16 }

/-- The host side right after a host start (R156, Table 5-4, Tables 20-2 and 20-3): the banner has still to be sent. -/
def hostStarted (vhost3V : Bool) (ctr : Nat) : HostSide :=
  { power := true, nrst := false, run := true, bannerDue := true, vhostOk := vhost3V, offer := vhost3V, pwrqDue := false,
    pwrqAge := 0, pwra := 0#4, hf := 0, latched := 0x80000000#32, fst := 0#32, fstLoss := 0#32, attnMask := 0#32, attnSrc := 0#4,
    uart := uartStart, line := ⟨[], none, [], [], [], false, false⟩, bar := hbarStart, pps := ⟨false, [], 0#16, none⟩,
    jobs := Vector.replicate 4 idleJob, radio := radioStart, table := ⟨false, false, false, [], none⟩,
    pon := ⟨none, false, false, false⟩, rot := ⟨0x08000001#32, 0, 0#16, 0#8, 0#8, 0#16, 0, []⟩, fails := [], ovrH := 0#16,
    domOn := Vector.replicate 56 0#32, domNow := 0#56, freeCtr := ctr }

/-- The machine right after reset: the registers of both sides at their reset values (R11, R12, R711), no command
waiting.
DESIGN CHOICE, unsafe: notes/assumptions/4.md. -/
def State.reset : State := ⟨Field.afterReset, hostStarted true 0, []⟩

end Sys2Proof.Machine
end

