-- ==== Sys2Proof/Machine/FieldRegs.lean ====
section
/-! DEFINITION. Sys2Proof/Machine/FieldRegs.lean: the field window as the field side serves it: the value of every
register, and what a register write does at its receipt (20_register_map.md Table 20-4 and R703 to R718; Tables 3-5 to
3-7, 6-1, 6-3, 6-4, 7-2, 8-5, 9-4, 10-4, 11-5, 12-11, 13-6, 14-3, 20-6). -/

namespace Sys2Proof.Machine

/-! ### Addresses -/

/-- Address `a` is register `i` of `n` registers from `base`. -/
def regIdx (base n a : Nat) : Option Nat :=
  if base ≤ a && a < base + 4 * n && (a - base) % 4 = 0 then some ((a - base) / 4) else none

/-! ### Values (read access) -/

/-- Signed parts of 10^-12 of a rate, as a word. -/
def rateWord (r : Rat) : Word := BitVec.ofInt 32 (roundQ (r * 1000000000000))

/-- Micro-seconds of an offset in 2^-32 s, rounded toward zero. -/
def microWord (x : Rat) : Word := BitVec.ofInt 32 (truncQ (x * 1000000 / 2 ^ 32))

def refStCode : RefSt → Nat
  | .idle => 0
  | .qualifying => 1
  | .qualified => 2
  | .lost => 3

/-- The calendar and snapshot registers (Tables 6-1 and 6-3), from the snapshot `c`. -/
def calReg (c : Clk) (i : Nat) : Word :=
  let s := c.civilSec
  let d := civilOf s
  match i with
  | 0 => (toBcd d.sec).setWidth 32
  | 1 => (toBcd d.min).setWidth 32
  | 2 => (toBcd d.hour).setWidth 32
  | 3 => (toBcd (dowOf (s / 86400))).setWidth 32
  | 4 => (toBcd d.date).setWidth 32
  | 5 => (toBcd d.month).setWidth 32
  | 6 => (toBcd (d.year % 100)).setWidth 32
  | 7 => (toBcd (d.year / 100)).setWidth 32
  | 8 => BitVec.ofNat 32 c.frame
  | 9 => BitVec.ofNat 32 s
  | _ => BitVec.ofNat 32 (s / 2 ^ 32)

def stampReg (c : Clk) (i : Nat) : Word :=
  match i with
  | 0 => stampHi c.stamp
  | 1 => stampLo c.stamp
  | 2 => stampFr c.stamp
  | 3 => BitVec.ofNat 32 (c.epn.toNat + 2 ^ 16 * c.ecause.toNat)
  | 4 => BitVec.ofNat 32 (c.eofs.toNat / 2 ^ 38)
  | 5 => BitVec.ofNat 32 (c.eofs.toNat / 2 ^ 6)
  | _ => BitVec.ofNat 32 (c.eofs.toNat % 2 ^ 6 * 2 ^ 26)

def Tset.stat (t : Tset) : Word :=
  BitVec.ofNat 32 (t.filled.toNat + 2 * t.wmask.toNat + 512 * t.lastRej.toNat)

/-- Table 7-2, from `REF_CFG` on. -/
def Field.refReg (f : Field) (i : Nat) : Word :=
  let r := f.refs
  match i with
  | 0 => r.cfg
  | 1 => r.stepLim
  | 2 =>
    let runOf := fun (x : Ref) => (x.run.map (·.count)).getD 0
    let miss := match srcOf r.tref with | some s => min (r.get s).misses 3 | none => 0
    BitVec.ofNat 32 ((r.ho.map fun h => h.left.code + 4 + 8 * min h.frames 63).getD 0 + 2 ^ 9 * refStCode r.pps.st +
      2 ^ 11 * refStCode r.rf.st + 2 ^ 13 * min (runOf r.pps) 4 + 2 ^ 16 * min (runOf r.rf) 4 + 2 ^ 19 * miss +
      2 ^ 21 * min ((r.jump.map (·.count)).getD 0) 4 + 2 ^ 24 * r.slewOn.toNat + 2 ^ 25 * r.slewLeap.toNat)
  | 3 => r.discRes
  | 4 => rateWord r.rd
  | 5 => microWord r.slewRem
  | 6 => (r.jump.map fun j => microWord (j.last.ofs : Rat)).getD 0#32
  | 7 => BitVec.ofNat 32 f.holdSec
  | _ => BitVec.ofNat 32 (r.markOk.toNat + 2 ^ 16 * r.markDrop.toNat)

/-- Table 8-5, from `RATE_CFG` on. -/
def Field.rateReg (f : Field) (i : Nat) : Word :=
  let r := f.rate
  match i with
  | 0 => r.cfg
  | 1 => f.cal.ws.compPar
  | 2 => f.cal.ws.xlSel
  | 3 => BitVec.ofNat 32 (r.tdie.toNat + 2 ^ 16 * r.fast.toNat + 2 ^ 17 * r.tvalid.toNat)
  | 4 => rateWord r.rc
  | 5 =>
    let ph := match r.learn with | some w => w.half | none => 0
    let sec := match r.learn with | some w => min ((stampFrames f.clk.stamp - w.start) / 64) 255 | none => 0
    BitVec.ofNat 32 (ph + 4 * sec + 2 ^ 10 * r.lrnDiff.toNat)
  | 6 => BitVec.ofNat 32 (r.lrnOk.toNat + 2 ^ 16 * r.lrnRej.toNat)
  | _ => BitVec.ofNat 32 (f.rateQ + 2 ^ 16 * r.lrnAbt.toNat)

/-- The staging of alarm n, or its committed set (R563).
DEDUCED, unsafe: notes/assumptions/68.md. -/
def Alarm.shown (a : Alarm) : Word × Word × Word := a.stg.getD (a.time, a.date, a.ctl)

def Alarm.reg (a : Alarm) (i : Nat) : Word :=
  match i with
  | 0 => a.shown.1
  | 1 => a.shown.2.1
  | 2 => a.shown.2.2
  | _ => BitVec.ofNat 32 (a.fired.toNat + 2 ^ 16 * a.lflags.toNat)

/-- Table 9-4, from `PER_EVT` to `PON_STAT`. -/
def Wake.reg (w : Wake) (i : Nat) : Word :=
  match i with
  | 0 => w.perEvt
  | 1 => w.tkrCfg
  | 2 => if bitOf w.tkrCfg 24 then BitVec.ofNat 32 (w.tkrLeft % 2 ^ 24) else 0#32
  | 3 => w.ponCfg
  | _ => BitVec.ofNat 32 (w.ponH.toNat + 2 * w.ponF.toNat)

/-- `LOCAL` and `PER_CFG` as group PERB shows them (R563). -/
def Per.shown (p : Per) : Byte × Word := p.stg.getD (p.localOfs, p.cfg)

def Per.stat (p : Per) : Word :=
  let inst := (p.day.map (·.inst)).getD 0
  let ovl := (p.day.map (·.overlap)).getD false
  BitVec.ofNat 32 (p.trip.isSome.toNat + 2 ^ 8 * inst + 2 ^ 16 * ovl.toNat)

def Temp.stat (t : Temp) (cont : Bool) : Word :=
  let l := fun (g : Latest → Bool) (n : Nat) => ((t.latest[n]?.getD none).map g).getD false
  let nib := fun (g : Latest → Bool) => (List.range 4).foldl (fun a n => a + 2 ^ n * (l g n).toNat) 0
  let busy := fun c => (t.core[c]?.getD none).isSome.toNat
  BitVec.ofNat 32 (nib (·.stale) + 2 ^ 4 * nib (·.opened) + 2 ^ 8 * nib (·.short) + 2 ^ 12 * busy 0 + 2 ^ 13 * busy 1 +
    2 ^ 14 * cont.toNat)

/-- The latest result of a channel (R405). -/
def Temp.val (t : Temp) (n : Nat) : Word := ((t.latest[n]?.getD none).map (·.value)).getD 0x80000000#32

/-- Table 12-11; before mount the registers of kind "mount" show their cold-start value (20_register_map.md section 2). -/
def Field.jrnReg (f : Field) (i : Nat) : Word :=
  let j := f.jrn
  if i = 0 then BitVec.ofNat 32 j.policy.toNat
  else if i = 5 then BitVec.ofNat 32 (min j.ring.length 256 + 2 ^ 16 * j.ringOvw.toNat)
  else if !f.start.mounted then (if i = 4 then 0xFFFFFFFF#32 else 0#32)
  else match i with
    | 1 =>
      let used := (j.openBlk.map Blk.used).getD 0
      let cause := if j.roWorn then 2 else if j.roFull then 1 else 0
      BitVec.ofNat 32 (used + 2 ^ 7 * j.openBlk.isSome.toNat + 2 ^ 8 * min j.erased.length 255 + 2 ^ 16 * j.spares.length +
        2 ^ 23 * cause + 2 ^ 25 * f.jrnRo.toNat)
    | 2 => j.head
    | 3 => j.tail
    | 4 => j.expBsn.getD 0xFFFFFFFF#32
    | 6 => BitVec.ofNat 32 (j.cbpk.toNat + 2 ^ 16 * (cbpkOf j.passBits j.scrubPos).toNat)
    | 7 => BitVec.ofNat 32 (j.retired.toNat + 2 ^ 16 * j.uncorr.toNat)
    | 8 => BitVec.ofNat 32 (j.cycMax % 2 ^ 18)
    | 9 => BitVec.ofNat 32 (j.scrubPos / 8 + 2 ^ 16 * min ((stampSec f.clk.stamp - j.scrubDone) / 3600) 255)
    | 10 =>
      let parts := (List.range 4).foldl (fun a p => a + 2 ^ (1 + p) * (j.keyParts.any fun e => e.1 = p).toNat) 0
      BitVec.ofNat 32 ((bitOf f.status sbSealKey).toNat + parts + 2 ^ 16 * j.kcv.toNat)
    | _ => j.esn

/-- Table 3-6. -/
def Field.supStat (f : Field) : Word :=
  let s := f.sup
  BitVec.ofNat 32 (sourceCode s.sel + 4 * s.vfldOk.toNat + 8 * s.isoOk.toNat + 16 * s.vbatOk.toNat + 32 * s.isoOffer.toNat +
    64 * (f.bit sbBatlow).toNat + 128 * s.batMeas.toNat + 2 ^ 16 * s.vbatMv.toNat)

/-- Table 13-6, from `CAL_CFG` to `CAL_CNT`. -/
def Field.calRegs (f : Field) (i : Nat) : Word :=
  let c := f.cal
  match i with
  | 0 => c.cfg
  | 1 =>
    let act := match c.act with
      | some a => itemCode a.item + 16 * a.lane + 64 * a.run2.toNat
      | none => if c.adc.isSome then 2 else 0
    let age := match c.lastStore with
      | some s => min ((stampSec f.clk.stamp - s) / 3600) 0xFFFF
      | none => 0xFFFF
    BitVec.ofNat 32 (act + 2 ^ 7 * c.dirty.toNat + 2 ^ 8 * c.aOk.toNat + 2 ^ 9 * c.bOk.toNat + 2 ^ 10 * c.storeReq.toNat +
      2 ^ 16 * age)
  | 2 => BitVec.ofNat 32 ((List.range 8).foldl (fun a k => a + 16 ^ k * (c.rejc[k]?.getD 0 % 16)) 0)
  | 3 => c.flt.setWidth 32
  | 4 => BitVec.ofNat 32 (natOfLE c.qTdc.toList)
  | 5 => BitVec.ofNat 32 (c.spread.toNat + 2 ^ 16 * c.ws.adcSel.toNat)
  | 6 => c.ws.xlBad
  | 7 => c.ws.xlRes
  | 8 => c.ws.barTL
  | 9 => c.ws.barTA
  | 10 => c.ws.barA
  | 11 => c.barRes
  | _ => BitVec.ofNat 32 (c.applied.toNat + 2 ^ 16 * c.rejected.toNat)

/-- `ADC_REF0` to `ADC_GAIN1`. -/
def WSet.adcReg (w : WSet) (i : Nat) : Word :=
  if i < 4 then w.adcRef[i]?.getD 0#32 else if i < 6 then w.adcOfs[i - 4]?.getD 0#32 else w.adcGain[i - 6]?.getD 0#32

/-- `TST_STAT` and `TST_LAST` of a side's rotation (Table 14-3). -/
def Rot.stat (r : Rot) (total : Nat) (job : Bool) : Word :=
  BitVec.ofNat 32 (r.done + 2 ^ 8 * total + 2 ^ 14 * job.toNat + 2 ^ 16 * r.rot.toNat)
def Rot.last (r : Rot) : Word := BitVec.ofNat 32 (r.lastCode.toNat + 2 ^ 8 * r.lastIdx.toNat + 2 ^ 16 * r.fails.toNat)

/-- Table 14-3, from `TST_CFG` on. -/
def Field.tstReg (f : Field) (i : Nat) : Word :=
  match i with
  | 0 => f.tst.rot.cfg
  | 1 => f.tst.rot.stat 30 f.tst.job.isSome
  | 2 => f.tst.rot.last
  | 3 => BitVec.ofNat 32 f.clk.calWrap.toNat
  | _ => BitVec.ofNat 32 (f.sched.ovr.toNat + 2 ^ 16 * f.sched.wdog.toNat)

/-- The first value of a list of choices. -/
def firstReg : List (Option Word) → Option Word
  | [] => none
  | some w :: _ => some w
  | none :: rest => firstReg rest

/-- R703, R706, Table 20-4: the value of a field-window register; `c` is the line's snapshot for the RS registers
(R210). Unmapped addresses have none. -/
def Field.regValue (f : Field) (c : Clk) (a : Nat) : Option Word :=
  let at' := fun (base n : Nat) (g : Nat → Word) => (regIdx base n a).map g
  firstReg [
    at' 0x1000 11 (calReg c),
    at' 0x1040 8 (fun i => if f.tset.filled then (f.tset.fields[i]?.getD 0#8).setWidth 32 else 0#32),
    at' 0x1060 1 (fun _ => 0#32),
    at' 0x1064 1 (fun _ => f.tset.stat),
    at' 0x1080 7 (stampReg c),
    at' 0x109C 1 (fun _ => f.per.shown.1.setWidth 32),
    at' 0x10C0 9 f.refReg,
    at' 0x1100 8 f.rateReg,
    at' 0x1140 33 (fun j => f.cal.ws.ltab[j]?.getD 0#32),
    at' 0x1200 8 (fun i => ((f.al[i / 4]?).map fun al => al.reg (i % 4)).getD 0#32),
    at' 0x1220 5 f.wake.reg,
    at' 0x1240 1 (fun _ => f.per.shown.2),
    at' 0x1244 1 (fun _ => f.per.stat),
    at' 0x1250 4 (fun n => f.per.hi[n]?.getD 0#32),
    at' 0x1260 4 (fun n => f.per.lo[n]?.getD 0#32),
    at' 0x1300 64 (fun n =>
      BitVec.ofNat 32 ((f.keep.bytes[n]?.getD 0#8).toNat + 256 * (f.keep.perr.getLsbD n).toNat)),
    at' 0x1400 8 (fun i => f.ev.cfg[i]?.getD 0#32),
    at' 0x1420 1 (fun _ => BitVec.ofNat 32 ((f.ev.takeLevels f.clk.ticks).level.toNat + 2 ^ 16 * f.ev.queue.length)),
    at' 0x1424 1 (fun _ => BitVec.ofNat 32 (f.ev.lost.toNat + 2 ^ 16 * f.ev.coarse.toNat)),
    at' 0x1428 1 (fun _ => f.ev.norec.setWidth 32),
    at' 0x1430 8 (fun i =>
      BitVec.ofNat 32 ((f.cal.ws.lat[i]?.getD 0#8).toNat + 256 * (f.cal.ws.flt8[i]?.getD 0#8).toNat)),
    at' 0x1500 1 (fun _ => f.temp.plan),
    at' 0x1504 1 (fun _ => f.temp.stat f.contChannel.isSome),
    at' 0x1508 1 (fun _ => f.temp.flt.setWidth 32),
    at' 0x150C 1 (fun _ => BitVec.ofNat 32 (f.temp.slip.toNat + 2 ^ 16 * f.temp.held.toNat)),
    at' 0x1510 4 (fun n => (f.temp.stg[n]?.getD none).getD (f.temp.cfg[n]?.getD 0#32)),
    at' 0x1520 4 (fun n => f.temp.ofs[n]?.getD 0#32),
    at' 0x1530 4 (fun n => f.temp.lead[n]?.getD 0#32),
    at' 0x1540 4 (fun n => f.temp.val n),
    at' 0x1560 12 (fun i => f.temp.sh[i]?.getD 0#32),
    at' 0x1600 12 f.jrnReg,
    at' 0x1680 1 (fun _ => f.sup.cfg),
    at' 0x1684 1 (fun _ => f.supStat),
    at' 0x1688 1 (fun _ => BitVec.ofNat 32 (f.sup.swCommit.toNat + 2 ^ 16 * f.sup.swCancel.toNat)),
    at' 0x1690 1 (fun _ => BitVec.ofNat 32 (f.bar.crcHF.toNat + 2 ^ 16 * f.bar.retryF.toNat)),
    at' 0x1694 1 (fun _ => f.bar.dupF.setWidth 32),
    at' 0x1700 13 f.calRegs,
    at' 0x1740 8 f.cal.ws.adcReg,
    at' 0x1780 5 f.tstReg,
    at' 0x1800 64 (fun i => f.cal.ws.inl[i]?.getD 0#32),
    at' 0x1A00 92 f.domCount]

/-- R335: a read of a KEEP byte checks its parity. -/
def Field.readChecks (f : Field) (a : Nat) : Field :=
  match regIdx 0x1300 64 a with
  | some n => f.keepCheck n
  | none => f

/-- R54, R335: a register read of the field window, and what it leaves. -/
def Field.readReg (f : Field) (c : Clk) (a : Nat) : Option (Word × Field) :=
  let g := f.readChecks a
  (g.regValue c a).map fun w => (w, g)

/-! ### Writes at receipt (R55, R561 to R570) -/

/-- The finite value of a float register and its sign rule (R409). -/
def shBad (which : Nat) (w : Word) : Bool :=
  match float32 w with
  | none => true
  | some x => if which = 1 then decide (x ≤ 0) else if which = 2 then decide (x < 0) else false

/-- How a field-window register takes a write: ignored; refused or queued for the commit with its mask of writable
bits and its range check. -/
structure RwRule where
  mask : Word
  bad : Word → Bool

/-- R10, Table 0-3 and the ranges of the register tables: the RW and W1C registers that a write reaches at the commit
boundary. -/
def rwRule (a : Nat) : Option RwRule :=
  let ok : Word → Bool := fun _ => false
  if a = 0x10C0 then
    some ⟨0xFFFF#32, fun w => fieldOf w 4 4 < 4 || 10 < fieldOf w 4 4 || fieldOf w 8 8 = 0⟩
  else if a = 0x10C4 then some ⟨0x3FFF#32, fun w => fieldOf w 0 14 = 0 || 10000 < fieldOf w 0 14⟩
  else if a = 0x10E0 then some ⟨0xFFFFFFFF#32, ok⟩
  else if a = 0x1100 then
    some ⟨0x7FFF#32, fun w => sField w 0 9 = -256 || fieldOf w 9 4 < 5 || 10 < fieldOf w 9 4⟩
  else if a = 0x1104 then some ⟨0xFFFFFFFF#32, compParBad⟩
  else if a = 0x1108 then some ⟨0xFFFFFFFF#32, xlSelBad⟩
  else if a = 0x1118 then some ⟨0xFFFFFFFF#32, ok⟩
  else if a = 0x111C then some ⟨0xFFFF0000#32, ok⟩
  else if (regIdx 0x1140 33 a).isSome then some ⟨0xFFFFF#32, ltabBad⟩
  else if a = 0x1220 then some ⟨0x1E0F#32, ok⟩
  else if a = 0x1224 then some ⟨0x3DFFFFFF#32, ok⟩
  else if a = 0x122C then some ⟨0xFF01FF03#32, fun w => fieldOf w 8 8 = 0 || fieldOf w 24 8 = 0⟩
  else if a = 0x1230 then some ⟨3#32, ok⟩
  else if (regIdx 0x1250 8 a).isSome then some ⟨0xFFFFFFFF#32, ok⟩
  else if (regIdx 0x1300 64 a).isSome then some ⟨0xFF#32, ok⟩
  else if (regIdx 0x1400 8 a).isSome then some ⟨0x7F#32, fun w => evEdgeSel w = 3 || 4 < evFilt w⟩
  else if a = 0x1424 then some ⟨0xFFFFFFFF#32, ok⟩
  else if a = 0x1428 then some ⟨0xFFFF#32, ok⟩
  else if a = 0x1500 then some ⟨0x9F9F9F9F#32, planBad⟩
  else if a = 0x1508 then some ⟨0xFF#32, ok⟩
  else if a = 0x150C then some ⟨0xFFFFFFFF#32, ok⟩
  else if (regIdx 0x1520 8 a).isSome then some ⟨0xFFFF#32, ok⟩
  else match regIdx 0x1560 12 a with
    | some i => some ⟨0xFFFFFFFF#32, shBad (i % 3)⟩
    | none =>
      if a = 0x1600 then some ⟨1#32, ok⟩
      else if a = 0x1614 then some ⟨0xFFFF0000#32, ok⟩
      else if a = 0x1680 then
        some ⟨0xFFFF1FFF#32, fun w => 6 < fieldOf w 0 4 || 6 < fieldOf w 4 4 || fieldOf w 16 16 < 10⟩
      else if a = 0x1688 then some ⟨0xFFFFFFFF#32, ok⟩
      else if a = 0x1690 then some ⟨0xFFFFFFFF#32, ok⟩
      else if a = 0x1694 then some ⟨0xFFFF#32, ok⟩
      else if a = 0x1700 then some ⟨0xF#32, ok⟩
      else if a = 0x170C then some ⟨0xFF#32, ok⟩
      else if a = 0x1714 then some ⟨0xF0000#32, fun w => adcSelBad (fieldOf w 16 4)⟩
      else if a = 0x1728 then some ⟨0xFFFFFFFF#32, fun w => !inRange w 10000⟩
      else if a = 0x1730 then some ⟨0xFFFFFFFF#32, ok⟩
      else if (regIdx 0x1740 8 a).isSome then some ⟨0xFFFFFFFF#32, fun w => !inRange w 1000000⟩
      else if a = 0x1780 then some ⟨0xFFFF0001#32, fun w => fieldOf w 16 16 < 64⟩
      else if a = 0x1788 then some ⟨0xFFFF0000#32, ok⟩
      else if a = 0x178C then some ⟨1#32, ok⟩
      else if a = 0x1790 then some ⟨0xFFFFFFFF#32, ok⟩
      else if (regIdx 0x1800 64 a).isSome then some ⟨0xFFFFFFFF#32, inlBad⟩
      else if (regIdx 0x1A00 92 a).isSome then some ⟨0xFFFFFFFF#32, ok⟩
      else none

/-- A write queued for the commit boundary (R55). -/
def Field.pend (f : Field) (p : PendW) : Field := { f with pendW := f.pendW ++ [p] }

/-- The value that an RW register will have at the commit boundary: the last write that waits, or its value now. -/
def Field.pendValue (f : Field) (a : Nat) : Word :=
  f.pendW.foldl (fun v p => match p with | .reg b w => if b = a then w else v | _ => v) ((f.regValue f.clk a).getD 0#32)

/-! ### The pair groups of the field side (Table 20-7) -/

/-- The eight bytes of the calendar that fill the TSET staging (R218). -/
def tsetFill (c : Clk) : Vector Byte 8 := Vector.ofFn fun i => (calReg c i.val).setWidth 8

/-- R217 to R219: a staged write of TSET. -/
def Tset.stage (t : Tset) (c : Clk) (i : Nat) (b : Byte) : Tset :=
  let base := if t.filled then t.fields else tsetFill c
  { fields := base.setIfInBounds i b, filled := true,
    wmask := (if t.filled then t.wmask else 0#8) ||| (1#8 <<< i), lastRej := false }

/-- Table 6-5, R222: a staged date is refused. -/
def tsetBad (b : Vector Byte 8) (dowWritten : Bool) : Bool :=
  let g := fun (i : Nat) => b[i]?.getD 0#8
  let bcd := [0, 1, 2, 4, 5, 6, 7].any fun i => !isBcd (g i)
  let y := ofBcd (g 7) * 100 + ofBcd (g 6)
  let m := ofBcd (g 5)
  let d := ofBcd (g 4)
  let date := decide (m < 1) || decide (12 < m) || decide (d < 1) || decide (monthLen y m < d) ||
    decide (ofBcd (g 7) < 20) || decide (23 < ofBcd (g 7))
  bcd || decide (59 < ofBcd (g 0)) || decide (59 < ofBcd (g 1)) || decide (23 < ofBcd (g 2)) || date ||
    (dowWritten && (decide ((g 3).toNat < 1) || decide (7 < (g 3).toNat) || decide ((g 3).toNat ≠ dowOf (daysSince y m d))))

/-- TSET_GO (R221 to R226): the checks of R224, then Table 6-5; the staging is taken for the apply. -/
def Field.tsetGo (f : Field) : Field × Nat :=
  let t := f.tset
  let rej : Field := { f with tset := { t with lastRej := true } }
  if f.refs.tracking || !t.filled then (rej, 22)
  else if tsetBad t.fields (t.wmask.getLsbD 3) then (rej, 21)
  else
    ({ f with
        tset := ⟨Vector.replicate 8 0#8, false, 0#8, false⟩,
        pendW := (f.pendW.filter fun p => match p with | .tset _ => false | _ => true) ++ [.tset t.fields] }, 0)

/-- R561, R562: a staged write of an alarm register. -/
def Alarm.stageReg (a : Alarm) (i : Nat) (w : Word) : Alarm :=
  let s := a.shown
  { a with stg := some (match i with
      | 0 => (w, s.2.1, s.2.2)
      | 1 => (s.1, w &&& 0xFFFFFF#32, s.2.2)
      | _ => (s.1, s.2.1, w &&& 0x9F7F#32)) }

/-- AL_APPLY (R316, R565 to R570): the staged set is validated and committed at the next boundary. -/
def Field.alApply (f : Field) (n : Nat) : Field × Nat :=
  match f.al[n]? with
  | none => (f, 20)
  | some a =>
    let s := a.shown
    if alarmBad s.1 s.2.1 s.2.2 then (f, 31)
    else
      ({ f with
          al := f.al.setIfInBounds n { a with stg := none },
          pendW := (f.pendW.filter fun p => match p with | .alarm k _ _ _ => decide (k ≠ n) | _ => true) ++
            [.alarm n s.1 s.2.1 s.2.2] }, 0)

/-- PERB_APPLY (R349, R716). -/
def Field.perbApply (f : Field) : Field × Nat :=
  let s := f.per.shown
  ({ f with
      per := { f.per with stg := none },
      pendW := (f.pendW.filter fun p => match p with | .perb _ _ => false | _ => true) ++ [.perb s.1 s.2] }, 0)

/-- PRB_APPLY (R383). -/
def Field.prbApply (f : Field) (n : Nat) : Field × Nat :=
  let w := (f.temp.stg[n]?.getD none).getD (f.temp.cfg[n]?.getD 0#32)
  if prbBad w then (f, 31)
  else
    ({ f with
        temp := { f.temp with stg := f.temp.stg.setIfInBounds n none },
        pendW := (f.pendW.filter fun p => match p with | .prb k _ => decide (k ≠ n) | _ => true) ++ [.prb n w] }, 0)

/-- R228: `LOCAL` out of range. -/
def localBad (b : Byte) : Bool := decide (b.toInt < -48) || decide (56 < b.toInt)

def Field.stageLocal (f : Field) (b : Byte) : Field := { f with per := { f.per with stg := some (b, f.per.shown.2) } }
def Field.stagePerCfg (f : Field) (w : Word) : Field :=
  { f with per := { f.per with stg := some (f.per.shown.1, w &&& 0xFF01#32) } }
def Field.stageAlarm (f : Field) (n i : Nat) (w : Word) : Field :=
  match f.al[n]? with
  | none => f
  | some a => { f with al := f.al.setIfInBounds n (a.stageReg i w) }
def Field.stagePrb (f : Field) (n : Nat) (w : Word) : Field :=
  { f with temp := { f.temp with stg := f.temp.stg.setIfInBounds n (some (w &&& 0x37#32)) } }

/-- R55, R561, R703, R707: a register write at its receipt: the field side after it and the error, 0 for none. `c` is
the clock as the writing line reads it (R218). -/
def Field.writeReg (f : Field) (c : Clk) (a : Nat) (w : Word) : Field × Nat :=
  match regIdx 0x1040 8 a with
  | some i => ({ f with tset := f.tset.stage c i (w.setWidth 8) }, 0)
  | none =>
    if a = 0x1060 then (if bitOf w 0 then f.tsetGo else (f, 0))
    else if a = 0x109C then (if localBad (w.setWidth 8) then (f, 20) else (f.stageLocal (w.setWidth 8), 0))
    else if a = 0x1240 then
      let g := f.stagePerCfg w
      if bitOf w 31 then g.perbApply else (g, 0)
    else match regIdx 0x1200 8 a with
      | some i =>
        if i % 4 = 3 then (f, 0)
        else
          let g := f.stageAlarm (i / 4) (i % 4) w
          if i % 4 = 2 && bitOf w 31 then g.alApply (i / 4) else (g, 0)
      | none => match regIdx 0x1510 4 a with
        | some n =>
          let g := f.stagePrb n w
          if bitOf w 31 then g.prbApply n else (g, 0)
        | none => match rwRule a with
          | some r =>
            let v := w &&& r.mask
            if r.bad v then (f, 20) else (f.pend (.reg a v), 0)
          | none => if (f.regValue c a).isSome then (f, 0) else (f, 20)

end Sys2Proof.Machine
end

