-- ==== Sys2Proof/Machine/Commit.lean ====
section
/-! DEFINITION. Sys2Proof/Machine/Commit.lean: what the commit of field-window writes does at housekeeping item 1
(R55, R567, R708 to R710, and the commit rules of chapters 3, 6 to 14). -/

namespace Sys2Proof.Machine

/-- R708: a half-word counter clears when all of its bits are written 1.
DEDUCED, safe: notes/assumptions/74.md. -/
def clr16 (c : BitVec 16) (w : Word) (lo : Nat) : BitVec 16 := if fieldOf w lo 16 = 0xFFFF then 0#16 else c

/-- R588, R617: the field half of a status clear. -/
def Field.clrStatus (f : Field) (mask : Word) : Field :=
  let m := mask &&& fieldW1c
  let ovf := bitOf m sbEvovf && f.bit sbEvovf
  let f := { f with stat := { f.stat with latched := f.stat.latched &&& ~~~m } }
  if ovf then f.evovfCleared else f

/-- A committed value of the register at `a` was `old`; the CAL record of `SUB` 2 (R310, R410, R417, R488). -/
def Field.regRec (f : Field) (a : Nat) (old new : Word) : Field := f.stage (recCalReg f.clk.stamp a old new)

/-- R488, R464: a committed write to a working register. -/
def Field.wsCommit (f : Field) (a : Nat) (old new : Word) (ws : WSet) (item : CalItem) (lane : Nat) : Field :=
  let f := { f with cal := { f.cal with ws := ws, dirty := true } }
  (f.calAbandon fun i l => i = item && l = lane).regRec a old new

/-- R296, R293: a commit of an input of COMP ends the learning window and recomputes r_c. -/
def Field.rateInput (f : Field) : Field := { f with rate := f.rate.abort }.recomp

/-- R83, R97: `BATPLAN_EN` changed while the source is VBAT opens or closes the interval without sampling. -/
def Field.supCommit (f : Field) (w : Word) : Field :=
  let was := f.idleOnVbat
  let f := { f with sup := { f.sup with cfg := w } }
  let now := f.idleOnVbat
  if was && !now then f.closeGap f.clk.stamp
  else if !was && now then f.openGap 2 f.clk.stamp
  else f

/-- R325: a committed configuration of a ticker that runs starts its interval again, counted from the commit boundary, whose own
item 4 takes the count that is one too many. -/
def Wake.tickerCommit (w : Wake) (v : Word) : Wake :=
  { w with tkrCfg := v, tkrLeft := if bitOf v 24 then fieldOf v 0 24 + 2 else w.tkrLeft }

/-- PON_STAT (R329): a 1 releases the output. -/
def Field.ponRelease (f : Field) (w : Word) : Field :=
  let f := if bitOf w 0 && f.wake.ponH then f.releaseH else f
  if bitOf w 1 && f.wake.ponF then f.releaseF else f

/-- The commit of a register write of the working set or of the rate block. -/
def Field.commitRate (f : Field) (a : Nat) (w : Word) : Field :=
  let ws := f.cal.ws
  if a = 0x1100 then
    let old := f.rate.cfg
    let f := { f with rate := { f.rate with cfg := w } }.rateInput
    if (old ^^^ w) &&& 0x3FFF#32 ≠ 0#32 then f.regRec a old w else f
  else if a = 0x1104 then
    (f.wsCommit a ws.compPar w { ws with compPar := w } .ltab 0).rateInput
  else if a = 0x1108 then
    (f.wsCommit a ws.xlSel w { ws with xlSel := w } .xl 0).rateInput
  else if a = 0x1118 then
    { f with rate := { f.rate with lrnOk := clr16 f.rate.lrnOk w 0, lrnRej := clr16 f.rate.lrnRej w 16 } }
  else if a = 0x111C then { f with rate := { f.rate with lrnAbt := clr16 f.rate.lrnAbt w 16 } }
  else match regIdx 0x1140 33 a with
    | some j =>
      (f.wsCommit a (ws.ltab[j]?.getD 0#32) w { ws with ltab := ws.ltab.setIfInBounds j w } .ltab 0).rateInput
    | none => f

/-- The commit of a register write of Table 13-6. -/
def Field.commitCal (f : Field) (a : Nat) (w : Word) : Field :=
  let c := f.cal
  let ws := c.ws
  if a = 0x1700 then { f with cal := { c with cfg := w } }
  else if a = 0x170C then { f with cal := { c with flt := c.flt &&& ~~~(w.setWidth 8) } }
  else if a = 0x1714 then
    f.wsCommit a (f.calRegs 5) (withField (f.calRegs 5) 16 4 (fieldOf w 16 4))
      { ws with adcSel := BitVec.ofNat 4 (fieldOf w 16 4) } .adc 0
  else if a = 0x1728 then f.wsCommit a ws.barA w { ws with barA := w } .bar 0
  else if a = 0x1730 then
    { f with cal := { c with applied := clr16 c.applied w 0, rejected := clr16 c.rejected w 16 } }
  else match regIdx 0x1740 8 a with
    | some i =>
      let ws' :=
        if i < 4 then { ws with adcRef := ws.adcRef.setIfInBounds i w }
        else if i < 6 then { ws with adcOfs := ws.adcOfs.setIfInBounds (i - 4) w }
        else { ws with adcGain := ws.adcGain.setIfInBounds (i - 6) w }
      f.wsCommit a (ws.adcReg i) w ws' .adc 0
    | none => match regIdx 0x1800 64 a with
      | some i => f.wsCommit a (ws.inl[i]?.getD 0#32) w { ws with inl := ws.inl.setIfInBounds i w } .tdc (i / 16)
      | none => f

/-- The commit of a register write of Table 11-5. -/
def Field.commitTemp (f : Field) (a : Nat) (w : Word) : Field :=
  let t := f.temp
  if a = 0x1500 then { f with temp := { t with plan := w } }
  else if a = 0x1508 then { f with temp := { t with flt := t.flt &&& ~~~(w.setWidth 8) } }
  else if a = 0x150C then { f with temp := { t with slip := clr16 t.slip w 0, held := clr16 t.held w 16 } }
  else
    let old := (f.regValue f.clk a).getD 0#32
    let put := fun (n : Nat) (g : Temp → Temp) => { f with temp := g (t.freeze n f.clk.fno) }.regRec a old w
    match regIdx 0x1520 4 a with
    | some n => put n fun t => { t with ofs := t.ofs.setIfInBounds n w }
    | none => match regIdx 0x1530 4 a with
      | some n => put n fun t => { t with lead := t.lead.setIfInBounds n w }
      | none => match regIdx 0x1560 12 a with
        | some i => put (i / 3) fun t => { t with sh := t.sh.setIfInBounds i w }
        | none => f

/-- The commit of a register write of Table 9-4. -/
def Field.commitWake (f : Field) (a : Nat) (w : Word) : Field :=
  if a = 0x1220 then { f with wake := { f.wake with perEvt := w } }
  else if a = 0x1224 then { f with wake := f.wake.tickerCommit w }
  else if a = 0x122C then { f with wake := { f.wake with ponCfg := w } }
  else if a = 0x1230 then f.ponRelease w
  else match regIdx 0x1250 4 a with
    | some n =>
      let old := f.per.hi[n]?.getD 0#32
      let p := f.per.thresholdSet f.clk.stamp old w
      { f with per := { p with hi := p.hi.setIfInBounds n w } }.regRec a old w
    | none => match regIdx 0x1260 4 a with
      | some n =>
        let old := f.per.lo[n]?.getD 0#32
        let p := f.per.thresholdSet f.clk.stamp old w
        { f with per := { p with lo := p.lo.setIfInBounds n w } }.regRec a old w
      | none => match regIdx 0x1300 64 a with
        | some n => { f with keep := f.keep.write n (w.setWidth 8) }
        | none => f

/-- The commit of a register write of Tables 10-4, 12-11, 3-5, 3-7, 20-6 and 14-3. -/
def Field.commitRest (f : Field) (a : Nat) (w : Word) : Field :=
  if a = 0x1424 then { f with ev := { f.ev with lost := clr16 f.ev.lost w 0, coarse := clr16 f.ev.coarse w 16 } }
  else if a = 0x1428 then { f with ev := { f.ev with norec := clr16 f.ev.norec w 0 } }
  else if a = 0x1600 then { f with jrn := { f.jrn with policy := bitOf w 0 } }
  else if a = 0x1614 then { f with jrn := { f.jrn with ringOvw := clr16 f.jrn.ringOvw w 16 } }
  else if a = 0x1680 then f.supCommit w
  else if a = 0x1688 then
    { f with sup := { f.sup with swCommit := clr16 f.sup.swCommit w 0, swCancel := clr16 f.sup.swCancel w 16 } }
  else if a = 0x1690 then { f with bar := { f.bar with crcHF := clr16 f.bar.crcHF w 0, retryF := clr16 f.bar.retryF w 16 } }
  else if a = 0x1694 then { f with bar := { f.bar with dupF := clr16 f.bar.dupF w 0 } }
  else if a = 0x1780 then { f with tst := { f.tst with rot := { f.tst.rot with cfg := w } } }
  else if a = 0x1788 then { f with tst := { f.tst with rot := { f.tst.rot with fails := clr16 f.tst.rot.fails w 16 } } }
  else if a = 0x178C then (if bitOf w 0 then { f with clk := { f.clk with calWrap := false } } else f)
  else if a = 0x1790 then { f with sched := { f.sched with ovr := clr16 f.sched.ovr w 0, wdog := clr16 f.sched.wdog w 16 } }
  else match regIdx 0x1400 8 a with
    | some i => { f with ev := f.ev.configure f.clk.ticks i w }
    | none => match regIdx 0x1A00 92 a with
      | some i => if w = 0xFFFFFFFF#32 then f.domClr i else f
      | none => f

/-- The commit of one RW or W1C register write, already masked and checked (R55). -/
def Field.commitReg (f : Field) (a : Nat) (w : Word) : Field :=
  if a = 0x10C0 then { f with refs := { f.refs with cfg := w } }.refConfig
  else if a = 0x10C4 then { f with refs := { f.refs with stepLim := w } }
  else if a = 0x10E0 then
    { f with refs := { f.refs with markOk := clr16 f.refs.markOk w 0, markDrop := clr16 f.refs.markDrop w 16 } }
  else if a < 0x1200 then f.commitRate a w
  else if a < 0x1400 then f.commitWake a w
  else if 0x1500 ≤ a && a < 0x1600 then f.commitTemp a w
  else if (0x1700 ≤ a && a < 0x1780) || (0x1800 ≤ a && a < 0x1A00) then f.commitCal a w
  else f.commitRest a w

/-- R225: the epoch offset that makes civil time show the staged fields with frame 0 at this boundary. -/
def tsetOffset (stamp : Stamp) (b : Vector Byte 8) : BitVec 54 :=
  let g := fun (i : Nat) => ofBcd (b[i]?.getD 0#8)
  let secs := secsOf ⟨g 7 * 100 + g 6, g 5, g 4, g 2, g 1, g 0⟩
  BitVec.ofInt 54 ((secs : Int) * 64 - (stampFrames stamp : Int))

/-- The commit of one pending write (R55, R225, R316, R349, R384, R496, R588). -/
def Field.commitOne (f : Field) (p : PendW) : Field :=
  match p with
  | .reg a w => f.commitReg a w
  | .stClr m => f.clrStatus m
  | .alarm n t d c =>
    (match f.al[n]? with
      | none => f
      | some a => { f with al := f.al.setIfInBounds n { a with time := t, date := d, ctl := c } })
  | .perb l c => { f with per := { f.per with localOfs := l, cfg := c } }
  | .prb n c => f.prbCommit n c
  | .tset b => f.newEpoch (tsetOffset f.clk.stamp b) 1
  | .calImage img => f.commitImage img

/-- Whether a TSET apply takes effect at this boundary (R201, R202). -/
def hasTset (ps : List PendW) : Bool := ps.any fun p => match p with | .tset _ => true | _ => false

/-- R55: all the pending writes commit together, in the order in which they were made. -/
def Field.commitAll (f : Field) : Field :=
  let ps := f.pendW
  ps.foldl Field.commitOne { f with pendW := [] }

end Sys2Proof.Machine
end

