-- ==== Sys2Proof/Machine/Frame.lean ====
section
/-! DEFINITION. Sys2Proof/Machine/Frame.lean: the field frame boundary, its commit, the foreground plan, and the slices
that act on alarms and field commands (02_frame.md; Table 2-3; 04_barrier.md section 6). -/

namespace Sys2Proof.Machine

/-! ### Housekeeping item 1 (R32, R193 to R195, R209, R760, R55) -/

/-- R195: the stamp at the next boundary; the frame that ended moved its share of a slew or hand-over (R267). -/
def Field.advance (f : Field) : Field :=
  let c := f.clk
  let acc := c.acc + c.frameLen * c.incr
  { f with
    clk := { c with
      stamp := BitVec.ofNat 72 (acc / 2 ^ 32), phase := BitVec.ofNat 32 acc, ticks := c.ticks + c.frameLen, fno := c.fno + 1,
      past := c.past.filter fun e => decide (acc / 2 ^ 32 < e.1.toNat + markFrames * 2 ^ 26) },
    refs := f.refs.slewMoved c.frameLen }

/-- R209, R351, R760: the calendar wraps at this boundary; `old` is the civil time, not reduced, one frame before. -/
def Field.wrapCheck (f : Field) (old : Int) : Field :=
  let cyc : Int := ((Config.cycleSec * 2 ^ 32 : Nat) : Int)
  if old / cyc < f.clk.unreduced / cyc then
    let f := { f with clk := { f.clk with calWrap := true, ecause := 4#8 }, per := f.per.forget }
    f.stage (recEpoch 4 f.clk.stamp f.clk.epn f.clk.epn 0 f.clk.eofs)
  else f

/-- R160, R322, R404: the frames of the start sequence are counted; at start frame 0 of a warm start the firings held
through hold-up are performed and the sets left over end. -/
def Field.startCount (f : Field) : Field :=
  if f.start.holdUp then f
  else if f.start.s0 then
    (({ f with start := { f.start with frames := 0, s0 := false } }.releaseHeld 0).releaseHeld 1).finishSets
  else { f with start := { f.start with frames := f.start.frames + 1 } }

/-- The working item that a register belongs to (R710). -/
def wsItemOf (a : Nat) : Option (CalItem × Nat) :=
  if a = 0x1108 then some (.xl, 0)
  else if a = 0x1714 || (regIdx 0x1740 8 a).isSome then some (.adc, 0)
  else if a = 0x1728 then some (.bar, 0)
  else (regIdx 0x1800 64 a).map fun i => (CalItem.tdc, i / 16)

/-- R710: a calibration whose verdict reaches a register at the boundary at which a host write commits is abandoned.
DEDUCED, unsafe: notes/assumptions/53.md. -/
def Field.yieldCal (f : Field) : Field :=
  let hit := fun (item : CalItem) (lane : Nat) => f.pendW.any fun p =>
    match p with
    | .reg a _ => decide (wsItemOf a = some (item, lane))
    | .calImage _ => true
    | _ => false
  let f := match f.cal.act with
    | some a => if hit a.item a.lane then f.calDrop a.item a.lane else f
    | none => f
  match f.cal.adc with
  | some _ => if hit .adc 0 then f.calDrop .adc 0 else f
  | none => f

/-- Housekeeping item 1: time advances; the wrap; what the part itself planned for this boundary; the commits, so that
a host write stands (R710); the rate of the new frame. A TSET apply stands before a change of selected reference, whose hand-over is
taken from civil time as the apply left it (R201, R259). -/
def Field.item1 (f : Field) : Field :=
  let old := f.clk.unreduced
  let tset := hasTset f.pendW
  let f := f.advance.startCount
  let f := { f with ev := f.ev.takeLevels f.clk.ticks, sched := { f.sched with lane := 0, slack := 0 } }
  let f := if tset then f else f.wrapCheck old
  let f := { f with rate := { f.rate with rc := f.rate.rcNext.getD f.rate.rc, rcNext := none } }
  let f := (f.yieldCal.calBoundary).applyAdopts tset
  (if tset then (f.commitAll.applySelects).handoverEnd true else ((f.applySelects).handoverEnd false).commitAll).newRate

/-- A row whose event belongs to housekeeping item 1 performs that item, and FRAME_BOUNDARY then continues with item 2 (DESIGN CHOICE,
unsafe: notes/assumptions/16.md). -/
def Field.early (f : Field) : Field :=
  let f := f.item1
  { f with clk := { f.clk with item1 := true } }

/-- FIELD_WRITE_COMMIT (R55): the writes that wait commit at housekeeping item 1 of the next frame. -/
def doFieldWriteCommit (f : Field) : Field :=
  if !f.start.alive || f.pendW.isEmpty || f.clk.item1 then f else f.early

/-- HANDOVER_COMPLETE (R272): at housekeeping item 1 of the 64th frame boundary a hand-over ends. -/
def doHandoverComplete (f : Field) : Field :=
  match f.refs.ho with
  | some h => if !f.start.alive || f.clk.item1 || decide (h.frames < 63) then f else f.early
  | none => f

/-! ### Item 2: TICK (R131 to R134) -/

/-- R133: the delay estimate from a measured round trip in ps, in units of 2^-34 s, to the nearest: the rule gives no rounding (DESIGN
CHOICE, unsafe: notes/assumptions/88.md). -/
def dlyOf (ws : WSet) (rtt : Nat) : BitVec 14 :=
  let num : Int := 2 * ws.barTL.toInt + ((rtt : Int) - ws.barTL.toInt - ws.barTA.toInt + ws.barA.toInt)
  BitVec.ofInt 14 (roundDiv (num * 2 ^ 34) (2 * 10 ^ 12))

/-- The payload of `TICK` (Table 4-6). -/
def tickWord (ovr : Nat) (dly : BitVec 14) : Word := BitVec.ofNat 32 (ovr % 2 ^ 18 * 2 ^ 14 + dly.toNat)

/-- R132: the overshoot. -/
def Clk.overshoot (c : Clk) : Nat := c.stamp.toNat % 2 ^ 26

/-- R120, R127, R131, R134, R140, R141, R184: `TICK` while linked or training, none after the fourth without `ECHO`; its `SEQ` is the frame number in the stamp, as the mirror counter takes
it (section 6, DEDUCED, unsafe: notes/assumptions/25.md). -/
def Field.sendTickMsg (f : Field) : Field :=
  let f := f.atTick 0
  let starts := f.start.heldMsg && f.start.restored && !f.start.rc
  let f := if starts then
      { f with start := { f.start with heldMsg := false }, bar := { f.bar with sendTick := true, echoMiss := 0 } }
    else f
  if !f.bar.sendTick || decide (4 ≤ f.bar.echoMiss) then f
  else
    let b := f.bar
    let dly := match b.rtt with | some r => dlyOf f.cal.ws r | none => b.dly
    let t : Txn := ⟨.tick, BitVec.ofNat 4 (stampFrames f.clk.stamp), [tickWord f.clk.overshoot dly], none⟩
    { f with bar := FBar.pump { b with
        dly := dly, rtt := none, echoMiss := b.echoMiss + 1, lane := b.lane ++ [t],
        resendDue := (b.unans.map (·.resend)).getD false } }

/-- CRYSTAL_HANDOVER (R165, R166, R170, R184, R188): at an RC frame boundary the tick moves to the crystal; at that boundary `TICK`
goes out where a message was held. -/
def doCrystalHandover (f : Field) : Field :=
  if f.start.alive && !f.start.holdUp && f.start.rc && f.xtalRuns then
    ({ f with start := { f.start with rc := false } }.bootRec 4 f.clk.stamp).sendTickMsg
  else f

/-! ### Item 6: the foreground plan (R39 to R43) -/

/-- Insert a slice after those of its priority or of higher ones. -/
def planInsert (r : Req) : List Req → List Req
  | [] => [r]
  | x :: xs => if r.prio < x.prio then r :: x :: xs else x :: planInsert r xs

/-- R40: priority order; within a priority the order given. -/
def planSort (rs : List Req) : List Req := rs.foldl (fun l r => planInsert r l) []

/-- R42: drop the last slice, which has the lowest priority and is the youngest, until the rest fits. -/
def planFit (cap : Nat) : Nat → List Req → List Req → List Req × List Req
  | 0, rs, out => (rs, out)
  | k + 1, rs, out =>
    if (rs.map (·.len)).sum ≤ cap then (rs, out)
    else match rs.getLast? with
      | none => (rs, out)
      | some r => planFit cap k rs.dropLast (r :: out)

/-- The foreground capacity of a frame of `len` ticks: tick 17 to tick L − 50 (R34, R40). -/
def capacity (len : Nat) : Nat := len - 67

/-- R39 to R43: this frame's plan. Slices that the frame before left unrun wait with the deferred ones.
DESIGN CHOICE, safe: notes/assumptions/51.md. -/
def Field.makePlan (f : Field) : Field :=
  let s := f.sched
  let f := { f with sched := { s with plan := [], deferred := s.plan ++ s.deferred } }
  let rs := planSort (f.sched.deferred ++ f.completionReqs ++ f.sched.arrived)
  let x := planFit (capacity f.clk.frameLen) rs.length rs []
  let late := !x.2.isEmpty
  let f := { f with sched := { f.sched with
    plan := x.1, used := (x.1.map (·.len)).sum, deferred := x.2, arrived := [],
    ovr := if late then satAdd f.sched.ovr 1 else f.sched.ovr } }
  if late then f.setBit sbOverrun else f

/-! ### The boundary -/

/-- Items 3 to 7 while the field side runs. -/
def Field.itemsRun (f : Field) : Field :=
  let f := f.sendTickMsg
  let f := f.alarmItem
  let f := (f.dayBoundary (f.clk.frame = 0 && !f.bit sbTimeInvalid)).spendSteps
  let f := f.tickerItem
  let f := f.sendStat
  let f := { f with refs := { f.refs.notePast with
    marksDue := f.refs.marksDue ++ f.refs.marksNow, marksNow := [] } }
  let f := f.tempItem
  let f := f.testBoundary
  let f := f.learnFrame
  f.makePlan.periodSlices

/-- What hold-up keeps running: the calendar, the alarms, whose firings are held, and the period boundary (R74, R76, R322,
R327). -/
def Field.itemsHeld (f : Field) : Field :=
  let f := f.alarmItem
  let f := (f.dayBoundary (f.clk.frame = 0 && !f.bit sbTimeInvalid)).spendSteps
  { f with wake := f.wake.tick.tickerFrame true }

/-- FRAME_BOUNDARY (R32, Table 2-3): housekeeping at tick 0. -/
def doFrameBoundary (f : Field) : Field :=
  if !f.start.alive then f
  else
    let f := f.domBoundary
    let f := if f.clk.item1 then { f with clk := { f.clk with item1 := false } } else f.item1
    let f := (f.wdogBoundary.calDueInit).ringDomains.periodFrame
    if f.start.holdUp then f.itemsHeld else f.itemsRun

/-! ### Item 4 and the priority-4 slices (R314, R325, R330) -/

/-- TICKER_FIRE (R325, Table 2-4): the slice of a ticker firing that is first in the plan performs `TKR_ACT`. -/
def doTickerFire (f : Field) : Field :=
  match takeReq ReqKind.isTicker f.sched.plan with
  | some (⟨_, _, .action a⟩, rest) =>
    if !f.slices then f
    else
      let f := f.planLeft rest
      let more := (f.sched.plan ++ f.sched.deferred ++ f.sched.arrived).any fun r => r.kind.isTicker
      ({ f with wake := { f.wake with tkrDue := more } }.perform a).periodSlices
  | _ => f

/-- PON_PULSE_END (R330, R331): the pulse of an output has run out. -/
def doPonPulseEnd (o : WakeOut) (f : Field) : Field :=
  match o with
  | .ponH => if f.wake.ponHDue then { f with wake := { f.wake with ponHDue := false } }.releaseH else f
  | .ponF => if f.wake.ponFDue then { f with wake := { f.wake with ponFDue := false } }.releaseF else f

/-- ALARM_ACTION_SLICE (R314, R323): the action slice that is first in the plan. -/
def doAlarmAction (f : Field) : Field :=
  match takeReq ReqKind.isAction f.sched.plan with
  | some (⟨_, _, .action a⟩, rest) => if f.slices then ((f.planLeft rest).perform a).periodSlices else f
  | _ => f

/-! ### Field commands (R39, R582, R557) -/

/-- The kinds of field command, as the part numbers them in `CMDX` and `RSPX` (DESIGN CHOICE, safe: notes/assumptions/12.md). -/
def cmdKind : FieldCmd → Nat
  | .evq _ => 0
  | .tq _ => 1
  | .snap => 2
  | .tripOpen _ => 3
  | .tripClose => 4
  | .keepSave => 5
  | .keepLoad => 6
  | .note _ => 7
  | .jExport _ => 8
  | .jVerify _ => 9
  | .jErase => 10
  | .sealKey _ _ => 11
  | .calRun _ _ => 12
  | .calLoad _ _ => 13
  | .calLoadGo => 14
  | .calCommit => 15
  | .test _ => 16
  | .testFail _ _ _ _ => 17

/-- w0 of an `RSPX` (Table 4-6). -/
def rspxWord (kind n result : Nat) (cseq : BitVec 4) : Word :=
  BitVec.ofNat 32 ((Config.cmdxCode kind).toNat * 2 ^ 24 + n % 256 * 2 ^ 16 + result % 256 * 2 ^ 8 + cseq.toNat)

/-- The words of a `SAMP` (Table 4-6). -/
def sampOf (n : Nat) (l : Latest) : List Word :=
  let w0 := n * 2 ^ 30 + l.stale.toNat * 2 ^ 29 + l.opened.toNat * 2 ^ 28 + l.short.toNat * 2 ^ 27 + l.bat.toNat * 2 ^ 26
  [BitVec.ofNat 32 w0 ||| stampHi l.stamp, stampLo l.stamp, stampFr l.stamp, l.value]

/-- The effect of a field command: the field side, the error, the result words, the transactions that follow. -/
def Field.command (f : Field) (cmd : FieldCmd) : Field × Nat × List Word × List (MsgType × List Word) :=
  let done := fun (r : Field × Nat) => (r.1, r.2, ([] : List Word), ([] : List (MsgType × List Word)))
  match cmd with
  | .evq n =>
    if n < 1 || 32 < n then (f, 20, [], [])
    else
      let es := evtSends n f.ev.queue
      (f, 0, [BitVec.ofNat 32 es.length], es.map fun ws => (MsgType.evt, ws))
  | .tq n =>
    if 3 < n then (f, 20, [], [])
    else match f.temp.latest[n]?.getD none with
      | some l => if f.probeType n = 0 then (f, 22, [], []) else (f, 0, [], [(MsgType.samp, sampOf n l)])
      | none => (f, 22, [], [])
  | .snap => if (List.range 4).all fun n => f.probeType n = 0 then (f, 22, [], []) else (f.snap, 0, [], [])
  | .tripOpen ident => if f.per.trip.isSome then (f, 22, [], []) else (f.tripOpen ident, 0, [], [])
  | .tripClose => match f.per.trip with
    | some i => (f.tripClose i, 0, [], [])
    | none => (f, 22, [], [])
  | .keepSave => done f.keepSave
  | .keepLoad => done f.keepLoad
  | .note t => done (f.note t)
  | .jExport range => match f.jrn.exportRange range with
    | .inl e => (f, e, [], [])
    | .inr (a, b) => let r := f.startJrnJob false a b; (r.1, 0, r.2, [])
  | .jVerify range => match f.jrn.verifyRange range with
    | .inl e => (f, e, [], [])
    | .inr (a, b) => let r := f.startJrnJob true a b; (r.1, 0, r.2, [])
  | .jErase => let r := f.startErase; (r.1, r.2, if r.2 = 0 then [BitVec.ofNat 32 f.jrn.exported] else [], [])
  | .sealKey p t => done (f.sealKey p t)
  | .calRun item index => let r := f.calRun item index; (r.1, r.2.1, r.2.2, [])
  | .calLoad line bs => done (f.calLoad line bs)
  | .calLoadGo => done f.calLoadGo
  | .calCommit => ({ f with cal := { f.cal with storeReq := f.cal.storeReq || f.cal.dirty } }, 0, [], [])
  | .test forced => done (f.startTest forced)
  | .testFail code idx measured limit => ((f.setBit sbTestFail).testRec code idx measured limit, 0, [], [])

/-- FIELD_COMMAND_SLICE (R582): the next planned field command executes and its `RSPX` is sent, then what it reads. -/
def doFieldCommand (f : Field) : Field :=
  match takeReq ReqKind.isCommand f.sched.plan with
  | some (⟨_, _, .command seq cmd⟩, rest) =>
    if !f.slices then f
    else
      let r := (f.planLeft rest).command cmd
      let g := r.1.send .rspx (rspxWord (cmdKind cmd) r.2.2.1.length r.2.1 seq :: r.2.2.1)
      (r.2.2.2.foldl (fun g t => g.send t.1 t.2) g).periodSlices
  | _ => f

end Sys2Proof.Machine
end

