-- ==== Sys2Proof/Machine/Wire.lean ====
section
/-! DEFINITION. Sys2Proof/Machine/Wire.lean: what a transaction is on its lane (04_barrier.md section 2, Tables 4-3 to 4-7): the
type codes, the answers, the words of a `CMDX`, the messages with their CRC-8, and the bits of a message. -/

namespace Sys2Proof.Machine

/-! ### Types and answers (Tables 4-5 to 4-7) -/

/-- The type codes of Table 4-5. -/
def typeCode : MsgType → Nat
  | .idle => 0
  | .ack => 1
  | .nak => 2
  | .loop => 3
  | .tick => 4
  | .echo => 4
  | .regdat => 5
  | .mark => 5
  | .stat => 6
  | .regrd => 6
  | .evt => 7
  | .regwr => 7
  | .samp => 8
  | .cmdx => 8
  | .jdat => 9
  | .jreq => 9
  | .rspx => 10
  | .pwrq => 10
  | .pwra => 11
  | .wake => 12

def ackOf (ty : MsgType) (seq : BitVec 4) : Txn := ⟨.ack, seq, [BitVec.ofNat 32 (typeCode ty * 2 ^ 28)], none⟩
def nakOf (ty : MsgType) (seq : BitVec 4) (reason : Nat) : Txn :=
  ⟨.nak, seq, [BitVec.ofNat 32 (typeCode ty * 2 ^ 28 + reason % 256)], none⟩

/-- `IDLE`. -/
def idleTxn : Txn := ⟨.idle, 0#4, [0#32], none⟩

/-! ### The words of a `CMDX` (R107, R108) -/

/-- A text as words: four characters each, the first in the least significant byte, 0 after the last (R8).
DEDUCED, unsafe: notes/assumptions/99.md. -/
def textWords : Nat → Text → List Word
  | 0, _ => []
  | _, [] => []
  | n + 1, t => BitVec.ofNat 32 (natOfLE (textBytes (t.take 4))) :: textWords n (t.drop 4)

/-- The argument words of a field command, at most 64 (Table 4-5): the text of a `NOTE`; the layout of the others stands in no file of the
spec (DESIGN CHOICE, safe: notes/assumptions/12.md). -/
def cmdxArgs (cmd : FieldCmd) : List Word :=
  match cmd with
  | .note t => textWords 64 t
  | _ => (Config.cmdxArgs cmd).take 64

/-- w0 of a `CMDX`: its code and the count of argument words; then these (Table 4-6). -/
def cmdxWords (cmd : FieldCmd) : List Word :=
  BitVec.ofNat 32 ((Config.cmdxCode (cmdKind cmd)).toNat * 2 ^ 24 + (cmdxArgs cmd).length * 2 ^ 16) :: cmdxArgs cmd

/-! ### Messages (R102, R103, R108) -/

/-- Table 4-4: one bit of the CRC-8. -/
def crc8Bit (c : Byte) : Byte := if c.getLsbD 7 then (c <<< 1) ^^^ 0x07#8 else c <<< 1

/-- R103: the CRC-8 of bytes in order. -/
def crc8 (bs : List Byte) : Byte := bs.foldl (fun c b => (List.range 8).foldl (fun c _ => crc8Bit c) (c ^^^ b)) 0#8

/-- The five bytes that the CRC covers: message bits [47:40] to [15:8] (R103). -/
def messageBytes (type seq : BitVec 4) (payload : Word) : List Byte :=
  bytesBE 5 ((type.toNat * 16 + seq.toNat) * 2 ^ 32 + payload.toNat)

/-- Table 4-3: the 48 bits of a message. -/
def message (type seq : BitVec 4) (payload : Word) : BitVec 48 :=
  BitVec.ofNat 48 (((type.toNat * 16 + seq.toNat) * 2 ^ 32 + payload.toNat) * 2 ^ 8 +
    (crc8 (messageBytes type seq payload)).toNat)

/-- R104: what a receiver reads: type, `SEQ` and payload, unless the CRC fails. -/
def readMessage (m : BitVec 48) : Option (BitVec 4 × BitVec 4 × Word) :=
  let ty : BitVec 4 := m.extractLsb' 44 4
  let seq : BitVec 4 := m.extractLsb' 40 4
  let payload : Word := m.extractLsb' 8 32
  if crc8 (messageBytes ty seq payload) = m.extractLsb' 0 8 then some (ty, seq, payload) else none

/-- R102: a message as it goes out: the start bits 1 and 0, bits 47 to 0, the stop bits 0 and 0. -/
def messageBits (m : BitVec 48) : List Bool :=
  true :: false :: ((List.range 48).map fun i => m.getLsbD (47 - i)) ++ [false, false]

/-- R108: the messages of a transaction: one type, one `SEQ`, a word each. -/
def messagesOf (t : Txn) : List (BitVec 48) := t.words.map (message (BitVec.ofNat 4 (typeCode t.ty)) t.seq)

/-- The bits of a transaction on its lane (R102). -/
def laneBits (t : Txn) : List Bool := ((messagesOf t).map messageBits).flatten

end Sys2Proof.Machine
end

