-- ==== Sys2Proof/Machine/HostOps.lean ====
section
/-! DEFINITION. Sys2Proof/Machine/HostOps.lean: the shared operations of the host side: its status word and ATTN, the
notices and responses it sends, its job slots, its stamps, its stream to the field side. -/

namespace Sys2Proof.Machine

/-! ### The status word, host view (17_status_jobs.md) -/

/-- A job is QUEUED or RUNNING. -/
def Job.live (j : Job) : Bool := j.st = 1 || j.st = 2

/-- R613, R615: the status word as the host side shows it. -/
def HostSide.status (h : HostSide) : Word :=
  h.latched ||| h.fst |||
    BitVec.ofNat 32 (h.bar.link.toNat * 2 ^ 30 + (h.jobs.toList.any Job.live).toNat * 2 ^ 17 + (!h.radio.rxq.isEmpty).toNat * 2 ^ 16)

/-- The next open value of the host side (DESIGN CHOICE, safe: notes/assumptions/1.md). -/
def HostSide.free (h : HostSide) : BitVec 32 := Config.freeValue h.freeCtr
def HostSide.freeNext (h : HostSide) : HostSide := { h with freeCtr := h.freeCtr + 1 }

/-- R92: the host side is awake; a QUEUED job counts as one that runs, since only the host side can move it on (DESIGN CHOICE,
unsafe: notes/assumptions/92.md). -/
def HostSide.awake (h : HostSide) : Bool :=
  h.radio.st ≠ .sleep || h.pps.on || !h.bar.link || h.jobs.toList.any Job.live || h.line.cur.isSome

/-- R136: the mirror counter is in agreement. -/
def HostSide.mirOk (h : HostSide) : Bool := h.bar.link && h.awake && decide (3 ≤ h.bar.mirTicks)

/-- Switch a host domain on for this host frame. -/
def HostSide.domain (h : HostSide) (d : Nat) : HostSide := { h with domNow := h.domNow ||| (1#56 <<< d) }

/-! ### TXD (15_command_line.md sections 3, 8) -/

def TxAfter.none : TxAfter := ⟨.none, .none, false⟩

/-- Hand lines to TXD. -/
def HostSide.push (h : HostSide) (k : TxKind) (ls : List Text) (a : TxAfter) : HostSide :=
  { h with line := { h.line with tx := h.line.tx ++ [⟨k, ls, a⟩] } }

/-- The mode in which the next response is sent: responses before it may still change it (R541). -/
def HostSide.sendMode (h : HostSide) : UMode :=
  h.line.tx.foldl (fun m i => i.after.mode.getD m) h.uart.mode

/-- R573, R574: a notice in human mode, with the operator's partial line again.
DEDUCED, unsafe: notes/assumptions/72.md. -/
def HostSide.notice (h : HostSide) (t : Text) : HostSide :=
  if h.sendMode ≠ .human then h
  else h.push .notice (if h.uart.buf = [] then [t] else [[], t, txt "> " ++ h.uart.buf]) .none

/-- R546, R548: a response line as it is sent: tag, replay mark, check code. -/
def frameLine (m : UMode) (tag : Option Text) (mark : Bool) (l : Text) : Text :=
  let a := match m, tag with
    | .human, _ => l
    | _, some t => '@' :: t ++ ' ' :: l
    | _, none => l
  let b := if mark then a ++ txt " ~" else a
  if m = .machineChk then b ++ '*' :: hexText 4 (crc16 (textBytes b)).toNat else b

/-- The lines of a response as they are sent; the mark goes on the final line. -/
def frameLines (m : UMode) (tag : Option Text) (replay : Bool) : List Text → List Text
  | [] => []
  | [l] => [frameLine m tag replay l]
  | l :: ls => frameLine m tag false l :: frameLines m tag replay ls

/-- Send a response; the prompt follows where the mode after it is human (Table 15-3, R541). -/
def HostSide.respond (h : HostSide) (tag : Option Text) (replay : Bool) (ls : List Text) (a : TxAfter) : HostSide :=
  let m := h.sendMode
  let out := frameLines m tag replay ls
  h.push .response (if a.mode.getD m = .human then out ++ [txt "> "] else out) a

/-- Table 15-5: the text of an error. -/
def errText (e : Nat) : Text :=
  txt (match e with
    | 10 => "syntax"
    | 11 => "unknown command"
    | 12 => "tag reuse"
    | 13 => "check mismatch"
    | 14 => "line too long"
    | 20 => "range"
    | 21 => "invalid date"
    | 22 => "not permitted in this state"
    | 23 => "busy"
    | 30 => "pair group incomplete"
    | 31 => "pair group inconsistent"
    | 40 => "journal read-only"
    | 41 => "NVM fault"
    | 50 => "job slots full"
    | 51 => "no such job"
    | 60 => "barrier down"
    | 61 => "field not responding"
    | 70 => "radio state"
    | 71 => "coexistence denied"
    | _ => "internal")

/-- R559: an error line. -/
def errLine (e : Nat) (pos : Option Nat) : Text :=
  txt "ERR " ++ decPad 2 e ++ (match pos with | some k => txt " #" ++ decText k | none => []) ++ ' ' :: errText e

/-! ### ATTN (17_status_jobs.md section 3) -/

/-- R620, R625: bit 0 sets with a cause; in human mode a notice follows when it was clear. -/
def HostSide.attn (h : HostSide) (src : Nat) : HostSide :=
  let was := bitOf h.latched sbAttn
  let h := { h with latched := withBit h.latched sbAttn true, attnSrc := h.attnSrc ||| (1#4 <<< src) }
  if was then h else h.notice (txt "!ATTN")

/-- R620: a bit of the host view that is enabled in ATTN_MASK rose in the change from `old` to `h`. -/
def HostSide.masked (old h : HostSide) : HostSide :=
  if h.status &&& ~~~old.status &&& h.attnMask = 0#32 then h else h.attn 3

/-- Set a host-owned bit (R620). -/
def HostSide.setBit (h : HostSide) (i : Nat) : HostSide := HostSide.masked h { h with latched := withBit h.latched i true }

/-- Clear ATTN with its causes (R621, R625). -/
def HostSide.clearBits (h : HostSide) (m : Word) : HostSide :=
  let h := { h with latched := h.latched &&& ~~~(m &&& hostW1c) }
  if bitOf m sbAttn then { h with attnSrc := 0#4 } else h

/-! ### Jobs (R628 to R634) -/

/-- R628: the lowest free slot. -/
def HostSide.freeSlot (h : HostSide) : Option Nat :=
  (List.range 4).find? fun i => match h.jobs[i]? with | some j => !j.live | none => false

def HostSide.putJob (h : HostSide) (i : Nat) (g : Job → Job) : HostSide :=
  match h.jobs[i]? with
  | some j => { h with jobs := h.jobs.setIfInBounds i (g j) }
  | none => h

/-- R630: the place of the next job in the order of acceptance. -/
def HostSide.nextOrd (h : HostSide) : Nat := h.jobs.toList.foldl (fun n j => max n (j.ord + 1)) 0

/-- A job takes the lowest free slot (R585, R628).
DEDUCED, unsafe: notes/assumptions/69.md. -/
def HostSide.startJob (h : HostSide) (kind : Nat) (lines : List Text) (info : JobInfo) : Option (HostSide × Nat) :=
  h.freeSlot.map fun i => (h.putJob i fun j => ⟨kind, 1, 0, 0, j.jseq + 1, lines, info, h.nextOrd⟩, i)

/-- R629, R631, R632: a live job ends; `JOB_DONE` sets. -/
def HostSide.endJob (h : HostSide) (i st err : Nat) : HostSide :=
  match h.jobs[i]? with
  | none => h
  | some j =>
    if !j.live then h
    else
      let h := h.putJob i fun j => { j with st := st, prog := if st = 3 || st = 4 then 100 else j.prog, err := if st = 5 then err else 0 }
      h.setBit sbJobDone

/-- A live job shows progress (R592, R631: below 100 until it is done, never less than before). -/
def Job.shows (j : Job) (done total : Nat) : Job :=
  { j with st := 2, prog := max j.prog (min 99 (if total = 0 then 0 else 100 * done / total)) }

/-- The live slots whose job satisfies `p`. -/
def HostSide.slotsOf (h : HostSide) (p : JobInfo → Bool) : List Nat :=
  (List.range 4).filter fun i => match h.jobs[i]? with | some j => j.live && p j.info | none => false

def HostSide.jobOf (h : HostSide) (i : Nat) : Job := h.jobs[i]?.getD idleJob

/-- R630: of the live slots whose job satisfies `p`, the one accepted first. -/
def HostSide.firstOf (h : HostSide) (p : JobInfo → Bool) : Option Nat :=
  (h.slotsOf p).foldl (fun b i => match b with
    | none => some i
    | some k => if (h.jobOf i).ord < (h.jobOf k).ord then some i else some k) none

/-! ### The host stream (04_barrier.md) -/

/-- R128: `PWRQ` goes before the other host-stream transactions. -/
def hostOrder : MsgType → Nat
  | .pwrq => 0
  | _ => 1

/-- Launch a message on the H→F lane; on a lane that has been quiet for more than a tick one `IDLE` goes first (R129). While a message
stands on the lane it is not quiet; how long it has been quiet else no row tells (DESIGN CHOICE, safe: notes/assumptions/93.md). -/
def HostSide.launch (h : HostSide) (t : Txn) : HostSide :=
  if h.bar.lane = [] then
    { h.freeNext with bar := { h.bar with lane := if h.free.getLsbD 0 then [idleTxn, t] else [t] } }
  else { h with bar := { h.bar with lane := h.bar.lane ++ [t] } }

/-- R111, R112: start the next waiting transaction of the host stream if none is unanswered. -/
def HostSide.pump (h : HostSide) : HostSide :=
  match h.bar.unans with
  | some _ => h
  | none =>
    match takeNext hostOrder h.bar.queue with
    | none => h
    | some (t, rest) =>
      let t' := { t with seq := h.bar.nextSeq }
      HostSide.launch { h with bar := { h.bar with
        queue := rest, unans := some ⟨t', 0, false, false⟩, nextSeq := h.bar.nextSeq + 1 } } t'

/-- Send a transaction on the host stream. -/
def HostSide.send (h : HostSide) (ty : MsgType) (ws : List Word) (cmd : Option FieldCmd) : HostSide :=
  HostSide.pump { h with bar := { h.bar with queue := h.bar.queue ++ [⟨ty, 0#4, ws, cmd⟩] } }

/-- The payload of `PWRQ` (Table 4-6): 30 mW while the offer stands. -/
def pwrqWord (offer : Bool) : Word := BitVec.ofNat 32 (offer.toNat + (if offer then 30 else 0) * 256)

/-! ### Host stamps (R136, R148 to R151) -/

/-- A stamp `units` after the last host frame boundary. -/
def HostSide.stampAt (h : HostSide) (units : Nat) : HStamp :=
  ⟨h.bar.mir + units, !h.mirOk, false, h.hf, !h.bar.link && h.bar.loss.isSome⟩

/-- R149: a stamp taken since the loss moved from the free-running count to the field timescale, linearly between the mirror
values at the loss and at the new LINK. -/
def HStamp.translate (s : HStamp) (loss fwNew new : Nat) : HStamp :=
  let span := fwNew - loss
  { s with
    stamp := if span = 0 then new
      else (roundDiv ((loss : Int) * span + ((s.stamp : Int) - loss) * ((new : Int) - loss)) span).toNat,
    trn := true }

/-- What a new LINK does to a stamp: one taken since the loss is translated where `ok`; every other unlinked stamp stays as it is
for good (R149, R151, R186). An unlinked stamp from before the loss, taken while the mirror did not yet agree, is among those
(DESIGN CHOICE, unsafe: notes/assumptions/94.md). -/
def HStamp.relink (s : HStamp) (ok : Bool) (loss fwNew new : Nat) : HStamp :=
  { (if s.gap && ok then s.translate loss fwNew new else s) with gap := false }

/-- Every stamp that the host side holds: PPS edges, received and transmitted SFDs (R148). -/
def HostSide.mapStamps (h : HostSide) (g : HStamp → HStamp) : HostSide :=
  { h with
    pps := { h.pps with stamps := h.pps.stamps.map fun e => (g e.1, e.2) },
    radio := { h.radio with
      rxq := h.radio.rxq.map fun (p : RxPkt) => { p with s := g p.s },
      marks := h.radio.marks.map fun e => (e.1, g e.2),
      results := h.radio.results.map fun e => (e.1, e.2.1, e.2.2.map g),
      rxNow := h.radio.rxNow.map g } }

/-! ### What field-side work tells the jobs (DESIGN CHOICE, unsafe: notes/assumptions/23.md) -/

def State.host (s : State) (g : HostSide → HostSide) : State := { s with h := g s.h }

/-- Places of the host slices of a job (R514). -/
def hostPlaces : List Nat := List.range 13

/-- R514, R521, R523: a self-test job whose slices have all ended, ends with one rotation more on each side. -/
def State.testEnd (s : State) (i : Nat) : State :=
  match (s.h.jobOf i).info with
  | .test _ [] 0 pass fail na =>
    let h := s.h.endJob i (if fail = 0 then 3 else 4) 0
    { s with
      f := s.f.endTest pass fail na,
      h := { h with rot := { h.rot with rot := satAdd h.rot.rot 1 } } }
  | _ => s

/-- A slice of a self-test job has ended on either side (R522, R592). -/
def Job.tested (j : Job) (line : Option Text) (verdict : Nat) (left : List Nat) (fieldLeft : Nat) : Job :=
  match j.info with
  | .test fo _ _ p x n =>
    let j := { j with
      lines := j.lines ++ line.toList,
      info := .test fo left fieldLeft (p + (if verdict = 0 then 1 else 0)) (x + (if verdict = 1 then 1 else 0))
        (n + (if verdict = 2 then 1 else 0)) }
    j.shows (43 - left.length - fieldLeft) 43
  | _ => j

/-- One event of field-side work. -/
def State.jobEvent (s : State) (e : JobEv) : State :=
  match e with
  | .calStarted item lane =>
    let hit := fun i => match i with | .cal it ls _ _ => decide (it = item) && ls.contains lane | _ => false
    s.host fun h => (h.slotsOf hit).foldl (fun h i => h.putJob i fun j => { j with st := 2 }) h
  | .calDone item lane line rejected =>
    let hit := fun i => match i with | .cal it ls _ _ => decide (it = item) && ls.contains lane | _ => false
    s.host fun h => (h.slotsOf hit).foldl (fun h i =>
      match (h.jobOf i).info with
      | .cal it ls total rej =>
        let rest := ls.filter (· ≠ lane)
        let h := h.putJob i fun j =>
          ({ j with lines := j.lines ++ [line], info := .cal it rest total (rej || rejected) }).shows (total - rest.length) total
        if rest.isEmpty then h.endJob i (if rej || rejected then 4 else 3) 0 else h
      | _ => h) h
  | .calAbandoned item lane =>
    let hit := fun i => match i with | .cal it ls _ _ => decide (it = item) && ls.contains lane | _ => false
    s.host fun h => (h.slotsOf hit).foldl (fun h i => h.endJob i 5 22) h
  | .jrnStarted =>
    let hit := fun i => match i with | .journal _ _ _ _ _ _ _ _ _ => true | _ => false
    s.host fun h => (h.slotsOf hit).foldl (fun h i => h.putJob i fun j => { j with st := 2 }) h
  | .eraseDone first last =>
    let hit := fun i => match i with | .erase _ => true | _ => false
    s.host fun h => (h.slotsOf hit).foldl (fun h i => h.putJob i fun j =>
      let j := { j with lines := j.lines ++ [commas [txt "+E", hexText 8 first.toNat, hexText 8 last.toNat]] }
      match j.info with
      | .erase total => j.shows j.lines.length total
      | _ => j) h
  | .eraseEnd =>
    let hit := fun i => match i with | .erase _ => true | _ => false
    s.host fun h => (h.slotsOf hit).foldl (fun h i => h.endJob i 3 0) h
  | .testSlice line verdict =>
    let hit := fun i => match i with | .test _ _ _ _ _ _ => true | _ => false
    (s.h.slotsOf hit).foldl (fun (s : State) i =>
      match (s.h.jobOf i).info with
      | .test _ left n _ _ _ => (s.host fun h => h.putJob i fun j => j.tested line verdict left (n - 1)).testEnd i
      | _ => s) s
  | .testDropped =>
    let hit := fun i => match i with | .test _ _ _ _ _ _ => true | _ => false
    s.host fun h => (h.slotsOf hit).foldl (fun h i => h.endJob i 5 22) h
  | .testCancelled =>
    let hit := fun i => match i with | .test _ _ _ _ _ _ => true | _ => false
    s.host fun h => (h.slotsOf hit).foldl (fun h i => h.endJob i 6 0) h

/-- The state with the field side `g`, whose news the job slots have taken. -/
def State.withField (s : State) (g : Field) : State :=
  g.jobEv.foldl State.jobEvent { s with f := { g with jobEv := [] } }

end Sys2Proof.Machine
end

