-- ==== Sys2Proof/Machine/FieldSteps.lean ====
section
/-! DEFINITION. Sys2Proof/Machine/FieldSteps.lean: the steps of the field side. Each is the field-side operation of its
chapter; what it tells the job slots reaches them in the same step (DESIGN CHOICE, unsafe: notes/assumptions/23.md). A step whose event is not
due leaves the state as it is (DESIGN CHOICE, unsafe: notes/assumptions/2.md). -/

namespace Sys2Proof.Machine

/-- FRAME_BOUNDARY (R32). -/
def execFrameBoundary (s : State) : Host.Outcome State Fault Refusal :=
  .next (s.withField (doFrameBoundary s.f))

/-- TICKER_FIRE (R325). -/
def execTickerFire (s : State) : Host.Outcome State Fault Refusal :=
  .next (s.withField (doTickerFire s.f))

/-- PON_PULSE_END (R330). -/
def execPonPulseEnd (o : WakeOut) (s : State) : Host.Outcome State Fault Refusal :=
  .next (s.withField (doPonPulseEnd o s.f))

/-- ALARM_ACTION_SLICE (R314). -/
def execAlarmActionSlice (s : State) : Host.Outcome State Fault Refusal :=
  .next (s.withField (doAlarmAction s.f))

/-- WATCHDOG_RESTART (R47). -/
def execWatchdogRestart (s : State) : Host.Outcome State Fault Refusal :=
  .next (s.withField (doWatchdog s.f))

/-- FIELD_WRITE_COMMIT (R55). -/
def execFieldWriteCommit (s : State) : Host.Outcome State Fault Refusal :=
  .next (s.withField (doFieldWriteCommit s.f))

/-- MARK_EVALUATE (R239). -/
def execMarkEvaluate (s : State) : Host.Outcome State Fault Refusal :=
  .next (s.withField (doMarkEvaluate s.f))

/-- MARK_MISS (R242). -/
def execMarkMiss (r : RefSrc) (s : State) : Host.Outcome State Fault Refusal :=
  .next (s.withField (doMarkMiss r s.f))

/-- REFERENCE_IDLE (R253). -/
def execReferenceIdle (r : RefSrc) (s : State) : Host.Outcome State Fault Refusal :=
  .next (s.withField (doReferenceIdle r s.f))

/-- HANDOVER_COMPLETE (R272). -/
def execHandoverComplete (s : State) : Host.Outcome State Fault Refusal :=
  .next (s.withField (doHandoverComplete s.f))

/-- SLEW_END (R264). -/
def execSlewEnd (s : State) : Host.Outcome State Fault Refusal :=
  .next (s.withField (doSlewEnd s.f))

/-- HOLDOVER_LONG_SET (R282). -/
def execHoldoverLongSet (s : State) : Host.Outcome State Fault Refusal :=
  .next (s.withField (doHoldoverLong s.f))

/-- DIE_TEMP_READ (R289). -/
def execDieTempRead (t : BitVec 16) (s : State) : Host.Outcome State Fault Refusal :=
  .next (s.withField (doDieTempRead t s.f))

/-- LEARNING_HALF_END (R297). -/
def execLearningHalfEnd (s : State) : Host.Outcome State Fault Refusal :=
  .next (s.withField (doLearningHalfEnd s.f))

/-- LEARNING_WINDOW_CLOSE (R300). -/
def execLearningWindowClose (s : State) : Host.Outcome State Fault Refusal :=
  .next (s.withField (doLearningWindowClose s.f))

/-- LEARNED_TABLE_SUMMARY (R311). -/
def execLearnedTableSummary (s : State) : Host.Outcome State Fault Refusal :=
  .next (s.withField (doLearnedSummary s.f))

/-- CRYSTAL_HANDOVER (R166). -/
def execCrystalHandover (s : State) : Host.Outcome State Fault Refusal :=
  .next (s.withField (doCrystalHandover s.f))

/-- CRYSTAL_START_FAIL (R169). -/
def execCrystalStartFail (s : State) : Host.Outcome State Fault Refusal :=
  .next (s.withField (doCrystalFail s.f))

/-- CRYSTAL_RESTART (R169). -/
def execCrystalRestart (s : State) : Host.Outcome State Fault Refusal :=
  .next (s.withField (doCrystalRestart s.f))

/-- SOURCE_FALL (R61). -/
def execSourceFall (s : State) : Host.Outcome State Fault Refusal :=
  .next (s.withField (doSourceFall s.f))

/-- DEMOTION_DECIDE (R63). -/
def execDemotionDecide (tick : Nat) (back : Bool) (s : State) : Host.Outcome State Fault Refusal :=
  .next (s.withField (doDemotionDecide tick back (s.f.atTick tick)))

/-- SOURCE_QUALIFY (R67). -/
def execSourceQualify (src : Source) (tick srcMv vbatMv : Nat) (s : State) : Host.Outcome State Fault Refusal :=
  .next (s.withField (doSourceQualify src tick srcMv vbatMv (s.f.atTick tick)))

/-- VBK_POR (R77). -/
def execVbkPor (s : State) : Host.Outcome State Fault Refusal :=
  .next (s.withField (doVbkPor s.f))

/-- FIELD_COLD_START (R154). -/
def execFieldColdStart (s : State) : Host.Outcome State Fault Refusal :=
  .next (s.withField (doColdStart s.f))

/-- CAL_RESTORE_DONE (R174). -/
def execCalRestoreDone (aOk bOk : Bool) (s : State) : Host.Outcome State Fault Refusal :=
  .next (s.withField (doCalRestore aOk bOk s.f))

/-- JOURNAL_MOUNT (R422). -/
def execJournalMount (mapOk keyAOk keyBOk : Bool) (s : State) : Host.Outcome State Fault Refusal :=
  .next (s.withField (doJournalMount mapOk keyAOk keyBOk s.f))

/-- VBAT_MEASURE (R86). -/
def execVbatMeasure (mv : Nat) (s : State) : Host.Outcome State Fault Refusal :=
  .next (s.withField (doVbatMeasure mv s.f))

/-- BATPLAN_DUE (R83). -/
def execBatplanDue (s : State) : Host.Outcome State Fault Refusal :=
  .next (s.withField (doBatplanDue s.f))

/-- EV_EDGE (R356). -/
def execEvEdge (i : Fin 8) (rising : Bool) (tick ps n1 : Nat) (moving : Bool) (s : State) : Host.Outcome State Fault Refusal :=
  .next (s.withField (doEvEdge i rising tick ps n1 moving (s.f.atTick tick)))

/-- FILTER_HOLD_COMPLETE (R357). -/
def execFilterHoldComplete (i : Fin 8) (tick : Nat) (s : State) : Host.Outcome State Fault Refusal :=
  .next (s.withField (doFilterHold i tick (s.f.atTick tick)))

/-- EVENT_QUEUE (R363). -/
def execEventQueue (i : Fin 8) (tick n2 : Nat) (s : State) : Host.Outcome State Fault Refusal :=
  .next (s.withField (doEventQueue i tick n2 (s.f.atTick tick)))

/-- STAGING_ROOM_RETURN (R379). -/
def execStagingRoomReturn (s : State) : Host.Outcome State Fault Refusal :=
  .next (s.withField (doStagingRoom s.f))

/-- CONVERSION_START (R390). -/
def execConversionStart (s : State) : Host.Outcome State Fault Refusal :=
  .next (s.withField (doConversionStart s.f))

/-- CONTINUITY_CHECK (R395). -/
def execContinuityCheck (core : Fin 2) (padsOk : Bool) (s : State) : Host.Outcome State Fault Refusal :=
  .next (s.withField (doContinuityCheck core padsOk s.f))

/-- CONVERSION_LATCH_BUSY (R387). -/
def execConversionLatchBusy (core : Fin 2) (s : State) : Host.Outcome State Fault Refusal :=
  .next (s.withField (doLatchBusy core s.f))

/-- CONVERSION_END (R392). -/
def execConversionEnd (core : Fin 2) (milliOhm : Nat) (padsOk : Bool) (s : State) : Host.Outcome State Fault Refusal :=
  .next (s.withField (doConversionEnd core milliOhm padsOk s.f))

/-- CONVERSION_COMPLETION (R394). -/
def execConversionCompletion (core : Fin 2) (s : State) : Host.Outcome State Fault Refusal :=
  .next (s.withField (doConversionCompletion core s.f))

/-- FLUSH_REQUEST (R44). -/
def execFlushRequest (s : State) : Host.Outcome State Fault Refusal :=
  .next (s.withField (doFlushRequest s.f))

/-- FLUSH_PRIORITY_RAISE (R44). -/
def execFlushPriorityRaise (s : State) : Host.Outcome State Fault Refusal :=
  .next (s.withField (doFlushRaise s.f))

/-- FLUSH_SLICE (R418). -/
def execFlushSlice (corr : Nat) (s : State) : Host.Outcome State Fault Refusal :=
  .next (s.withField (doFlushSlice corr s.f))

/-- SCRUB_SLICE (R443). -/
def execScrubSlice (corr uncorr : List Nat) (sealOk : Bool) (s : State) : Host.Outcome State Fault Refusal :=
  .next (s.withField (doScrubSlice corr uncorr sealOk s.f))

/-- WRAP_ERASE (R437). -/
def execWrapErase (s : State) : Host.Outcome State Fault Refusal :=
  .next (s.withField (doWrapErase s.f))

/-- JOURNAL_SERVICE_SLICE (R430). -/
def execJournalServiceSlice (reads : List SlotRead) (s : State) : Host.Outcome State Fault Refusal :=
  .next (s.withField (doJournalService reads s.f))

/-- CAL_ITEM_DUE (R453). -/
def execCalItemDue (item : CalItem) (lane : Fin 4) (s : State) : Host.Outcome State Fault Refusal :=
  .next (s.withField (doCalItemDue item lane s.f))

/-- CAL_SLICE (R466). -/
def execCalSlice (m : CalMeas) (s : State) : Host.Outcome State Fault Refusal :=
  .next (s.withField (doCalSlice m s.f))

/-- ADC_CAL_FRAME (R469). -/
def execAdcCalFrame (a b c d : AdcRun) (s : State) : Host.Outcome State Fault Refusal :=
  .next (s.withField (doAdcCalFrame a b c d s.f))

/-- ADC_CAL_COMPUTE (R470). -/
def execAdcCalCompute (s : State) : Host.Outcome State Fault Refusal :=
  .next (s.withField (doAdcCompute s.f))

/-- CAL_STORE_DUE (R490). -/
def execCalStoreDue (s : State) : Host.Outcome State Fault Refusal :=
  .next (s.withField (doCalStoreDue s.f))

/-- CAL_STORE_SLICE (R491). -/
def execCalStoreSlice (readBackOk : Bool) (s : State) : Host.Outcome State Fault Refusal :=
  .next (s.withField (doCalStoreSlice readBackOk s.f))

/-- OVERLAY_REWRITE (R697). -/
def execOverlayRewrite (readBackOk : Bool) (s : State) : Host.Outcome State Fault Refusal :=
  .next (s.withField (doOverlayRewrite readBackOk s.f))

/-- TELEMETRY_SLICE (R35). -/
def execTelemetrySlice (s : State) : Host.Outcome State Fault Refusal :=
  .next (s.withField (doTelemetry s.f))

/-- STANDBY_SOURCE_FALL (R56). -/
def execStandbySourceFall (src : Source) (s : State) : Host.Outcome State Fault Refusal :=
  .next (s.withField (doStandbyFall src s.f))

/-- FIELD_COMMAND_SLICE (R582). -/
def execFieldCommandSlice (s : State) : Host.Outcome State Fault Refusal :=
  .next (s.withField (doFieldCommand s.f))

/-- ERASE_JOB_SLICE (R439). -/
def execEraseJobSlice (s : State) : Host.Outcome State Fault Refusal :=
  .next (s.withField (doEraseSlice s.f))

/-- KEEP_SAVE_SLICE (R600). -/
def execKeepSaveSlice (s : State) : Host.Outcome State Fault Refusal :=
  .next (s.withField (doKeepSaveSlice s.f))

end Sys2Proof.Machine
end

