-- ==== Sys2Proof/Machine/Radio.lean ====
section
/-! DEFINITION. Sys2Proof/Machine/Radio.lean: the radio's operations on the host side (18_radio.md, and items 0x06 to
0x08 of 13_calibration.md). -/

namespace Sys2Proof.Machine

/-! ### States, errors and counters -/

/-- The state codes and names of Table 18-3. -/
def RfSt.code : RfSt → Nat
  | .sleep => 0
  | .idle => 1
  | .stby => 2
  | .synth => 3
  | .rx => 4
  | .tx => 5
  | .txwait => 6
  | .cal => 7

def RfSt.name : RfSt → Text
  | .sleep => txt "SLEEP"
  | .idle => txt "IDLE"
  | .stby => txt "STBY"
  | .synth => txt "SYNTH"
  | .rx => txt "RX"
  | .tx => txt "TX"
  | .txwait => txt "TXWAIT"
  | .cal => txt "CAL"

/-- The result keywords of Table 18-6. -/
def TxResult.name : TxResult → Text
  | .pending => txt "PENDING"
  | .sent => txt "SENT"
  | .txDenied => txt "TX_DENIED"
  | .cxAbort => txt "CX_ABORT"
  | .unlock => txt "UNLOCK"
  | .cancelled => txt "CANCELLED"

/-- The domains H21 to H50. -/
def rfDomainMask : BitVec 56 := 0x0007FFFFFFE00000#56

/-- The radio domains that are ON in a state: none in SLEEP (Table 18-3, DESIGN CHOICE, safe: notes/assumptions/27.md). -/
def RfSt.domains (st : RfSt) : BitVec 56 := if st = .sleep then 0#56 else Config.rfDomains st.code &&& rfDomainMask

/-- R682: a bit of `RF_ERR`; `RFERR` sets when it was 0. -/
def HostSide.rfErr (h : HostSide) (i : Nat) : HostSide :=
  if h.radio.err.getLsbD i then h
  else HostSide.setBit { h with radio := { h.radio with err := h.radio.err ||| (1#5 <<< i) } } sbRferr

/-- Counters of Table 18-8 by place. -/
def cRxOk : Nat := 0
def cRxDrop : Nat := 1
def cPhrBad : Nat := 2
def cMsw : Nat := 3
def cRxAbort : Nat := 4
def cTxOk : Nat := 5
def cTxDeny : Nat := 6
def cCxAbort : Nat := 7
def cCxRxDeny : Nat := 8
def cUnlock : Nat := 9
def cCalRej : Nat := 10

/-- R684: count in a radio counter. -/
def Radio.count (r : Radio) (i : Nat) : Radio := { r with cnt := r.cnt.setIfInBounds i (satAdd (r.cnt[i]?.getD 0#16) 1) }
def HostSide.rfCount (h : HostSide) (i : Nat) : HostSide := { h with radio := h.radio.count i }

/-- A packet being received is dropped (R646, R649, R652, R679). -/
def HostSide.rfDrop (h : HostSide) : HostSide :=
  match h.radio.rxNow with
  | none => h
  | some _ => HostSide.rfCount { h with radio := { h.radio with rxNow := none } } cRxAbort

/-- Table 21-7: the levels of TRSW1 and TRSW2 in a radio state; TXWAIT keeps those of the state the request came from. -/
def Radio.trswOf (r : Radio) : Bool × Bool :=
  match r.st with
  | .rx => (false, true)
  | .tx => (true, false)
  | .txwait => (false, match r.tx with | some t => decide (t.prior = .rx) | none => false)
  | .sleep => (false, false)
  | .idle => (false, false)
  | .stby => (false, false)
  | .synth => (false, false)
  | .cal => (false, false)

/-- The levels now. -/
def Radio.trswNow (r : Radio) : Bool × Bool := (r.trsw.getLast?.map (·.2)).getD (false, false)

/-- R732: how the outputs change. An output that rises after the other has fallen, or into TX, rises 1.0 µs later: the two are never
high together. -/
def trswPath (old new : Bool × Bool) : List (Nat × Bool × Bool) :=
  if old = new then [(0, new)]
  else if (!old.1 && new.1) || (old.1 && new.2) then [(0, false, false), (1000, new)]
  else [(0, new)]

/-- The T/R switch follows the radio state (R732): on the way into TX from the transition start, on the way out of TX from the end of
the PA ramp-down. -/
def Radio.switch (r : Radio) : Radio := { r with trsw := trswPath r.trswNow r.trswOf }

/-- The radio enters a state. -/
def HostSide.rfTo (h : HostSide) (st : RfSt) : HostSide :=
  { h with radio := Radio.switch { h.radio with st := st }, domNow := h.domNow ||| st.domains }

def Radio.cxEn (r : Radio) : Bool := bitOf r.cx 0
def Radio.cxPriCfg (r : Radio) : Bool := bitOf r.cx 1
def Radio.listen (r : Radio) : Bool := bitOf r.cx 2
def Radio.fcode (r : Radio) : Nat := fieldOf r.ch 0 25

/-- R673: `CX_REQ` is released. -/
def HostSide.cxRelease (h : HostSide) : HostSide := { h with radio := { h.radio with cxReq := false, cxPri := false } }

/-- R645: the committed frequency to the nearest Hz. -/
def Radio.hertz (r : Radio) : Nat := (2 * r.fcode * 38400000 + 2 ^ 20) / 2 ^ 21

/-- R645: the code of a frequency. -/
def fcodeOf (f : Nat) : Nat := (2 * f * 2 ^ 20 + 38400000) / 76800000
def fcodeBad (c : Nat) : Bool := decide (c < 21271893) || decide (26214400 < c)

/-! ### RF.STATE (R648 to R650, R664, R673, R677, R678) -/

/-- What a request answers: an error, the state reached, or a transition that runs. -/
inductive RfAns where
  | err (e : Nat)
  | reached
  | runs
  deriving DecidableEq, Repr

/-- Entering SLEEP: corrections are forgotten (R664), radio items and their runs too (R477). -/
def HostSide.rfSleep (h : HostSide) : HostSide :=
  let h := h.rfDrop.cxRelease
  HostSide.rfTo { h with radio := { h.radio with
    goal := none, rxAsk := false, susp := false, corr := [], calIq := ⟨none, none⟩, calPa := ⟨none, none⟩ } } .sleep

/-- Leaving SLEEP: every radio item falls due (R477). -/
def HostSide.rfWoken (h : HostSide) : HostSide :=
  if h.radio.st = .sleep then
    { h with radio := { h.radio with calIq := ⟨some h.hf, none⟩, calPa := ⟨some h.hf, none⟩ } }
  else h

/-- A step down shows its state at once (DESIGN CHOICE, unsafe: notes/assumptions/28.md). -/
def HostSide.rfDown (h : HostSide) (st : RfSt) : HostSide :=
  let h := h.rfDrop.cxRelease
  HostSide.rfTo { h with radio := { h.radio with goal := none, rxAsk := false, susp := false } } st

/-- A step up runs through the states between (R648). -/
def HostSide.rfUp (h : HostSide) (t : RfTarget) : HostSide :=
  let h := { h with radio := { h.radio with goal := some t } }
  let h := h.rfWoken
  match t, h.radio.st with
  | .idle, _ => h
  | _, .sleep => h.rfTo .synth
  | _, .idle => h.rfTo .synth
  | _, _ => h

/-- R673, R677, R678: standing in STBY, the radio asks to enter RX; with `LISTEN` = 0 the grant sample decides. -/
def HostSide.rfEnterRx (h : HostSide) : HostSide × Bool :=
  let r := h.radio
  if r.cxEn && !r.cxReq then
    let h := { h with radio := { r with cxReq := true, cxPri := false } }
    if r.listen then (h, true) else (HostSide.rfTo { h with radio := { h.radio with rxAsk := true } } .stby, false)
  else (h, true)

/-- `RF.STATE` (R648, Table 18-5). -/
def HostSide.rfState (h : HostSide) (t : RfTarget) : HostSide × RfAns :=
  let r := h.radio
  if r.tx.isSome then (h, .err 70)
  else if (t = .stby || t = .rx) && r.fcode = 0 then (h, .err 70)
  else match t, r.st with
    | .sleep, _ => (h.rfSleep, .reached)
    | .idle, .sleep => (h.rfUp .idle, .runs)
    | .idle, _ => (h.rfDown .idle, .reached)
    | .stby, .stby => ({ h with radio := { r with goal := none, rxAsk := false } }, .reached)
    | .stby, .rx => (h.rfDown .stby, .reached)
    | .stby, _ => (h.rfUp .stby, .runs)
    | .rx, .rx => (h, .reached)
    | .rx, .stby => ((h.rfUp .rx).rfEnterRx.1, .runs)
    | .rx, _ => (h.rfUp .rx, .runs)

/-- RF_TRANSITION_DONE: the state the transition led to; whether a request for it is answered now. -/
def HostSide.rfDone (h : HostSide) (lock : Byte) : HostSide × Bool :=
  let r := h.radio
  let locked := fun (x : HostSide) => if r.st = .synth then { x with radio := { x.radio with lockT := lock } } else x
  if r.rxAsk then (h, false)
  else match r.goal with
    | none => (h, false)
    | some .sleep => (h, false)
    | some .idle => (HostSide.rfTo { h with radio := { r with goal := none } } .idle, true)
    | some .stby => (HostSide.rfTo (locked { h with radio := { r with goal := none } }) .stby, true)
    | some .rx =>
      let x := (locked h).rfEnterRx
      if x.2 then (HostSide.rfTo { x.1 with radio := { x.1.radio with goal := none } } .rx, true) else (x.1, false)

/-! ### Channel, PHY and power sets (R639 to R647, R659) -/

/-- The staged or else committed value of a group (R563). -/
def Radio.chShown (r : Radio) : Word := r.chStg.getD r.ch
def Radio.phyShown (r : Radio) : Word × Word := r.phyStg.getD (r.phy, r.frm)
def Radio.paShown (r : Radio) : Word := r.paStg.getD r.pa

/-- R685, R639, R645: writes to staging, with their checks. -/
def Radio.stageCh (r : Radio) (w : Word) : Option Radio :=
  if fcodeBad (fieldOf w 0 25) then none else some { r with chStg := some (w &&& 0x1FFFFFF#32) }
def Radio.stagePhy (r : Radio) (w : Word) : Option Radio :=
  if fieldOf w 5 2 = 3 then none else some { r with phyStg := some (w &&& 0x7F#32, r.phyShown.2) }
def Radio.stageFrm (r : Radio) (w : Word) : Option Radio :=
  let p := fieldOf w 0 10
  if p < 4 || 1000 < p then none else some { r with phyStg := some (r.phyShown.1, w &&& 0x1FFF#32) }
def Radio.stagePa (r : Radio) (w : Word) : Option Radio :=
  if fieldOf w 8 2 = 3 then none else some { r with paStg := some (w &&& 0x33F#32) }

/-- R646: a channel set commits: in STBY or RX the radio retunes, and a packet being received is dropped. A set whose line also asked
for a transmission is stored (DESIGN CHOICE, unsafe: notes/assumptions/29.md). -/
def HostSide.rfTune (h : HostSide) (w : Word) : HostSide :=
  let r := h.radio
  let h := { h with radio := { r with ch := w } }
  if r.tx.isSome || r.goal.isSome then h
  else match r.st with
    | .stby => HostSide.rfTo { h with radio := { h.radio with goal := some .stby } } .synth
    | .rx =>
      let h := h.rfDrop
      HostSide.rfTo { h with radio := { h.radio with goal := some .rx } } .synth
    | _ => h

/-- RFCH_APPLY, RFPHY_APPLY, RFPA_APPLY (R640, R641, R647, R659, R715): the error of an apply, 0 for none. -/
def HostSide.rfchApply (h : HostSide) : Nat := if h.radio.tx.isSome then 70 else 0
def HostSide.rfphyApply (h : HostSide) : Nat :=
  let s := h.radio.phyShown
  if h.radio.tx.isSome || h.radio.st = .rx then 70
  else if bitOf s.2 10 = decide (fieldOf s.1 5 2 = 0) then 31
  else 0
def HostSide.rfpaApply (_ : HostSide) : Nat := 0

/-- The error of the apply of a host group, by its `GID`. -/
def HostSide.groupErr (h : HostSide) (gid : Nat) : Nat :=
  if gid = 9 then h.rfchApply else if gid = 10 then h.rfphyApply else h.rfpaApply

/-- The set that a group has staged, as the register values that commit. -/
def Radio.groupSet (r : Radio) (gid : Nat) : List (Nat × Word) :=
  if gid = 9 then [(0x0404, r.chShown)]
  else if gid = 10 then [(0x0408, r.phyShown.1), (0x040C, r.phyShown.2)]
  else [(0x0410, r.paShown)]

/-- The staging of a group empties at its apply (R562). -/
def Radio.unstage (r : Radio) (gid : Nat) : Radio :=
  if gid = 9 then { r with chStg := none } else if gid = 10 then { r with phyStg := none } else { r with paStg := none }

/-- R565, R567: the apply of a host group is validated; a refused one keeps its staging, and the set of one that stands commits at the
end of the line. -/
def HostSide.groupApply (h : HostSide) (gid : Nat) : HostSide × Nat × List (Nat × Word) :=
  let e := h.groupErr gid
  if e = 0 then ({ h with radio := h.radio.unstage gid }, 0, h.radio.groupSet gid) else (h, e, [])

/-! ### The packet on air (R643, R644, R667) -/

/-- The PHR: bit 0 first on air; MS, two reserved bits, FCS type, whitening, then the length, most significant bit first
(IEEE 802.15.4g; PRESUMED, unsafe: notes/assumptions/30.md). -/
def phrOf (fcst dw : Bool) (len : Nat) : BitVec 16 :=
  BitVec.ofNat 16 (fcst.toNat * 8 + dw.toNat * 16 + ((List.range 11).map fun j => (len / 2 ^ (10 - j) % 2) * 2 ^ (5 + j)).sum)

/-- The frame length that a PHR carries. -/
def phrLen (p : BitVec 16) : Nat := ((List.range 11).map fun j => (p.getLsbD (5 + j)).toNat * 2 ^ (10 - j)).sum

/-- Eight bits of PN9, least significant first on air, and the state after them: x^9 + x^5 + 1 (PRESUMED, unsafe: notes/assumptions/30.md). -/
def pn9Bits : Nat → BitVec 9 → Nat × BitVec 9
  | 0, s => (0, s)
  | k + 1, s =>
    let b := s.getLsbD 0 != s.getLsbD 4
    let r := pn9Bits k ((s >>> 1) ||| (BitVec.ofNat 9 (b.toNat * 256)))
    (b.toNat + 2 * r.1, r.2)

def whitenFrom : BitVec 9 → List Byte → List Byte
  | _, [] => []
  | s, b :: bs =>
    let r := pn9Bits 8 s
    (b ^^^ BitVec.ofNat 8 r.1) :: whitenFrom r.2 bs

/-- PN9 whitening of a PSDU, and its inverse. -/
def whiten (bs : List Byte) : List Byte := whitenFrom 0x1FF#9 bs

/-- Symbols on air of a PSDU of `n` octets (section 2.1; the code doubles PHR and PSDU), and whether they last 1 ms or
more (R664). -/
def Radio.longPacket (r : Radio) (n : Nat) : Bool :=
  let data := 16 + 8 * n
  let bits := 8 * fieldOf r.frm 0 10 + 16 + (if fieldOf r.phy 5 2 = 0 then data else 2 * data)
  let syms := if bitOf r.phy 0 then (bits + 1) / 2 else bits
  decide (50 * (fieldOf r.phy 1 2 + 1) ≤ syms)

/-! ### Transmitting (R654 to R666, R672 to R676) -/

/-- A result of the 16 most recent transmit ids (R662). -/
def Radio.putResult (r : Radio) (id : Byte) (x : TxResult) (st : Option HStamp) : Radio :=
  { r with results := r.results.map fun e => if e.1 = id then (id, x, st) else e }

/-- A transmission is accepted: it takes the next id.
DEDUCED, safe: notes/assumptions/15.md. -/
def Radio.newTx (r : Radio) (psdu : List Byte) (job : Option Nat) : Radio :=
  { r with
    tx := some ⟨r.nextTx, psdu, 0, job, .bank, r.st, 0, 0, none, false⟩, txid := r.nextTx, nextTx := r.nextTx + 1,
    results := ((r.nextTx, .pending, none) :: r.results.filter fun e => e.1 ≠ r.nextTx).take 16 }

/-- R650, Table 18-5: the states in which a transmission is refused. -/
def Radio.noTx (r : Radio) : Bool := r.st = .sleep || r.st = .idle || r.st = .synth

/-- The PSDU is cut short or done: the radio returns to the state the transmission came from (R658, R673). -/
def HostSide.txReturn (h : HostSide) (t : TxPend) : HostSide :=
  let h := { h with radio := { h.radio with tx := none, cxPri := false } }
  if t.prior = .rx then h.rfTo .rx
  else HostSide.rfTo { h with radio := { h.radio with cxReq := false } } .stby

/-- A transmission ends with a result (R662), and its job with it (Table 18-6). -/
def HostSide.txEnd (h : HostSide) (t : TxPend) (x : TxResult) (stamp : Option HStamp) : HostSide :=
  let h := { h with radio := h.radio.putResult t.id x stamp }.txReturn t
  match t.job with
  | none => h
  | some i =>
    let h := h.putJob i fun j => { j with
      lines := j.lines ++ [commas [txt "+T", decText t.id.toNat, x.name]] }
    match x with
    | .sent => h.endJob i 3 0
    | .unlock => h.endJob i 5 70
    | .cancelled => h.endJob i 6 0
    | .pending => h
    | _ => h.endJob i 5 71

/-- The stamp of a packet that was cut short: whether its SFD had left RFO is open (DESIGN CHOICE, safe: notes/assumptions/31.md). -/
def HostSide.cutStamp (h : HostSide) (t : TxPend) : Option HStamp :=
  if t.phase = .air && h.free.getLsbD 31 then some (h.stampAt (h.free.toNat % 2 ^ 27)) else none

/-- The correction kept for an entry, in 0.1 dB (R664). -/
def Radio.corrOf (r : Radio) (entry : Nat) : Int := ((r.corr.find? fun e => e.1 = entry).map (·.2)).getD 0

/-- R658 step 2, R659, R664, R665: the transition into TX starts. -/
def HostSide.txStart (h : HostSide) (t : TxPend) (htemp : Byte) (vpa : Nat) : HostSide :=
  let r := h.radio
  let want := fieldOf r.pa 0 6
  let clip := decide (vpa < 3000) && decide (47 < want)
  let entry := if clip then 47 else want
  let dw := bitOf r.frm 11
  let air := (phrOf (bitOf r.frm 12) dw t.psdu.length, if dw then whiten t.psdu else t.psdu)
  let due := match r.vpaCal with
    | some v => decide (v + 100 < vpa) || decide (vpa + 100 < v)
    | none => false
  let h := { h with radio := { r with
    tx := some { t with phase := .air, entry := entry, comp := fieldOf r.pa 8 2, air := some air }, htemp := htemp, vpaMv := BitVec.ofNat 12 vpa,
    lastEntry := entry, calPa := if due then ⟨some h.hf, r.calPa.run1⟩ else r.calPa } }
  let h := (h.domain 51).rfTo .tx
  if clip then h.rfErr 4 else h

/-- The request instant t_q (R657, R658 step 1, R673). -/
def HostSide.txRequest (h : HostSide) (t : TxPend) (htemp : Byte) (vpa : Nat) : HostSide :=
  let r := h.radio
  if r.cxEn then { h with radio := { r with tx := some { t with phase := .sample }, cxReq := true, cxPri := r.cxPriCfg } }
  else h.txStart t htemp vpa

/-- Octets that the TX buffer banks can hold ahead of the modulator (R655). -/
def txBank : Nat := 512

/-- RF_SERVICE_SLICE (R654, R655): octets move into the TX buffer banks; with the first bank filled and no packet being
received, the request instant has come (R657); a retune under way ends first. -/
def HostSide.rfService (h : HostSide) (htemp : Byte) (vpa : Nat) : HostSide :=
  match h.radio.tx with
  | none => h
  | some t =>
    let t := { t with moved := min t.psdu.length (t.moved + txBank) }
    let h := { h with radio := { h.radio with tx := some t } }
    let h := match t.job with
      | some i => h.putJob i fun j => j.shows t.moved t.psdu.length
      | none => h
    if t.phase = .bank && h.radio.rxNow.isNone && h.radio.goal.isNone then h.txRequest t htemp vpa else h

/-- CX_GRANT_SAMPLE (R673, R674, R678). -/
def HostSide.cxSample (h : HostSide) (level : Bool) (htemp : Byte) (vpa : Nat) : HostSide × Option Nat :=
  let r := h.radio
  if r.rxAsk then
    let h := { h with radio := { r with rxAsk := false } }
    if level then (h, none)
    else
      let h := (h.cxRelease.rfCount cCxRxDeny).setBit sbCxDeny
      (HostSide.rfTo { h with radio := { h.radio with goal := none } } .stby, some 71)
  else match r.tx with
    | some t =>
      if t.phase ≠ .sample then (h, none)
      else if level then (h.txStart t htemp vpa, none)
      else (HostSide.rfTo { h with radio := { r with tx := some { t with phase := .wait } } } .txwait, none)
    | none => (h, none)

/-- CX_GRANT_RISE (R674, R679). -/
def HostSide.cxRise (h : HostSide) (htemp : Byte) (vpa : Nat) : HostSide :=
  let h := { h with radio := { h.radio with susp := false } }
  match h.radio.tx with
  | some t =>
    if t.phase ≠ .wait then h
    else if h.radio.rxNow.isSome then { h with radio := { h.radio with tx := some { t with resample := true } } }
    else h.txStart t htemp vpa
  | none => h

/-- R679: reception is suspended. -/
def HostSide.cxSuspend (h : HostSide) : HostSide :=
  let r := h.radio
  if r.st = .rx && !r.listen && !r.susp then
    let h := h.rfDrop
    (HostSide.rfCount { h with radio := { h.radio with susp := true } } cCxRxDeny).setBit sbCxDeny
  else h

/-- CX_GRANT_FALL (R676, R677, R679). -/
def HostSide.cxFall (h : HostSide) : HostSide :=
  let r := h.radio
  if !r.cxEn then h
  else match r.tx with
    | some t =>
      if t.phase = .air then (((h.txEnd t .cxAbort (h.cutStamp t)).freeNext).rfCount cCxAbort).setBit sbCxDeny else h.cxSuspend
    | none => h.cxSuspend

/-- CX_TIMEOUT (R675): `TIMEOUT` runs from the first sample, whether or not the grant is being sampled again. -/
def HostSide.cxTimeout (h : HostSide) : HostSide :=
  match h.radio.tx with
  | some t => if t.phase = .wait || (t.phase = .sample && h.radio.st = .txwait) then ((h.txEnd t .txDenied none).rfCount cTxDeny).setBit sbCxDeny else h
  | none => h

/-- A value limited to ±`n`. -/
def clampInt (n : Nat) (x : Int) : Int := if x < -(n : Int) then -(n : Int) else if (n : Int) < x then n else x

/-- R659, R664: the correction of an entry after a packet sent in mode `LOOP` whose measured output was off by `e` (0.1 dB).
DEDUCED, unsafe: notes/assumptions/71.md. -/
def Radio.learnPower (r : Radio) (t : TxPend) (e : Int) : Radio :=
  if t.comp = 2 && r.longPacket t.psdu.length then
    { r with corr := (t.entry, clampInt 20 (r.corrOf t.entry - clampInt 5 e)) :: r.corr.filter fun x => x.1 ≠ t.entry }
  else r

/-- RF_TX_END (R658 to R660, R662, R664). -/
def HostSide.rfTxDone (h : HostSide) (offset : Nat) (e : Int) : HostSide :=
  match h.radio.tx with
  | some t =>
    if t.phase ≠ .air then h
    else
      let h := { h with radio := h.radio.learnPower t e }
      (h.txEnd t .sent (some (h.stampAt offset))).rfCount cTxOk
  | none => h

/-- SYNTH_UNLOCK (R652): after the band search the radio is back in the state it was in; a packet that waits for its grant keeps
waiting (DEDUCED, unsafe: notes/assumptions/71.md). -/
def HostSide.rfUnlock (h : HostSide) (lock : Byte) : HostSide :=
  let r := h.radio
  if !(r.st = .stby || r.st = .rx || r.st = .txwait || r.st = .tx) then h
  else
    let h : HostSide := match r.tx with
      | some t => if t.phase = .air then (h.txEnd t .unlock (h.cutStamp t)).freeNext else h
      | none => h
    let h := h.rfDrop
    let h := { h with radio := { h.radio with lockT := lock }, domNow := h.domNow ||| RfSt.synth.domains }
    (h.rfErr 0).rfCount cUnlock

/-- R661: `JOB.CANCEL` of an RFTX job. -/
def HostSide.rfCancel (h : HostSide) (i : Nat) : HostSide :=
  match h.radio.tx with
  | some t => if t.job = some i then (h.txEnd t .cancelled (h.cutStamp t)).freeNext else h
  | none => h

/-! ### Receiving (R657, R667 to R671) -/

/-- The receive chain runs: in RX, or in TXWAIT entered from RX (R674). -/
def Radio.receives (r : Radio) : Bool :=
  !r.susp && (r.st = .rx || (r.st = .txwait && (match r.tx with | some t => decide (t.prior = .rx) | none => false)))

/-- RF_SFD_DETECT (R669). -/
def HostSide.rfSfd (h : HostSide) (offset : Nat) : HostSide :=
  if h.radio.receives && h.radio.rxNow.isNone then { h with radio := { h.radio with rxNow := some (h.stampAt offset) } } else h

def Radio.octets (r : Radio) : Nat := (r.rxq.map fun p => p.psdu.length).sum

/-- R667, R668: a packet is admitted or discarded. -/
def HostSide.rfAdmit (h : HostSide) (s : HStamp) (p : RxFrame) : HostSide :=
  let r := h.radio
  let len := phrLen p.phr
  if p.phr.getLsbD 0 then HostSide.rfCount { h with radio := { r with phr := p.phr } } cMsw
  else if len = 0 then h.rfCount cPhrBad
  else if 8 < r.rxq.length + 1 || 4096 < r.octets + len then (h.rfCount cRxDrop).rfErr 3
  else
    let raw := p.psdu.take len
    let q : RxPkt := ⟨r.nextRx, s, p.phr.getLsbD 3, p.rssi, if p.phr.getLsbD 4 then whiten raw else raw⟩
    HostSide.rfCount { h with radio := { r with rxq := r.rxq ++ [q], nextRx := r.nextRx + 1, marks := (r.nextRx, s) :: r.marks } } cRxOk

/-- RF_PACKET_END (R667, R674: a transmission that waited for the last symbol samples again). -/
def HostSide.rfPacketEnd (h : HostSide) (p : RxFrame) : HostSide :=
  match h.radio.rxNow with
  | none => h
  | some s =>
    let h := HostSide.rfAdmit { h with radio := { h.radio with rxNow := none } } s p
    match h.radio.tx with
    | some t =>
      if t.phase = .wait && t.resample then
        { h with radio := { h.radio with tx := some { t with phase := .sample, resample := false } } }
      else h
    | none => h

/-! ### Calibration items 0x07 and 0x08 (R457 to R462, R476, R477, R486, R487, R681) -/

def Radio.calOf (r : Radio) (item : CalItem) : RfCal := if item = .iq then r.calIq else r.calPa
def Radio.setCal (r : Radio) (item : CalItem) (c : RfCal) : Radio :=
  if item = .iq then { r with calIq := c } else { r with calPa := c }

/-- Codes of Table 13-1. -/
def rfItemCode (item : CalItem) : Nat := if item = .iq then 7 else 8

/-- The job slots that ask for a radio item. -/
def HostSide.rfCalJobs (h : HostSide) (item : CalItem) : List Nat :=
  h.slotsOf fun i => match i with | .rfCal it => decide (it = item) | _ => false

/-- R457: the tolerance of a radio item, 1 dB in 0.1 dB (DESIGN CHOICE, unsafe: notes/assumptions/32.md). -/
def rfCalTol : Nat := 10

/-- The verdict on two runs, in 0.1 dB. -/
def HostSide.rfVerdict (h : HostSide) (item : CalItem) (a b : Int) : HostSide :=
  let ok := decide ((a - b).natAbs ≤ rfCalTol)
  let h := { h with radio := h.radio.setCal item ⟨some (h.hf + 38400), none⟩ }
  let r := h.radio
  let h : HostSide :=
    if ok then
      { h with radio :=
          if item = .iq then { r with irr := BitVec.ofInt 8 (roundDiv (a + b) 20), rej7 := 0#4 }
          else { r with detErr := BitVec.ofInt 8 (roundDiv (a + b) 2), rej8 := 0#4, vpaCal := some r.vpaMv.toNat } }
    else
      let x := (if item = .iq then r.rej7 else r.rej8)
      let n := satAdd x 1
      let h := HostSide.rfCount { h with radio := if item = .iq then { r with rej7 := n } else { r with rej8 := n } } cCalRej
      if x = 2#4 then h.rfErr (if item = .iq then 1 else 2) else h
  let line := commas [('+' :: hexText 2 (rfItemCode item)), txt "0", txt (if ok then "A" else "R"), intText (roundDiv b 10),
    intText (roundDiv ((a - b).natAbs : Int) 10)]
  (h.rfCalJobs item).foldl (fun h i =>
    (h.putJob i fun j => { j with lines := j.lines ++ [line] }).endJob i (if ok then 3 else 4) 0) h

/-- RF_CAL_SLICE: one run of an item that is due or asked for, in IDLE, STBY or RX without a packet.
DESIGN CHOICE, safe: notes/assumptions/70.md. -/
def HostSide.rfCalSlice (h : HostSide) (item : CalItem) (run : Int) (second : Bool) : HostSide :=
  let r := h.radio
  let c := r.calOf item
  let place := r.st = .idle || r.st = .stby || (r.st = .rx && r.rxNow.isNone)
  let due := match c.due with | some d => decide (d ≤ h.hf) | none => false
  let want := due || !(h.rfCalJobs item).isEmpty
  if !(item = .iq || item = .pa) || !place || r.goal.isSome || r.tx.isSome then h
  else match c.run1, second with
    | none, false =>
      if want then
        let h := { h with radio := r.setCal item ⟨c.due, some run⟩ }
        (h.rfCalJobs item).foldl (fun h i => h.putJob i fun j => { j with st := 2 }) h
      else h
    | some a, true => h.rfVerdict item a run
    | _, _ => h

/-! ### Registers of Table 18-8 -/

/-- `RSSI_NOW` (R670): −128 outside RX; in RX the level is open. -/
def HostSide.rssiNow (h : HostSide) : Byte :=
  if h.radio.st = .rx then BitVec.ofInt 8 (-120 + (h.free.toNat % 111 : Nat)) else 0x80#8

def Radio.rfPm (r : Radio) : Word :=
  BitVec.ofNat 32 (r.htemp.toNat + 2 ^ 8 * r.vpaMv.toNat + 2 ^ 20 * (BitVec.ofInt 8 (r.corrOf r.lastEntry)).toNat)

def Radio.rfCalq (r : Radio) : Word :=
  BitVec.ofNat 32 (r.irr.toNat + 2 ^ 8 * r.detErr.toNat + 2 ^ 16 * r.lockT.toNat + 2 ^ 24 * r.rej7.toNat + 2 ^ 28 * r.rej8.toNat)

/-- `RF_ST`; whether a preamble is detected while the receiver searches is open. -/
def HostSide.rfSt (h : HostSide) : Word :=
  let r := h.radio
  let locked := r.st = .stby || r.st = .rx || r.st = .tx || r.st = .txwait
  let pdet := r.rxNow.isSome || (r.receives && h.free.getLsbD 0)
  BitVec.ofNat 32 (r.st.code + 16 * pdet.toNat + 32 * r.rxNow.isSome.toNat + 64 * locked.toNat + 128 * r.tx.isSome.toNat +
    2 ^ 8 * r.txid.toNat + 2 ^ 16 * r.rxq.length)

/-- Two counters in one register. -/
def Radio.cntWord (r : Radio) (i : Nat) : Word :=
  BitVec.ofNat 32 ((r.cnt[2 * i]?.getD 0#16).toNat + 2 ^ 16 * (r.cnt[2 * i + 1]?.getD 0#16).toNat)

end Sys2Proof.Machine
end

