-- ==== Sys2Proof/Machine/RegTable.lean ====
section
/-! DEFINITION. Sys2Proof/Machine/RegTable.lean: the registers and fields of revision A1 as the Layout Table lists them (19_layout_table.md
Tables 19-4 and 19-5, types 3 and 4; 20_register_map.md Tables 20-2 to 20-4 and the field maps that they name), by rising address. -/

namespace Sys2Proof.Machine

/-- A field of a register: its name, low bit, width, access code, reset or cold-start value (none: the part's fuses or its table's
length), the bits of `FFLAGS` that the spec determines (0 signed, 1 BCD, 2 enum names, 3 further checks, 4 kept, 5 restored, 6 counter),
and the range that its map states. -/
structure RField where
  name : Text
  lo : Nat
  width : Nat
  acc : Nat
  reset : Option Nat
  flags : Nat
  range : Option (Nat × Nat)
  deriving DecidableEq, Repr

/-- A register: its name, address, access code (0 RO, 1 RW, 2 W1C, 3 WO, 4 RS, 5 ST, 15 mixed), reset or cold-start value, `RFLAGS`,
the `GID` of the group whose staging or apply bit it holds, and its fields by rising low bit. -/
structure RReg where
  name : Text
  addr : Nat
  acc : Nat
  reset : Option Nat
  rflags : Nat
  gid : Nat
  fields : List RField
  deriving DecidableEq, Repr

def fld (n : Text) (lo w a : Nat) (r : Option Nat) (fl : Nat) : RField := ⟨n, lo, w, a, r, fl, none⟩
def fldR (n : Text) (lo w a : Nat) (r : Option Nat) (fl min max : Nat) : RField := ⟨n, lo, w, a, r, fl, some (min, max)⟩

/-- The host core window (Table 20-2). -/
def regsHost1 : List RReg :=
  [⟨txt "IDENT", 0x0000, 0, (some 0x56A17120), 0, 0,
    [fld (txt "PART") 0 16 0 (some 0x7120) 0, fld (txt "REV") 16 8 0 (some 0xa1) 0, fld (txt "FAMILY") 24 8 0 (some 0x56) 0]⟩,
   ⟨txt "TBL_PTR", 0x0004, 0, none, 16, 0,
    [fld (txt "LEN") 0 20 0 none 0, fld (txt "VER") 20 8 0 (some 1) 0, fld (txt "OVL") 28 1 0 (some 0) 0,
     fld (txt "OVL_BAD") 29 1 0 (some 0) 0, fld (txt "SERVE") 31 1 0 (some 0) 0]⟩,
   ⟨txt "STATUS", 0x0010, 0, (some 0x80000000), 16, 0,
    [fld (txt "ATTN") 0 1 2 (some 0) 0, fld (txt "SEAL_KEY") 1 1 0 (some 0) 0, fld (txt "NVM_ERR") 2 1 2 (some 0) 0,
     fld (txt "OVERRUN") 3 1 2 (some 0) 0, fld (txt "HOLDOVER_LONG") 4 1 0 (some 0) 0, fld (txt "TIME_INVALID") 5 1 0 (some 0) 0,
     fld (txt "KEEP_LOST") 6 1 2 (some 0) 0, fld (txt "PERIOD") 7 1 2 (some 0) 0, fld (txt "BATLOW") 8 1 0 (some 0) 0,
     fld (txt "LINE_STUCK") 9 1 2 (some 0) 0, fld (txt "TEST_FAIL") 10 1 2 (some 0) 0, fld (txt "CAL_REJ") 11 1 2 (some 0) 0,
     fld (txt "JRN_RO") 12 1 0 (some 0) 0, fld (txt "SPARE_LOW") 13 1 0 (some 0) 0, fld (txt "CX_DENY") 14 1 2 (some 0) 0,
     fld (txt "RFERR") 15 1 2 (some 0) 0, fld (txt "RFQ") 16 1 0 (some 0) 0, fld (txt "JOB_BUSY") 17 1 0 (some 0) 0,
     fld (txt "JOB_DONE") 18 1 2 (some 0) 0, fld (txt "PROBE") 19 1 0 (some 0) 0, fld (txt "TSTALE") 20 1 0 (some 0) 0,
     fld (txt "EVOVF") 21 1 2 (some 0) 0, fld (txt "EVQ") 22 1 0 (some 0) 0, fld (txt "AL2F") 23 1 2 (some 0) 0,
     fld (txt "AL1F") 24 1 2 (some 0) 0, fld (txt "STEPPED") 25 1 2 (some 0) 0, fld (txt "TREF") 26 2 0 (some 0) 0,
     fld (txt "FSUP") 28 2 0 (some 0) 4, fld (txt "LINK") 30 1 0 (some 0) 0, fld (txt "READY") 31 1 0 (some 1) 0]⟩,
   ⟨txt "ST_CLR", 0x0014, 3, (some 0), 16, 0,
    [fld (txt "ST_CLR") 0 32 3 (some 0) 0]⟩,
   ⟨txt "ATTN_MASK", 0x0018, 1, (some 0), 16, 0,
    [fld (txt "ATTN_MASK") 0 32 1 (some 0) 0]⟩,
   ⟨txt "ATTN_SRC", 0x001C, 0, (some 0), 16, 0,
    [fld (txt "ATTN_SRC") 0 4 0 (some 0) 0]⟩]

/-- The host core window (Table 20-2). -/
def regsHost2 : List RReg :=
  (List.range 4).map fun i => ⟨txt "JOB" ++ decText i ++ txt "_ST", 0x0020 + 4 * i, 0, (some 0), 16, 0,
    [fld (txt "STATE") 0 3 0 (some 0) 0, fld (txt "KIND") 4 4 0 (some 0) 0, fld (txt "PROG") 8 7 0 (some 0) 0,
     fld (txt "ERR") 16 8 0 (some 0) 0, fld (txt "JSEQ") 24 8 0 (some 0) 0]⟩

/-- The host core window (Table 20-2). -/
def regsHost3 : List RReg :=
  (List.range 4).map fun i => ⟨txt "JOB" ++ decText i ++ txt "_CNT", 0x0030 + 4 * i, 0, (some 0), 16, 0,
    [fld ((txt "JOB" ++ decText i ++ txt "_CNT")) 0 32 0 (some 0) 0]⟩

/-- The host core window (Table 20-2). -/
def regsHost4 : List RReg :=
  [⟨txt "UART_BAUD", 0x0040, 1, (some 0x0001C200), 16, 0,
    [fldR (txt "BAUD") 0 22 1 (some 0x1c200) 0 9600 3000000]⟩,
   ⟨txt "CL_CFG", 0x0044, 1, (some 0), 16, 0,
    [fld (txt "MMODE") 0 1 1 (some 0) 0, fld (txt "RCHK") 1 1 1 (some 0) 0]⟩,
   ⟨txt "CL_STAT", 0x0048, 0, (some 0x00000100), 16, 0,
    [fld (txt "WAIT") 0 4 0 (some 0) 0, fld (txt "RX_EN") 8 1 0 (some 1) 0, fld (txt "RX_LOW") 9 1 0 (some 0) 0,
     fld (txt "TAGS") 16 6 0 (some 0) 0]⟩,
   ⟨txt "UART_CNT0", 0x0050, 2, (some 0), 16, 0,
    [fld (txt "FRM") 0 16 2 (some 0) 0x40, fld (txt "BRK") 16 16 2 (some 0) 0x40]⟩,
   ⟨txt "UART_CNT1", 0x0054, 2, (some 0), 16, 0,
    [fld (txt "STUCK") 0 16 2 (some 0) 0x40, fld (txt "RX_EARLY") 16 16 2 (some 0) 0x40]⟩,
   ⟨txt "UART_CNT2", 0x0058, 2, (some 0), 16, 0,
    [fld (txt "CHK") 0 16 2 (some 0) 0x40]⟩,
   ⟨txt "BARH_CNT0", 0x0060, 2, (some 0), 16, 0,
    [fld (txt "CRC_FH") 0 16 2 (some 0) 0x40, fld (txt "RETRY_H") 16 16 2 (some 0) 0x40]⟩,
   ⟨txt "BARH_CNT1", 0x0064, 2, (some 0), 16, 0,
    [fld (txt "DUP_H") 0 16 2 (some 0) 0x40, fld (txt "TRAIN_FAIL") 16 16 2 (some 0) 0x40]⟩,
   ⟨txt "BARH_CNT2", 0x0068, 2, (some 0), 16, 0,
    [fld (txt "LINK_LOST") 0 16 2 (some 0) 0x40]⟩,
   ⟨txt "PPS_CTL", 0x0070, 15, (some 0), 16, 0,
    [fld (txt "STAMP") 0 1 1 (some 0) 0, fld (txt "NSTAMP") 1 3 0 (some 0) 0, fld (txt "PPS_CNT") 16 16 2 (some 0) 0x40]⟩,
   ⟨txt "LINK_STAT", 0x0074, 0, (some 0x0000FF00), 16, 0,
    [fld (txt "TRAIN") 0 1 0 (some 0) 0, fld (txt "MIR_OK") 1 1 0 (some 0) 0, fld (txt "AWAKE") 2 1 0 (some 0) 0,
     fld (txt "SINCE_TICK") 8 8 0 (some 0xff) 0]⟩]

/-- The host core window (Table 20-2). -/
def regsHost5 : List RReg :=
  [⟨txt "TSTH_CFG", 0x0100, 1, (some 0x08000001), 16, 0,
    [fld (txt "ROT_EN") 0 1 1 (some 1) 0, fldR (txt "PACE") 16 16 1 (some 0x800) 0 64 65535]⟩,
   ⟨txt "TSTH_STAT", 0x0104, 0, (some 0x00000D00), 16, 0,
    [fld (txt "DONE") 0 6 0 (some 0) 0, fld (txt "TOTAL") 8 6 0 (some 0xd) 0, fld (txt "JOB") 14 1 0 (some 0) 0,
     fld (txt "ROT") 16 16 0 (some 0) 0]⟩,
   ⟨txt "TSTH_LAST", 0x0108, 15, (some 0), 16, 0,
    [fld (txt "LAST_CODE") 0 8 0 (some 0) 0, fld (txt "LAST_IDX") 8 8 0 (some 0) 0, fld (txt "FAILS") 16 16 2 (some 0) 0x40]⟩,
   ⟨txt "OVR_CNTH", 0x010C, 2, (some 0), 16, 0,
    [fld (txt "OVR_H") 0 16 2 (some 0) 0x40]⟩]

/-- The host core window (Table 20-2). -/
def regsHost6 : List RReg :=
  (List.range 56).map fun i => ⟨txt "DOMH_ON" ++ decText i, 0x0200 + 4 * i, 2, (some 0), 16, 0,
    [fld ((txt "DOMH_ON" ++ decText i)) 0 32 2 (some 0) 0x40]⟩

/-- The radio window (Table 20-3). -/
def regsRadio1a : List RReg :=
  [⟨txt "RF_ST", 0x0400, 0, (some 0), 16, 0,
    [fld (txt "STATE") 0 4 0 (some 0) 0, fld (txt "PDET") 4 1 0 (some 0) 0, fld (txt "RXPKT") 5 1 0 (some 0) 0,
     fld (txt "LOCK") 6 1 0 (some 0) 0, fld (txt "TXPEND") 7 1 0 (some 0) 0, fld (txt "TXID") 8 8 0 (some 0) 0,
     fld (txt "QCNT") 16 8 0 (some 0) 0]⟩,
   ⟨txt "RF_CH", 0x0404, 15, (some 0), 16, 9,
    [fldR (txt "FCODE") 0 25 5 (some 0) 0 21271893 26214400, fld (txt "APPLY") 31 1 3 (some 0) 0]⟩,
   ⟨txt "RF_PHY", 0x0408, 15, (some 0x00000008), 16, 10,
    [fld (txt "FSK4") 0 1 5 (some 0) 0, fld (txt "RATE") 1 2 5 (some 0) 0, fld (txt "HIDX") 3 1 5 (some 1) 0,
     fld (txt "GBT") 4 1 5 (some 0) 0, fldR (txt "FEC") 5 2 5 (some 0) 0 0 2, fld (txt "APPLY") 31 1 3 (some 0) 0]⟩,
   ⟨txt "RF_FRM", 0x040C, 5, (some 0x00000808), 16, 10,
    [fldR (txt "PRE") 0 10 5 (some 8) 0 4 1000, fld (txt "SFDC") 10 1 5 (some 0) 0, fld (txt "DW") 11 1 5 (some 1) 0,
     fld (txt "FCST") 12 1 5 (some 0) 0]⟩,
   ⟨txt "RF_PA", 0x0410, 15, (some 0x00000200), 16, 11,
    [fld (txt "IDX") 0 6 5 (some 0) 0, fldR (txt "COMP") 8 2 5 (some 2) 0 0 2, fld (txt "APPLY") 31 1 3 (some 0) 0]⟩,
   ⟨txt "RF_CX", 0x0414, 1, (some 0x00640284), 16, 0,
    [fld (txt "CX_EN") 0 1 1 (some 0) 0, fld (txt "PRI") 1 1 1 (some 0) 0, fld (txt "LISTEN") 2 1 1 (some 1) 0,
     fldR (txt "LEAD") 4 9 1 (some 0x28) 0 10 500, fldR (txt "TIMEOUT") 16 10 1 (some 0x64) 0 1 1000]⟩,
   ⟨txt "RSSI_NOW", 0x0418, 0, (some 0x00000080), 16, 0,
    [fld (txt "RSSI_NOW") 0 8 0 (some 0x80) 1]⟩,
   ⟨txt "RF_PM", 0x041C, 0, (some 0), 16, 0,
    [fld (txt "HTEMP") 0 8 0 (some 0) 1, fld (txt "VPA_MV") 8 12 0 (some 0) 0, fld (txt "PCORR") 20 8 0 (some 0) 1]⟩,
   ⟨txt "RF_ERR", 0x0420, 2, (some 0), 16, 0,
    [fld (txt "UNLOCK") 0 1 2 (some 0) 0, fld (txt "CALFLT7") 1 1 2 (some 0) 0, fld (txt "CALFLT8") 2 1 2 (some 0) 0,
     fld (txt "RXOVF") 3 1 2 (some 0) 0, fld (txt "PCLIP") 4 1 2 (some 0) 0]⟩,
   ⟨txt "RF_CALQ", 0x0424, 0, (some 0), 16, 0,
    [fld (txt "IRR") 0 8 0 (some 0) 0, fld (txt "DETERR") 8 8 0 (some 0) 1, fld (txt "LOCKT") 16 8 0 (some 0) 0,
     fld (txt "REJ7") 24 4 0 (some 0) 0, fld (txt "REJ8") 28 4 0 (some 0) 0]⟩,
   ⟨txt "RF_PHR", 0x0428, 0, (some 0), 16, 0,
    [fld (txt "PHR") 0 16 0 (some 0) 0]⟩,
   ⟨txt "RF_CNT0", 0x0440, 2, (some 0), 16, 0,
    [fld (txt "RX_OK") 0 16 2 (some 0) 0x40, fld (txt "RX_DROP") 16 16 2 (some 0) 0x40]⟩]

/-- The radio window (Table 20-3). -/
def regsRadio1b : List RReg :=
  [⟨txt "RF_CNT1", 0x0444, 2, (some 0), 16, 0,
    [fld (txt "PHR_BAD") 0 16 2 (some 0) 0x40, fld (txt "MSW") 16 16 2 (some 0) 0x40]⟩,
   ⟨txt "RF_CNT2", 0x0448, 2, (some 0), 16, 0,
    [fld (txt "RX_ABORT") 0 16 2 (some 0) 0x40, fld (txt "TX_OK") 16 16 2 (some 0) 0x40]⟩,
   ⟨txt "RF_CNT3", 0x044C, 2, (some 0), 16, 0,
    [fld (txt "TX_DENY") 0 16 2 (some 0) 0x40, fld (txt "CX_ABORT") 16 16 2 (some 0) 0x40]⟩,
   ⟨txt "RF_CNT4", 0x0450, 2, (some 0), 16, 0,
    [fld (txt "CX_RXDENY") 0 16 2 (some 0) 0x40, fld (txt "UNLOCK") 16 16 2 (some 0) 0x40]⟩,
   ⟨txt "RF_CNT5", 0x0454, 2, (some 0), 16, 0,
    [fld (txt "CALREJ") 0 16 2 (some 0) 0x40]⟩]

/-- The field window: time (Tables 6-1, 6-3, 6-4). -/
def regsTime1a : List RReg :=
  [⟨txt "SEC", 0x1000, 4, (some 0), 9, 0,
    [fld (txt "SEC") 0 8 4 (some 0) 0x12]⟩,
   ⟨txt "MIN", 0x1004, 4, (some 0), 9, 0,
    [fld (txt "MIN") 0 8 4 (some 0) 0x12]⟩,
   ⟨txt "HOUR", 0x1008, 4, (some 0), 9, 0,
    [fld (txt "HOUR") 0 8 4 (some 0) 0x12]⟩,
   ⟨txt "DOW", 0x100C, 4, (some 0x00000006), 9, 0,
    [fld (txt "DOW") 0 8 4 (some 6) 0x12]⟩,
   ⟨txt "DATE", 0x1010, 4, (some 0x00000001), 9, 0,
    [fld (txt "DATE") 0 8 4 (some 1) 0x12]⟩,
   ⟨txt "MONTH", 0x1014, 4, (some 0x00000001), 9, 0,
    [fld (txt "MONTH") 0 8 4 (some 1) 0x12]⟩,
   ⟨txt "YEAR", 0x1018, 4, (some 0), 9, 0,
    [fld (txt "YEAR") 0 8 4 (some 0) 0x12]⟩,
   ⟨txt "CENT", 0x101C, 4, (some 0x00000020), 9, 0,
    [fld (txt "CENT") 0 8 4 (some 0x20) 0x12]⟩,
   ⟨txt "FRAME", 0x1020, 4, (some 0), 9, 0,
    [fld (txt "FRAME") 0 6 4 (some 0) 0x10]⟩,
   ⟨txt "TIME_LO", 0x1024, 4, (some 0), 9, 0,
    [fld (txt "TIME_LO") 0 32 4 (some 0) 0x10]⟩,
   ⟨txt "TIME_HI", 0x1028, 4, (some 0), 9, 0,
    [fld (txt "TIME_HI") 0 4 4 (some 0) 0x10]⟩,
   ⟨txt "TSET_SEC", 0x1040, 5, (some 0), 0, 1,
    [fld (txt "TSET_SEC") 0 8 5 (some 0) 2]⟩]

/-- The field window: time (Tables 6-1, 6-3, 6-4). -/
def regsTime1b : List RReg :=
  [⟨txt "TSET_MIN", 0x1044, 5, (some 0), 0, 1,
    [fld (txt "TSET_MIN") 0 8 5 (some 0) 2]⟩,
   ⟨txt "TSET_HOUR", 0x1048, 5, (some 0), 0, 1,
    [fld (txt "TSET_HOUR") 0 8 5 (some 0) 2]⟩,
   ⟨txt "TSET_DOW", 0x104C, 5, (some 0), 0, 1,
    [fld (txt "TSET_DOW") 0 8 5 (some 0) 2]⟩,
   ⟨txt "TSET_DATE", 0x1050, 5, (some 0), 0, 1,
    [fld (txt "TSET_DATE") 0 8 5 (some 0) 2]⟩,
   ⟨txt "TSET_MONTH", 0x1054, 5, (some 0), 0, 1,
    [fld (txt "TSET_MONTH") 0 8 5 (some 0) 2]⟩,
   ⟨txt "TSET_YEAR", 0x1058, 5, (some 0), 0, 1,
    [fld (txt "TSET_YEAR") 0 8 5 (some 0) 2]⟩,
   ⟨txt "TSET_CENT", 0x105C, 5, (some 0), 0, 1,
    [fld (txt "TSET_CENT") 0 8 5 (some 0) 2]⟩,
   ⟨txt "TSET_GO", 0x1060, 3, (some 0), 0, 1,
    [fld (txt "GO") 0 1 3 (some 0) 0]⟩,
   ⟨txt "TSET_STAT", 0x1064, 0, (some 0), 0, 0,
    [fld (txt "FILLED") 0 1 0 (some 0) 0, fld (txt "WMASK") 1 8 0 (some 0) 0, fld (txt "LAST_REJ") 9 1 0 (some 0) 0]⟩,
   ⟨txt "STAMP_SH", 0x1080, 4, (some 0), 9, 0,
    [fld (txt "STAMP_SH") 0 8 4 (some 0) 0x10]⟩,
   ⟨txt "STAMP_SL", 0x1084, 4, (some 0), 9, 0,
    [fld (txt "STAMP_SL") 0 32 4 (some 0) 0x10]⟩,
   ⟨txt "STAMP_FR", 0x1088, 4, (some 0), 9, 0,
    [fld (txt "STAMP_FR") 0 32 4 (some 0) 0x10]⟩]

/-- The field window: time (Tables 6-1, 6-3, 6-4). -/
def regsTime1c : List RReg :=
  [⟨txt "EPOCH", 0x108C, 4, (some 0), 9, 0,
    [fld (txt "EPN") 0 16 4 (some 0) 0x10, fld (txt "ECAUSE") 16 8 4 (some 0) 0x10]⟩,
   ⟨txt "EOFS_SH", 0x1090, 4, (some 0), 9, 0,
    [fld (txt "EOFS_SH") 0 16 4 (some 0) 0x11]⟩,
   ⟨txt "EOFS_SL", 0x1094, 4, (some 0), 9, 0,
    [fld (txt "EOFS_SL") 0 32 4 (some 0) 0x10]⟩,
   ⟨txt "EOFS_FR", 0x1098, 4, (some 0), 9, 0,
    [fld (txt "EOFS_FR") 26 6 4 (some 0) 0x10]⟩,
   ⟨txt "LOCAL", 0x109C, 5, (some 0), 1, 4,
    [fld (txt "LOCAL") 0 8 5 (some 0) 0x11]⟩]

/-- The field window: references and rate (Tables 7-2, 8-5). -/
def regsRef1a : List RReg :=
  [⟨txt "REF_CFG", 0x10C0, 1, (some 0x0000106B), 1, 0,
    [fld (txt "PPS_EN") 0 1 1 (some 1) 0x10, fld (txt "RF_EN") 1 1 1 (some 1) 0x10, fld (txt "RANK") 2 1 1 (some 0) 0x10,
     fld (txt "LEAPSLEW") 3 1 1 (some 1) 0x10, fldR (txt "BW") 4 4 1 (some 6) 0x10 4 10,
     fldR (txt "RF_INT") 8 8 1 (some 0x10) 0x10 1 255]⟩,
   ⟨txt "STEP_LIM", 0x10C4, 1, (some 0x000001F4), 1, 0,
    [fldR (txt "STEP_LIMIT") 0 14 1 (some 0x1f4) 0x10 1 10000]⟩,
   ⟨txt "REF_STAT", 0x10C8, 0, (some 0), 0, 0,
    [fld (txt "HO_FROM") 0 2 0 (some 0) 0, fld (txt "HO") 2 1 0 (some 0) 0, fld (txt "HO_FRM") 3 6 0 (some 0) 0,
     fld (txt "PPS_ST") 9 2 0 (some 0) 0, fld (txt "RF_ST") 11 2 0 (some 0) 0, fld (txt "PPS_RUN") 13 3 0 (some 0) 0,
     fld (txt "RF_RUN") 16 3 0 (some 0) 0, fld (txt "MISS") 19 2 0 (some 0) 0, fld (txt "JRUN") 21 3 0 (some 0) 0,
     fld (txt "SLEW") 24 1 0 (some 0) 0, fld (txt "LEAP") 25 1 0 (some 0) 0]⟩,
   ⟨txt "DISC_RES", 0x10CC, 0, (some 0), 0, 0,
    [fld (txt "DISC_RES") 0 32 0 (some 0) 1]⟩,
   ⟨txt "DISC_RATE", 0x10D0, 0, (some 0), 1, 0,
    [fld (txt "DISC_RATE") 0 32 0 (some 0) 0x11]⟩,
   ⟨txt "SLEW_REM", 0x10D4, 0, (some 0), 1, 0,
    [fld (txt "SLEW_REM") 0 32 0 (some 0) 0x11]⟩,
   ⟨txt "JUMP_OFS", 0x10D8, 0, (some 0), 0, 0,
    [fld (txt "JUMP_OFS") 0 32 0 (some 0) 1]⟩,
   ⟨txt "HOLD_SEC", 0x10DC, 0, (some 0), 1, 0,
    [fld (txt "HOLD_SEC") 0 32 0 (some 0) 0x10]⟩,
   ⟨txt "MARK_CNT", 0x10E0, 2, (some 0), 1, 0,
    [fld (txt "MARK_OK") 0 16 2 (some 0) 0x50, fld (txt "MARK_DROP") 16 16 2 (some 0) 0x50]⟩,
   ⟨txt "RATE_CFG", 0x1100, 1, (some 0x00007400), 1, 0,
    [fld (txt "TRIM_N") 0 9 1 (some 0) 0x11, fldR (txt "TRIM_W") 9 4 1 (some 0xa) 0x10 5 10, fld (txt "COMP_EN") 13 1 1 (some 1) 0x10,
     fld (txt "LRN_EN") 14 1 1 (some 1) 0x10]⟩,
   ⟨txt "COMP_PAR", 0x1104, 1, none, 2, 0,
    [fldR (txt "T0") 0 16 1 none 0x21 0 3200, fld (txt "CURV") 16 16 1 none 0x21]⟩,
   ⟨txt "XL_SEL", 0x1108, 1, none, 2, 0,
    [fld (txt "XL_SEL") 0 32 1 none 0x28]⟩]

/-- The field window: references and rate (Tables 7-2, 8-5). -/
def regsRef1b : List RReg :=
  [⟨txt "COMP_STAT", 0x110C, 0, (some 0), 0, 0,
    [fld (txt "TDIE") 0 16 0 (some 0) 1, fld (txt "FAST") 16 1 0 (some 0) 0, fld (txt "TVALID") 17 1 0 (some 0) 0]⟩,
   ⟨txt "COMP_RATE", 0x1110, 0, (some 0), 0, 0,
    [fld (txt "COMP_RATE") 0 32 0 (some 0) 1]⟩,
   ⟨txt "LRN_STAT", 0x1114, 0, (some 0), 0, 0,
    [fld (txt "LRN_PH") 0 2 0 (some 0) 0, fld (txt "LRN_SEC") 2 8 0 (some 0) 0, fld (txt "LRN_DIFF") 10 16 0 (some 0) 0]⟩,
   ⟨txt "LRN_CNT", 0x1118, 2, (some 0), 1, 0,
    [fld (txt "LRN_OK") 0 16 2 (some 0) 0x50, fld (txt "LRN_REJ") 16 16 2 (some 0) 0x50]⟩,
   ⟨txt "RATE_QS", 0x111C, 15, (some 0x0000FFFF), 1, 0,
    [fld (txt "RATE_Q") 0 16 0 (some 0xffff) 0, fld (txt "LRN_ABT") 16 16 2 (some 0) 0x50]⟩]

/-- The field window: references and rate (Tables 7-2, 8-5). -/
def regsRef2 : List RReg :=
  (List.range 33).map fun i => ⟨txt "LTAB" ++ decText i, 0x1140 + 4 * i, 1, (some 0), 2, 0,
    [fld (txt "LVAL") 0 16 1 (some 0) 0x21, fld (txt "LCONF") 16 4 1 (some 0) 0x20]⟩

/-- The field window: alarms, periods, KEEP and events (Tables 9-4, 10-4). -/
def regsAlarm1a : List RReg :=
  [⟨txt "AL1_TIME", 0x1200, 5, (some 0), 1, 2,
    [fld (txt "SEC") 0 8 5 (some 0) 0x12, fld (txt "MIN") 8 8 5 (some 0) 0x12, fld (txt "HOUR") 16 8 5 (some 0) 0x12,
     fld (txt "DOW") 24 8 5 (some 0) 0x12]⟩,
   ⟨txt "AL1_DATE", 0x1204, 5, (some 0x00000101), 1, 2,
    [fld (txt "DATE") 0 8 5 (some 1) 0x12, fld (txt "MONTH") 8 8 5 (some 1) 0x12, fld (txt "YEAR") 16 8 5 (some 0) 0x12]⟩,
   ⟨txt "AL1_CTL", 0x1208, 15, (some 0x0000007F), 1, 2,
    [fld (txt "MASK") 0 7 5 (some 0x7f) 0x10, fld (txt "ACT") 8 5 5 (some 0) 0x10, fld (txt "EN") 15 1 5 (some 0) 0x10,
     fld (txt "APPLY") 31 1 3 (some 0) 0]⟩,
   ⟨txt "AL1_STAT", 0x120C, 0, (some 0), 1, 0,
    [fld (txt "FIRED") 0 16 0 (some 0) 0x10, fld (txt "LFLAGS") 16 4 0 (some 0) 0x10]⟩,
   ⟨txt "AL2_TIME", 0x1210, 5, (some 0), 1, 3,
    [fld (txt "SEC") 0 8 5 (some 0) 0x12, fld (txt "MIN") 8 8 5 (some 0) 0x12, fld (txt "HOUR") 16 8 5 (some 0) 0x12,
     fld (txt "DOW") 24 8 5 (some 0) 0x12]⟩,
   ⟨txt "AL2_DATE", 0x1214, 5, (some 0x00000101), 1, 3,
    [fld (txt "DATE") 0 8 5 (some 1) 0x12, fld (txt "MONTH") 8 8 5 (some 1) 0x12, fld (txt "YEAR") 16 8 5 (some 0) 0x12]⟩,
   ⟨txt "AL2_CTL", 0x1218, 15, (some 0x0000007F), 1, 3,
    [fld (txt "MASK") 0 7 5 (some 0x7f) 0x10, fld (txt "ACT") 8 5 5 (some 0) 0x10, fld (txt "EN") 15 1 5 (some 0) 0x10,
     fld (txt "APPLY") 31 1 3 (some 0) 0]⟩,
   ⟨txt "AL2_STAT", 0x121C, 0, (some 0), 1, 0,
    [fld (txt "FIRED") 0 16 0 (some 0) 0x10, fld (txt "LFLAGS") 16 4 0 (some 0) 0x10]⟩,
   ⟨txt "PER_EVT", 0x1220, 1, (some 0), 1, 0,
    [fld (txt "PER_EN") 0 4 1 (some 0) 0x10, fld (txt "PER_ACT") 8 5 1 (some 0) 0x10]⟩,
   ⟨txt "TKR_CFG", 0x1224, 1, (some 0x0000003F), 1, 0,
    [fld (txt "TKR_N") 0 24 1 (some 0x3f) 0x10, fld (txt "TKR_EN") 24 1 1 (some 0) 0x10, fld (txt "TKR_ACT") 25 5 1 (some 0) 0x10]⟩,
   ⟨txt "TKR_LEFT", 0x1228, 0, (some 0), 0, 0,
    [fld (txt "TKR_LEFT") 0 24 0 (some 0) 0]⟩,
   ⟨txt "PON_CFG", 0x122C, 1, (some 0x01000102), 1, 0,
    [fld (txt "PONH_MODE") 0 1 1 (some 0) 0x10, fld (txt "PONH_POL") 1 1 1 (some 1) 0x10,
     fldR (txt "PONH_LEN") 8 8 1 (some 1) 0x10 1 255, fld (txt "PONF_MODE") 16 1 1 (some 0) 0x10,
     fld (txt "PONF_LEN") 24 8 1 (some 1) 0x10]⟩]

/-- The field window: alarms, periods, KEEP and events (Tables 9-4, 10-4). -/
def regsAlarm1b : List RReg :=
  [⟨txt "PON_STAT", 0x1230, 2, (some 0), 1, 0,
    [fld (txt "PONH_ON") 0 1 2 (some 0) 0x10, fld (txt "PONF_ON") 1 1 2 (some 0) 0x10]⟩,
   ⟨txt "PER_CFG", 0x1240, 15, (some 0x00000001), 1, 4,
    [fld (txt "DAY_EN") 0 1 5 (some 1) 0x10, fld (txt "EVIN") 8 8 5 (some 0) 0x10, fld (txt "PERB_APPLY") 31 1 3 (some 0) 0]⟩,
   ⟨txt "PER_STAT", 0x1244, 0, (some 0), 1, 0,
    [fld (txt "TRIP_OPEN") 0 1 0 (some 0) 0x10, fld (txt "DAY_INST") 8 8 0 (some 0) 0x10, fld (txt "DAY_OVL") 16 1 0 (some 0) 0x10]⟩]

/-- The field window: alarms, periods, KEEP and events (Tables 9-4, 10-4). -/
def regsAlarm2 : List RReg :=
  (List.range 4).map fun i => ⟨txt "PER_HI" ++ decText i, 0x1250 + 4 * i, 1, (some 0x00002000), 1, 0,
    [fld ((txt "PER_HI" ++ decText i)) 0 32 1 (some 0x2000) 0x11]⟩

/-- The field window: alarms, periods, KEEP and events (Tables 9-4, 10-4). -/
def regsAlarm3 : List RReg :=
  (List.range 4).map fun i => ⟨txt "PER_LO" ++ decText i, 0x1260 + 4 * i, 1, (some 0x00000800), 1, 0,
    [fld ((txt "PER_LO" ++ decText i)) 0 32 1 (some 0x800) 0x11]⟩

/-- The field window: alarms, periods, KEEP and events (Tables 9-4, 10-4). -/
def regsAlarm4 : List RReg :=
  (List.range 64).map fun i => ⟨txt "KEEP" ++ decText i, 0x1300 + 4 * i, 15, (some 0), 1, 0,
    [fld ((txt "KEEP" ++ decText i)) 0 8 1 (some 0) 0x10, fld (txt "PERR") 8 1 0 (some 0) 0]⟩

/-- The field window: alarms, periods, KEEP and events (Tables 9-4, 10-4). -/
def regsAlarm5 : List RReg :=
  (List.range 8).map fun i => ⟨txt "EV_CFG" ++ decText i, 0x1400 + 4 * i, 1, (some 0x00000040), 1, 0,
    [fld (txt "EN") 0 1 1 (some 0) 0x10, fldR (txt "EDGE") 1 2 1 (some 0) 0x10 0 2, fldR (txt "FILT") 3 3 1 (some 0) 0x10 0 4,
     fld (txt "JRN") 6 1 1 (some 1) 0x10]⟩

/-- The field window: alarms, periods, KEEP and events (Tables 9-4, 10-4). -/
def regsAlarm6 : List RReg :=
  [⟨txt "EV_STAT", 0x1420, 0, (some 0), 0, 0,
    [fld (txt "LEVEL") 0 8 0 (some 0) 0, fld (txt "QCNT") 16 9 0 (some 0) 0x10]⟩,
   ⟨txt "EV_CNT", 0x1424, 2, (some 0), 1, 0,
    [fld (txt "EV_LOST") 0 16 2 (some 0) 0x50, fld (txt "EV_COARSE") 16 16 2 (some 0) 0x50]⟩,
   ⟨txt "EV_CNT2", 0x1428, 2, (some 0), 1, 0,
    [fld (txt "EV_NOREC") 0 16 2 (some 0) 0x50]⟩]

/-- The field window: alarms, periods, KEEP and events (Tables 9-4, 10-4). -/
def regsAlarm7 : List RReg :=
  (List.range 8).map fun i => ⟨txt "EV_LAT" ++ decText i, 0x1430 + 4 * i, 0, none, 2, 0,
    [fld (txt "LAT") 0 8 0 none 0x20, fld (txt "FLT8_DLY") 8 8 0 none 0x20]⟩

/-- The field window: temperature (Table 11-5). -/
def regsTemp1 : List RReg :=
  [⟨txt "T_PLAN", 0x1500, 1, (some 0x0C0C0C0C), 1, 0,
    [fldR (txt "K") 0 5 1 (some 0xc) 0x10 0 18, fld (txt "EN") 7 1 1 (some 0) 0x10, fldR (txt "K") 8 5 1 (some 0xc) 0x10 0 18,
     fld (txt "EN") 15 1 1 (some 0) 0x10, fldR (txt "K") 16 5 1 (some 0xc) 0x10 0 18, fld (txt "EN") 23 1 1 (some 0) 0x10,
     fldR (txt "K") 24 5 1 (some 0xc) 0x10 0 18, fld (txt "EN") 31 1 1 (some 0) 0x10]⟩,
   ⟨txt "T_STAT", 0x1504, 0, (some 0), 0, 0,
    [fld (txt "STALE") 0 4 0 (some 0) 0, fld (txt "OPEN") 4 4 0 (some 0) 0, fld (txt "SHORT") 8 4 0 (some 0) 0,
     fld (txt "BUSY") 12 2 0 (some 0) 0, fld (txt "CONT") 14 1 0 (some 0) 0]⟩,
   ⟨txt "T_FLT", 0x1508, 2, (some 0), 1, 0,
    [fld (txt "OPEN_SEEN") 0 4 2 (some 0) 0x10, fld (txt "SHORT_SEEN") 4 4 2 (some 0) 0x10]⟩,
   ⟨txt "T_CNT", 0x150C, 2, (some 0), 1, 0,
    [fld (txt "T_SLIP") 0 16 2 (some 0) 0x50, fld (txt "T_HELD") 16 16 2 (some 0) 0x50]⟩]

/-- The field window: temperature (Table 11-5). -/
def regsTemp2 : List RReg :=
  (List.range 4).map fun i => ⟨txt "T_CFG" ++ decText i, 0x1510 + 4 * i, 15, (some 0), 1, 5 + i,
    [fldR (txt "TYPE") 0 3 5 (some 0) 0x10 0 4, fldR (txt "EXC") 4 2 5 (some 0) 0x10 0 2, fld (txt "APPLY") 31 1 3 (some 0) 0]⟩

/-- The field window: temperature (Table 11-5). -/
def regsTemp3 : List RReg :=
  (List.range 4).map fun i => ⟨txt "T_OFS" ++ decText i, 0x1520 + 4 * i, 1, (some 0), 1, 0,
    [fld (txt "T_OFS") 0 16 1 (some 0) 0x11]⟩

/-- The field window: temperature (Table 11-5). -/
def regsTemp4 : List RReg :=
  (List.range 4).map fun i => ⟨txt "T_LEAD" ++ decText i, 0x1530 + 4 * i, 1, (some 0), 1, 0,
    [fld (txt "T_LEAD") 0 16 1 (some 0) 0x10]⟩

/-- The field window: temperature (Table 11-5). -/
def regsTemp5 : List RReg :=
  (List.range 4).map fun i => ⟨txt "T_VAL" ++ decText i, 0x1540 + 4 * i, 0, (some 0x80000000), 0, 0,
    [fld ((txt "T_VAL" ++ decText i)) 0 32 0 (some 0x80000000) 1]⟩

/-- The field window: temperature (Table 11-5). -/
def regsTemp6 : List RReg :=
  (List.range 12).map fun k =>
    let n := txt (if k % 3 = 0 then "T_SHA" else if k % 3 = 1 then "T_SHB" else "T_SHC") ++ decText (k / 3)
    let v := if k % 3 = 0 then 0x3A8E40A0 else if k % 3 = 1 then 0x397964B0 else 0x33D6BF95
    ⟨n, 0x1560 + 4 * k, 1, some v, 1, 0, [fld n 0 32 1 (some v) 0x10]⟩

/-- The field window: journal, supply and link (Tables 12-11, 3-5 to 3-7, 20-6). -/
def regsJrn1a : List RReg :=
  [⟨txt "J_CFG", 0x1600, 1, (some 0), 1, 0,
    [fld (txt "POLICY") 0 1 1 (some 0) 0x10]⟩,
   ⟨txt "J_STAT", 0x1604, 0, (some 0), 4, 0,
    [fld (txt "USED") 0 7 0 (some 0) 0, fld (txt "OPEN") 7 1 0 (some 0) 0, fld (txt "FREE") 8 8 0 (some 0) 0,
     fld (txt "SPARES") 16 7 0 (some 0) 0, fld (txt "RO_CAUSE") 23 2 0 (some 0) 0, fld (txt "RING") 25 1 0 (some 0) 0]⟩,
   ⟨txt "J_HEAD", 0x1608, 0, (some 0), 4, 0,
    [fld (txt "J_HEAD") 0 32 0 (some 0) 0]⟩,
   ⟨txt "J_TAIL", 0x160C, 0, (some 0), 4, 0,
    [fld (txt "J_TAIL") 0 32 0 (some 0) 0]⟩,
   ⟨txt "J_EXP", 0x1610, 0, (some 0xFFFFFFFF), 4, 0,
    [fld (txt "J_EXP") 0 32 0 (some 0xffffffff) 0]⟩,
   ⟨txt "J_RING", 0x1614, 15, (some 0), 0, 0,
    [fld (txt "RCNT") 0 9 0 (some 0) 0, fld (txt "RING_OVW") 16 16 2 (some 0) 0x40]⟩,
   ⟨txt "WEAR_Q", 0x1618, 0, (some 0), 4, 0,
    [fld (txt "CBPK") 0 16 0 (some 0) 0, fld (txt "CBPK_RUN") 16 16 0 (some 0) 0]⟩,
   ⟨txt "WEAR_CNT", 0x161C, 0, (some 0), 4, 0,
    [fld (txt "RETIRED") 0 16 0 (some 0) 0, fld (txt "UNCORR") 16 16 0 (some 0) 0]⟩,
   ⟨txt "WEAR_CYC", 0x1620, 0, (some 0), 4, 0,
    [fld (txt "CYC_MAX") 0 18 0 (some 0) 0]⟩,
   ⟨txt "SCRUB", 0x1624, 0, (some 0), 4, 0,
    [fld (txt "SCR_NEXT") 0 10 0 (some 0) 0, fld (txt "SCR_HRS") 16 8 0 (some 0) 0]⟩,
   ⟨txt "SEAL_STAT", 0x1628, 0, (some 0), 4, 0,
    [fld (txt "KEY") 0 1 0 (some 0) 0, fld (txt "PARTS") 1 4 0 (some 0) 0, fld (txt "KCV") 16 16 0 (some 0) 0]⟩,
   ⟨txt "ESN", 0x162C, 0, (some 0), 4, 0,
    [fld (txt "ESN") 0 32 0 (some 0) 0]⟩]

/-- The field window: journal, supply and link (Tables 12-11, 3-5 to 3-7, 20-6). -/
def regsJrn1b : List RReg :=
  [⟨txt "SUP_CFG", 0x1680, 1, (some 0x012C1F33), 1, 0,
    [fldR (txt "VSW_TH") 0 4 1 (some 3) 0x10 0 6, fldR (txt "BATLOW_TH") 4 4 1 (some 3) 0x10 0 6,
     fld (txt "BATPLAN_CH") 8 4 1 (some 0xf) 0x10, fld (txt "BATPLAN_EN") 12 1 1 (some 1) 0x10,
     fldR (txt "BATPLAN_PER") 16 16 1 (some 0x12c) 0x10 10 65535]⟩,
   ⟨txt "SUP_STAT", 0x1684, 0, (some 0), 0, 0,
    [fld (txt "SEL") 0 2 0 (some 0) 0, fld (txt "VFLD_OK") 2 1 0 (some 0) 0, fld (txt "ISO_OK") 3 1 0 (some 0) 0,
     fld (txt "VBAT_OK") 4 1 0 (some 0) 0, fld (txt "ISO_OFFER") 5 1 0 (some 0) 0, fld (txt "BATLOW") 6 1 0 (some 0) 0,
     fld (txt "VBAT_MEAS") 7 1 0 (some 0) 0, fld (txt "VBAT_MV") 16 12 0 (some 0) 0]⟩,
   ⟨txt "SUP_CNT", 0x1688, 2, (some 0), 1, 0,
    [fld (txt "SW_COMMIT") 0 16 2 (some 0) 0x50, fld (txt "SW_CANCEL") 16 16 2 (some 0) 0x50]⟩,
   ⟨txt "BARF_CNT0", 0x1690, 2, (some 0), 1, 0,
    [fld (txt "CRC_HF") 0 16 2 (some 0) 0x50, fld (txt "RETRY_F") 16 16 2 (some 0) 0x50]⟩,
   ⟨txt "BARF_CNT1", 0x1694, 2, (some 0), 1, 0,
    [fld (txt "DUP_F") 0 16 2 (some 0) 0x50]⟩]

/-- The field window: calibration, test and domains (Tables 13-6, 14-3, 20-6). -/
def regsCal1a : List RReg :=
  [⟨txt "CAL_CFG", 0x1700, 1, (some 0x0000000F), 1, 0,
    [fld (txt "TDC_EN") 0 1 1 (some 1) 0x10, fld (txt "ADC_EN") 1 1 1 (some 1) 0x10, fld (txt "XL_EN") 2 1 1 (some 1) 0x10,
     fld (txt "BAR_EN") 3 1 1 (some 1) 0x10]⟩,
   ⟨txt "CAL_STAT", 0x1704, 0, (some 0xFFFF0000), 0, 0,
    [fld (txt "ACT") 0 4 0 (some 0) 0, fld (txt "ACT_IDX") 4 2 0 (some 0) 0, fld (txt "RUN2") 6 1 0 (some 0) 0,
     fld (txt "DIRTY") 7 1 0 (some 0) 0, fld (txt "A_OK") 8 1 0 (some 0) 0, fld (txt "B_OK") 9 1 0 (some 0) 0,
     fld (txt "STORE_PEND") 10 1 0 (some 0) 0, fld (txt "STORE_AGE") 16 16 0 (some 0xffff) 0]⟩,
   ⟨txt "CAL_REJC", 0x1708, 0, (some 0), 0, 0,
    [fld (txt "CAL_REJC") 0 32 0 (some 0) 0]⟩,
   ⟨txt "CAL_FLT", 0x170C, 2, (some 0), 0, 0,
    [fld (txt "CAL_FLT") 0 8 2 (some 0) 0]⟩,
   ⟨txt "CAL_Q_TDC", 0x1710, 0, (some 0), 0, 0,
    [fld (txt "CAL_Q_TDC") 0 32 0 (some 0) 0]⟩,
   ⟨txt "CAL_Q_ADC", 0x1714, 15, none, 2, 0,
    [fld (txt "SPREAD") 0 16 0 (some 0) 0, fld (txt "ADC_SEL") 16 4 1 none 0x20]⟩,
   ⟨txt "XL_BAD", 0x1718, 0, none, 2, 0,
    [fld (txt "XL_BAD") 0 32 0 none 0x20]⟩,
   ⟨txt "XL_RES", 0x171C, 0, none, 2, 0,
    [fld (txt "XL_RES") 0 32 0 none 0x21]⟩,
   ⟨txt "BAR_TL", 0x1720, 0, none, 2, 0,
    [fld (txt "BAR_TL") 0 32 0 none 0x20]⟩,
   ⟨txt "BAR_TA", 0x1724, 0, none, 2, 0,
    [fld (txt "BAR_TA") 0 32 0 none 0x20]⟩,
   ⟨txt "BAR_A", 0x1728, 1, none, 2, 0,
    [fld (txt "BAR_A") 0 32 1 none 0x21]⟩,
   ⟨txt "BAR_RES", 0x172C, 0, (some 0), 0, 0,
    [fld (txt "BAR_RES") 0 32 0 (some 0) 1]⟩]

/-- The field window: calibration, test and domains (Tables 13-6, 14-3, 20-6). -/
def regsCal1b : List RReg :=
  [⟨txt "CAL_CNT", 0x1730, 2, (some 0), 1, 0,
    [fld (txt "APPLIED") 0 16 2 (some 0) 0x50, fld (txt "REJECTED") 16 16 2 (some 0) 0x50]⟩]

/-- The field window: calibration, test and domains (Tables 13-6, 14-3, 20-6). -/
def regsCal2 : List RReg :=
  (List.range 4).map fun i => ⟨txt "ADC_REF" ++ decText i, 0x1740 + 4 * i, 1, none, 2, 0,
    [fld ((txt "ADC_REF" ++ decText i)) 0 32 1 none 0x21]⟩

/-- The field window: calibration, test and domains (Tables 13-6, 14-3, 20-6). -/
def regsCal3 : List RReg :=
  (List.range 2).map fun i => ⟨txt "ADC_OFS" ++ decText i, 0x1750 + 4 * i, 1, none, 2, 0,
    [fld ((txt "ADC_OFS" ++ decText i)) 0 32 1 none 0x21]⟩

/-- The field window: calibration, test and domains (Tables 13-6, 14-3, 20-6). -/
def regsCal4 : List RReg :=
  (List.range 2).map fun i => ⟨txt "ADC_GAIN" ++ decText i, 0x1758 + 4 * i, 1, none, 2, 0,
    [fld ((txt "ADC_GAIN" ++ decText i)) 0 32 1 none 0x21]⟩

/-- The field window: calibration, test and domains (Tables 13-6, 14-3, 20-6). -/
def regsCal5 : List RReg :=
  [⟨txt "TST_CFG", 0x1780, 1, (some 0x04000001), 1, 0,
    [fld (txt "ROT_EN") 0 1 1 (some 1) 0x10, fldR (txt "PACE") 16 16 1 (some 0x400) 0x10 64 65535]⟩,
   ⟨txt "TST_STAT", 0x1784, 0, (some 0x00001E00), 0, 0,
    [fld (txt "DONE") 0 6 0 (some 0) 0, fld (txt "TOTAL") 8 6 0 (some 0x1e) 0, fld (txt "JOB") 14 1 0 (some 0) 0,
     fld (txt "ROT") 16 16 0 (some 0) 0x10]⟩,
   ⟨txt "TST_LAST", 0x1788, 15, (some 0), 1, 0,
    [fld (txt "LAST_CODE") 0 8 0 (some 0) 0x10, fld (txt "LAST_IDX") 8 8 0 (some 0) 0x10, fld (txt "FAILS") 16 16 2 (some 0) 0x50]⟩,
   ⟨txt "TEL_FLAG", 0x178C, 2, (some 0), 1, 0,
    [fld (txt "CALWRAP") 0 1 2 (some 0) 0x10]⟩,
   ⟨txt "OVR_CNT", 0x1790, 2, (some 0), 1, 0,
    [fld (txt "OVR_F") 0 16 2 (some 0) 0x50, fld (txt "WDOG") 16 16 2 (some 0) 0x50]⟩]

/-- The field window: calibration, test and domains (Tables 13-6, 14-3, 20-6). -/
def regsCal6 : List RReg :=
  (List.range 64).map fun k =>
    let n := txt "TDC_INL" ++ decText (k / 16) ++ '_' :: decText (k % 16)
    ⟨n, 0x1800 + 4 * k, 1, none, 2, 0, [fld n 0 32 1 none 0x20]⟩

/-- The field window: calibration, test and domains (Tables 13-6, 14-3, 20-6). -/
def regsCal7 : List RReg :=
  (List.range 92).map fun i => ⟨txt "DOMF_ON" ++ decText i, 0x1A00 + 4 * i, 2, (some 0), 1, 0,
    [fld ((txt "DOMF_ON" ++ decText i)) 0 32 2 (some 0) 0x50]⟩

/-- R703: every register of revision A1, by rising address. -/
def regTable : List RReg :=
  [regsHost1, regsHost2, regsHost3, regsHost4, regsHost5, regsHost6, regsRadio1a, regsRadio1b, regsTime1a,
   regsTime1b, regsTime1c, regsRef1a, regsRef1b, regsRef2, regsAlarm1a, regsAlarm1b, regsAlarm2, regsAlarm3,
   regsAlarm4, regsAlarm5, regsAlarm6, regsAlarm7, regsTemp1, regsTemp2, regsTemp3, regsTemp4, regsTemp5,
   regsTemp6, regsJrn1a, regsJrn1b, regsCal1a, regsCal1b, regsCal2, regsCal3, regsCal4, regsCal5, regsCal6,
   regsCal7].flatten

/-- The reserved bits of a register: those that no field holds (R10). -/
def RReg.reserved (r : RReg) : Nat := 2 ^ 32 - 1 - (r.fields.map fun f => (2 ^ f.width - 1) * 2 ^ f.lo).sum

/-- R692: the address of a register by its name in capitals. -/
def regAddr (n : Text) : Option Nat := (regTable.find? fun r => r.name = n).map (·.addr)

end Sys2Proof.Machine
end

