-- ==== Sys2Proof/Machine/Layout.lean ====
section
/-! DEFINITION. Sys2Proof/Machine/Layout.lean: the Layout Table as the host side serves it (19_layout_table.md): the fixed
registers, the header, the entries and entry lines that the spec determines. -/

namespace Sys2Proof.Machine

/-! ### The fixed registers and the header (Tables 19-1, 19-2) -/

/-- `IDENT`. -/
def ident : Word := 0x56A17120#32

/-- The length in bytes of the table that `DESC?` serves: that of section 8 with the overlay merged
(DESIGN CHOICE, unsafe: notes/assumptions/101.md). -/
def Table.len (t : Table) : Nat := if t.ovl then 0xA6F0 else 4 * Config.romWords.toNat
def Table.entries (t : Table) : Nat := if t.ovl then 0x0A5C else Config.romEntries.toNat
def Table.hflags (t : Table) : Nat := t.ovl.toNat + 2 * t.ovlBad.toNat

/-- `TBL_PTR`. -/
def Table.ptr (t : Table) : Word :=
  BitVec.ofNat 32 (t.len % 2 ^ 20 + 2 ^ 20 + 2 ^ 28 * t.hflags + 2 ^ 31 * t.served.toNat)

/-- Header bytes 0 to 27. -/
def Table.head (t : Table) (serial : BitVec 64) : List Byte :=
  [0x4B#8, 0x4C#8, 0x54#8, 0x31#8, 1#8, BitVec.ofNat 8 t.hflags, 0x20#8, 0#8] ++ bytesLE 4 t.len ++ bytesLE 2 t.entries ++
    bytesLE 2 (if t.ovl then t.lims.length else 0) ++ bytesLE 8 serial.toNat ++ bytesLE 4 Config.romCrc.toNat

/-- The limits that entered the served table. -/
def Table.used (t : Table) : List (Nat × Word) := if t.ovl then t.lims else []

/-! ### Entries (Tables 19-3 and 19-5) -/

/-- Zeros up to the next multiple of 4. -/
def padded (n : Nat) : Nat := (n + 3) / 4 * 4

/-- Table 19-3: an entry: its type, the fixed part from byte 4, and its name. -/
def entryBytes (ty : Nat) (fixed : List Byte) (name : Text) : List Byte :=
  let nofs := 4 + fixed.length
  let elen := padded (nofs + 1 + name.length)
  bytesLE 1 ty ++ bytesLE 1 nofs ++ bytesLE 2 elen ++ fixed ++ bytesLE 1 name.length ++ name.map (fun c => BitVec.ofNat 8 c.toNat) ++
    List.replicate (elen - (nofs + 1 + name.length)) 0#8

/-- The window of Table 20-1 that holds an address, as its `WID`. -/
def widOf (a : Nat) : Nat := if a < 0x0400 then 0 else if a < 0x1000 then 1 else 2

/-- A field's reset value: the spec's, the base table's length for `LEN` of `TBL_PTR`, else the part's. -/
def RField.resetVal (r : RReg) (f : RField) : Nat :=
  match f.reset with
  | some v => v
  | none => if r.addr = 4 then 4 * Config.romWords.toNat else (Config.tableOpen 0 r.addr f.lo).toNat % 2 ^ f.width

/-- A register's reset value: the spec's, else that of its fields. -/
def RReg.resetVal (r : RReg) : Nat :=
  match r.reset with
  | some v => v
  | none => (r.fields.map fun f => f.resetVal r * 2 ^ f.lo).sum % 2 ^ 32

/-- `FFLAGS`. -/
def RField.fflags (r : RReg) (f : RField) : Nat := f.flags ||| ((Config.tableOpen 1 r.addr f.lo).toNat % 4 * 4)

/-- R694: the minimum and maximum, raw: those its map states; every value of an unsigned binary field whose map states none
(DEDUCED, unsafe: notes/assumptions/100.md); else the part's. -/
def RField.limits (r : RReg) (f : RField) : Nat × Nat :=
  match f.range with
  | some m => m
  | none =>
    if f.flags % 4 = 0 then (0, 2 ^ f.width - 1)
    else ((Config.tableOpen 3 r.addr f.lo).toNat, (Config.tableOpen 4 r.addr f.lo).toNat)

/-- The numbers of a type 3 entry in byte order: address, `WID`, access, reset, reserved-bit mask, `RFLAGS`, `GID`. -/
def RReg.bytes (r : RReg) : List Byte :=
  entryBytes 3 (bytesLE 2 r.addr ++ bytesLE 1 (widOf r.addr) ++ bytesLE 1 r.acc ++ bytesLE 4 r.resetVal ++ bytesLE 4 r.reserved ++
    bytesLE 1 r.rflags ++ bytesLE 1 r.gid ++ bytesLE 2 0) r.name

/-- A type 4 entry. -/
def RField.bytes (r : RReg) (f : RField) : List Byte :=
  entryBytes 4 (bytesLE 2 r.addr ++ bytesLE 1 f.lo ++ bytesLE 1 f.width ++ bytesLE 1 f.acc ++ bytesLE 1 (f.fflags r) ++
    bytesLE 2 (Config.tableOpen 2 r.addr f.lo).toNat ++ bytesLE 4 (f.limits r).1 ++ bytesLE 4 (f.limits r).2 ++
    bytesLE 4 (f.resetVal r)) f.name

/-- A type 2 entry: a window of Table 20-1. -/
def windowBytes (first last wid side : Nat) (name : String) : List Byte :=
  entryBytes 2 (bytesLE 2 first ++ bytesLE 2 last ++ bytesLE 1 wid ++ bytesLE 1 side ++ bytesLE 2 0) (txt name)

/-- The name of the type 1 entry. -/
def partName : Text := txt "KERTI VT-7120 A1"

/-- R690: the entries of types 1 to 4, back to back from byte 32 on. -/
def tableEntries (fuse : Fuse) : List Byte :=
  entryBytes 1 (bytesLE 8 fuse.serial.toNat ++ bytesLE 4 ident.toNat ++ bytesLE 4 fuse.romBuild.toNat) partName ++
  windowBytes 0x0000 0x03FF 0 0 "HOST" ++ windowBytes 0x0400 0x07FF 1 0 "RADIO" ++ windowBytes 0x1000 0x1FFF 2 1 "FIELD" ++
  (regTable.map RReg.bytes).flatten ++ (regTable.map fun r => (r.fields.map (RField.bytes r)).flatten).flatten

/-- Bytes from 32 on: the entries of types 1 to 4, then the part's. -/
def Table.body (t : Table) (fuse : Fuse) (offset len : Nat) : List Byte :=
  let es := tableEntries fuse
  (List.range len).map fun i => (es[offset + i - 32]?).getD (Config.tableByte t.used (offset + i))

/-- The header with its CRC-32 over bytes 0 to 27 and the entries (R687). -/
def Table.header (t : Table) (fuse : Fuse) : List Byte :=
  t.head fuse.serial ++ bytesLE 4 (crc32 (t.head fuse.serial ++ t.body fuse 32 (t.len - 32))).toNat

/-- Bytes `offset` to `offset + len − 1` of the served table. -/
def Table.bytes (t : Table) (fuse : Fuse) (offset len : Nat) : List Byte :=
  (if offset < 32 then ((t.header fuse).drop offset).take len else []) ++
    t.body fuse (max 32 offset) (offset + len - max 32 offset)

/-- R610: one line of `DESC?`. -/
def descLine (offset : Nat) (bs : List Byte) : Text :=
  commas ['+' :: hexText 6 offset, hexBytes bs, hexText 4 (crc16 bs).toNat]

/-- The lines of `n` groups of 32 bytes from `offset`, `len` bytes in all. -/
def Table.lines (t : Table) (fuse : Fuse) : Nat → Nat → Nat → List Text
  | 0, _, _ => []
  | n + 1, offset, len =>
    if len = 0 then []
    else descLine offset (t.bytes fuse offset (min 32 len)) :: t.lines fuse n (offset + 32) (len - 32)

/-! ### Entry lines (R701, R702) -/

/-- The header line of `DESC.LIST?`. -/
def Table.headLine (t : Table) (serial : BitVec 64) : Text :=
  commas [txt "+KLT1,01", hexText 8 t.len, hexText 4 t.entries, hexText 16 serial.toNat, hexText 1 t.hflags]

/-- A window of Table 20-1. -/
def windowLine (first last wid : Nat) (side name : String) : Text :=
  commas [txt "+2", hexText 4 first, hexText 4 last, decText wid, txt side, txt name]

/-- A message type of Table 4-5. -/
def msgLine (code lane cls few most stream : Nat) (name : String) : Text :=
  commas [txt "+6", decText code, decText lane, decText cls, decText few, decText most, decText stream, txt name]

/-- A pair group of Table 20-7. -/
def groupLine (gid : Nat) (side : String) (apply bit err : Nat) (regs : List Nat) (name : String) : Text :=
  let rs := match regs.map (hexText 4) with
    | [] => []
    | r :: rest => rest.foldl (fun a b => a ++ ';' :: b) r
  commas [txt "+12", decText gid, txt side, txt "0", decText regs.length, hexText 4 apply, decText bit, decText err, rs, txt name]

/-- The line of a register: `RFLAGS` and `GID` in decimal. -/
def RReg.line (r : RReg) : Text :=
  commas [txt "+3", hexText 4 r.addr, decText (widOf r.addr), decText r.acc, hexText 8 r.resetVal, hexText 8 r.reserved,
    decText r.rflags, decText r.gid, r.name]

/-- The line of a field. -/
def RField.line (r : RReg) (f : RField) : Text :=
  commas [txt "+4", hexText 4 r.addr, decText f.lo, decText f.width, decText f.acc, decText (f.fflags r),
    decText (Config.tableOpen 2 r.addr f.lo).toNat, hexText 8 (f.limits r).1, hexText 8 (f.limits r).2, hexText 8 (f.resetVal r), f.name]

/-- The groups of Tables 1-1 and 1-2 in their order: side, first domain, how many, and the idle state where Table 3-8, R91 or Table 18-3
settles it for the group (0 OFF, 1 RET, 2 always ON, 3 follows the radio state). -/
def domainGroups : List (Bool × Nat × Nat × Option Nat) :=
  [(false, 0, 8, some 2), (false, 8, 8, some 0), (false, 16, 8, some 0), (false, 24, 12, some 0), (false, 36, 2, some 0),
   (false, 38, 4, some 0), (false, 42, 1, some 0), (false, 43, 8, none), (false, 51, 16, some 0), (false, 67, 2, some 0),
   (false, 69, 1, some 0), (false, 70, 1, some 0), (false, 71, 6, some 0), (false, 77, 1, some 1), (false, 78, 1, some 0),
   (false, 79, 1, some 0), (false, 80, 4, some 2), (false, 84, 4, some 0), (false, 88, 1, some 1), (false, 89, 1, some 2),
   (false, 90, 1, some 0), (false, 91, 1, some 2)] ++
  [(true, 0, 1, some 2), (true, 1, 1, some 0), (true, 2, 1, none), (true, 3, 8, none), (true, 11, 1, none), (true, 12, 4, some 0),
   (true, 16, 2, none), (true, 18, 1, none), (true, 19, 1, none), (true, 20, 1, some 0), (true, 21, 30, some 3), (true, 51, 1, none),
   (true, 52, 1, none), (true, 53, 1, none), (true, 54, 2, none)]

/-- The domains of one side: the field's 92 or the host's 56. F84 is always ON, the other regulators are not (Table 3-8). -/
def domainLines (host : Bool) : List Text :=
  ((domainGroups.filter (·.1 = host)).zipIdx.map fun (g, row) =>
    (List.range g.2.2.1).map fun k =>
      let i := g.2.1 + k
      let idle := if !host && i == 84 then 2 else g.2.2.2.getD (Config.domainIdle host.toNat i).val
      commas [txt "+5", txt (if host then "H" else "F"), decText i, decText row, decText idle,
        Config.tableName 5 host.toNat i]).flatten

/-- A channel: kind, index, first domain and how many, configuration and status or value address, related index. -/
def channelLine (kind i dom n cfg val rel : Nat) : Text :=
  commas [txt "+7", decText kind, decText i, decText dom, decText n, hexText 4 cfg, hexText 4 val, decText rel, Config.tableName 7 kind i]

/-- The channels of Tables 1-1, 10-4 and 11-5 (DEDUCED, unsafe: notes/assumptions/100.md). -/
def channelLines : List Text :=
  (List.range 4).map (fun i => channelLine 0 i (24 + 3 * i) 3 (0x1510 + 4 * i) (0x1540 + 4 * i) 0xFF) ++
  (List.range 8).map (fun i => channelLine 1 i (8 + i) 1 (0x1400 + 4 * i) 0x1420 (i / 2)) ++
  (List.range 4).map (fun i => channelLine 2 i (16 + 2 * i) 2 0 0 (2 * i)) ++
  (List.range 2).map (fun i => channelLine 3 i (36 + i) 1 0 0 0xFF) ++
  (List.range 4).map fun i => channelLine 4 i (38 + i) 1 0 0 0xFF

/-- Table 19-6: the capabilities by `CID` from 1. -/
def capabilities : List Nat :=
  [0x1F, 8, 4, 4, 32, 256, 8, 4096, 0xF, 0x3, 779000, 960000, 944, 64, 240, 3000000]

/-- The entry lines of one type: those the spec determines, else the part's (DESIGN CHOICE, safe: notes/assumptions/14.md). -/
def Table.typeLines (t : Table) (fuse : Fuse) (ty : Nat) : List Text :=
  match ty with
  | 1 => [commas [txt "+1", hexText 16 fuse.serial.toNat, hexText 8 ident.toNat, hexText 8 fuse.romBuild.toNat,
      partName]]
  | 2 => [windowLine 0x0000 0x03FF 0 "H" "HOST", windowLine 0x0400 0x07FF 1 "H" "RADIO", windowLine 0x1000 0x1FFF 2 "F" "FIELD"]
  | 3 => regTable.map RReg.line
  | 4 => (regTable.map fun r => r.fields.map (RField.line r)).flatten
  | 5 => domainLines false ++ domainLines true
  | 7 => channelLines
  | 8 => capabilities.zipIdx.map fun (v, i) => commas [txt "+8", decText (i + 1), hexText 8 v, Config.tableName 8 (i + 1) 0]
  | 6 =>
    [msgLine 0 0 0 1 1 0 "IDLE", msgLine 1 0 1 1 1 0 "ACK", msgLine 2 0 1 1 1 0 "NAK", msgLine 3 0 0 1 1 0 "LOOP",
     msgLine 4 0 0 1 1 0 "TICK", msgLine 5 0 1 1 1 0 "REGDAT", msgLine 6 0 2 1 1 2 "STAT", msgLine 7 0 2 3 3 2 "EVT",
     msgLine 8 0 2 4 4 2 "SAMP", msgLine 9 0 2 10 66 2 "JDAT", msgLine 10 0 2 1 65 2 "RSPX", msgLine 11 0 2 1 1 2 "PWRA",
     msgLine 12 0 2 1 1 2 "WAKE"] ++
    [msgLine 0 1 0 1 1 0 "IDLE", msgLine 1 1 1 1 1 0 "ACK", msgLine 2 1 1 1 1 0 "NAK", msgLine 3 1 0 1 1 0 "LOOP",
     msgLine 4 1 0 1 1 0 "ECHO", msgLine 5 1 2 5 5 1 "MARK", msgLine 6 1 2 1 1 1 "REGRD", msgLine 7 1 2 2 2 1 "REGWR",
     msgLine 8 1 2 1 65 1 "CMDX", msgLine 9 1 2 2 2 1 "JREQ", msgLine 10 1 2 1 1 1 "PWRQ"]
  | 12 =>
    [groupLine 1 "F" 0x1060 0 21 ((List.range 8).map fun i => 0x1040 + 4 * i) "TSET",
     groupLine 2 "F" 0x1208 31 31 [0x1200, 0x1204, 0x1208] "AL1",
     groupLine 3 "F" 0x1218 31 31 [0x1210, 0x1214, 0x1218] "AL2",
     groupLine 4 "F" 0x1240 31 31 [0x109C, 0x1240] "PERB",
     groupLine 5 "F" 0x1510 31 31 [0x1510] "PRB0", groupLine 6 "F" 0x1514 31 31 [0x1514] "PRB1",
     groupLine 7 "F" 0x1518 31 31 [0x1518] "PRB2", groupLine 8 "F" 0x151C 31 31 [0x151C] "PRB3",
     groupLine 9 "H" 0x0404 31 70 [0x0404] "RFCH", groupLine 10 "H" 0x0408 31 31 [0x0408, 0x040C] "RFPHY",
     groupLine 11 "H" 0x0410 31 0 [0x0410] "RFPA"]
  | _ => Config.descLines ty t.used

end Sys2Proof.Machine
end

