-- ==== Sys2Proof/Machine/Operands.lean ====
section
/-! DEFINITION. Sys2Proof/Machine/Operands.lean: the argument forms of a command line (15_command_line.md Table 15-2,
R537, R539) and the forms that 16_commands.md gives single arguments. Each answers what a text spells, or nothing where
the text is malformed. -/

namespace Sys2Proof.Machine

/-! ### Characters and splitting -/

def isDigit (c : Char) : Bool := 48 ≤ c.toNat && c.toNat ≤ 57
def isLetter (c : Char) : Bool := (65 ≤ c.toNat && c.toNat ≤ 90) || (97 ≤ c.toNat && c.toNat ≤ 122)

/-- R537: letters in capitals. -/
def upper (t : Text) : Text := t.map fun c => if 97 ≤ c.toNat && c.toNat ≤ 122 then Char.ofNat (c.toNat - 32) else c

/-- The pieces of a text between the characters `sep`. -/
def splitOn (sep : Char) : Text → List Text
  | [] => [[]]
  | c :: cs =>
    if c = sep then [] :: splitOn sep cs
    else match splitOn sep cs with
      | [] => [[c]]
      | p :: ps => (c :: p) :: ps

def trimLeft : Text → Text
  | [] => []
  | c :: cs => if c = ' ' then trimLeft cs else c :: cs

def trimRight (t : Text) : Text := (trimLeft t.reverse).reverse

/-- The text before the first `sep`, and the text after it where there is one. -/
def cutAt (sep : Char) : Text → Text × Option Text
  | [] => ([], none)
  | c :: cs => if c = sep then ([], some cs) else ((c :: (cutAt sep cs).1), (cutAt sep cs).2)

/-! ### Numbers -/

/-- Digits, at least one. -/
def natOf (t : Text) : Option Nat :=
  if t = [] || !t.all isDigit then none else some (t.foldl (fun a c => 10 * a + (c.toNat - 48)) 0)

/-- Hexadecimal digits, at least one. -/
def hexOf (t : Text) : Option Nat :=
  if t = [] then none
  else t.foldl (fun a c => match a, hexVal c with | some x, some d => some (16 * x + d) | _, _ => none) (some 0)

/-- A number: decimal with an optional sign, or 0x and 1 to 8 hex digits. -/
def intOf (t : Text) : Option Int :=
  match t with
  | '0' :: 'x' :: d => if d.length ≤ 8 then (hexOf d).map (Int.ofNat ·) else none
  | '-' :: d => (natOf d).map fun n => -(n : Int)
  | '+' :: d => (natOf d).map (Int.ofNat ·)
  | d => (natOf d).map (Int.ofNat ·)

/-- A decimal with an optional sign and at most `k` fraction digits, in units of 10^-k. -/
def fixOf (k : Nat) (t : Text) : Option Int :=
  let body := fun (d : Text) => match cutAt '.' d with
    | (a, none) => (natOf a).map (· * 10 ^ k)
    | (a, some b) => match natOf a, natOf b with
      | some x, some y => if b.length ≤ k then some (x * 10 ^ k + y * 10 ^ (k - b.length)) else none
      | _, _ => none
  match t with
  | '-' :: d => (body d).map fun n => -(n : Int)
  | '+' :: d => (body d).map (Int.ofNat ·)
  | d => (body d).map (Int.ofNat ·)

/-- A keyword: letters, digits and underscores, a letter first; in capitals. -/
def kwOf (t : Text) : Option Text :=
  match t with
  | [] => none
  | c :: _ => if isLetter c && t.all (fun x => isLetter x || isDigit x || x = '_') then some (upper t) else none

/-- Octets as hex digits, an even count, at least two (R599, R608). -/
def octetsOf (t : Text) : Option (List Byte) := if t = [] then none else hexParse t

/-! ### Dates and times -/

/-- Exactly `k` digits. -/
def digitsOf (k : Nat) (t : Text) : Option Nat := if t.length = k then natOf t else none

/-- YYYY-MM-DD. -/
def dateOf (t : Text) : Option (Nat × Nat × Nat) :=
  match splitOn '-' t with
  | [y, m, d] => match digitsOf 4 y, digitsOf 2 m, digitsOf 2 d with
    | some y, some m, some d => some (y, m, d)
    | _, _, _ => none
  | _ => none

/-- hh:mm:ss. -/
def timeOf (t : Text) : Option (Nat × Nat × Nat) :=
  match splitOn ':' t with
  | [h, m, s] => match digitsOf 2 h, digitsOf 2 m, digitsOf 2 s with
    | some h, some m, some s => some (h, m, s)
    | _, _, _ => none
  | _ => none

/-- An item of `AL`: `k` digits, or masked (R596). -/
def maskedOf (k : Nat) (t : Text) : Option (Option Nat) :=
  if upper t = List.replicate k 'X' then some none else (digitsOf k t).map some

/-- Three items of `AL` joined by `sep`. -/
def masked3 (sep : Char) (t : Text) : Option (Option Nat × Option Nat × Option Nat) :=
  match splitOn sep t with
  | [a, b, c] => match maskedOf 2 a, maskedOf 2 b, maskedOf 2 c with
    | some a, some b, some c => some (a, b, c)
    | _, _, _ => none
  | _ => none

/-- Seconds with up to nine fraction digits, as a sign, seconds and 10^-9 s (R235); a decimal may carry a sign (16_commands.md section 1). -/
def secsFracOf (t : Text) : Option (Bool × Nat × Nat) :=
  let (neg, d) := match t with
    | '-' :: d => (true, d)
    | '+' :: d => (false, d)
    | d => (false, d)
  match cutAt '.' d with
  | (a, none) => (natOf a).map fun s => (neg && decide (s ≠ 0), s, 0)
  | (a, some b) => match natOf a, natOf b with
    | some s, some f => if b.length ≤ 9 then some (neg && decide (s ≠ 0 ∨ f ≠ 0), s, f * 10 ^ (9 - b.length)) else none
    | _, _ => none

/-! ### Sets of keywords joined by + (R596, R323) -/

/-- The places of the names given among `names`, as bits: nothing where the form is wrong; no set where a name is not
among them. `NONE` alone is the empty set. -/
def setOf (names : List String) (t : Text) : Option (Option Nat) :=
  let ks := (splitOn '+' t).map kwOf
  if ks.any Option.isNone then none
  else
    let ns := ks.filterMap id
    if ns = [txt "NONE"] then some (some 0)
    else
      let at' := fun (n : Text) => (names.zipIdx.find? fun e => txt e.1 = n).map (·.2)
      if ns.any fun n => (at' n).isNone then some none
      else some (some ((List.range names.length).foldl (fun a i => a + 2 ^ i * (ns.any fun n => decide (at' n = some i)).toNat) 0))

/-- The action names by the bits of `ACT` (Table 9-4). -/
def actNames : List String := ["ATTN", "PON_H", "PON_F", "SNAP", "JOURNAL"]

/-- The periodic events by the bits of `PER_EN`. -/
def eventNames : List String := ["SEC", "MIN", "HOUR", "DAY"]

/-- An action set or event set as the part writes it. -/
def setText (names : List String) (bits : Nat) : Text :=
  let ns := (names.zipIdx.filter fun e => bits / 2 ^ e.2 % 2 = 1).map fun e => txt e.1
  match ns with
  | [] => txt "NONE"
  | n :: rest => rest.foldl (fun a b => a ++ '+' :: b) n

end Sys2Proof.Machine
end

