-- ==== Sys2Proof/Machine/Parse.lean ====
section
/-! DEFINITION. Sys2Proof/Machine/Parse.lean: the commands of a line from their text (15_command_line.md R536 to R540, R552;
16_commands.md). A malformed argument has no reading (ERR 10); an argument that no command can carry, being outside every
range or keyword set, is read as one that fails its range when it executes (ERR 20). -/

namespace Sys2Proof.Machine

/-! ### Helpers -/

/-- A number that an operand counts in Nat: a negative one is out of range. -/
def nat1 (s : Side) (v : Int) (g : Nat → Instr) : Parsed := if v < 0 then .range s else .cmd (g v.toNat)

def nat2 (s : Side) (a b : Int) (g : Nat → Nat → Instr) : Parsed :=
  if a < 0 || b < 0 then .range s else .cmd (g a.toNat b.toNat)

/-- A 32-bit value written as 0x0 to 0xFFFFFFFF. -/
def word1 (s : Side) (v : Int) (g : Word → Instr) : Parsed :=
  if v < 0 || 0xFFFFFFFF < v then .range s else .cmd (g (BitVec.ofInt 32 v))

def pick {α : Type} (o : Option α) (s : Side) (g : α → Instr) : Parsed :=
  match o with
  | some a => .cmd (g a)
  | none => .range s

/-- A command without arguments. -/
def args0 (i : Instr) : List Text → Option Parsed
  | [] => some (.cmd i)
  | _ => none

/-- A command of one number. -/
def argsN (s : Side) (g : Nat → Instr) : List Text → Option Parsed
  | [a] => (intOf a).map fun v => nat1 s v g
  | _ => none

/-- A command of two numbers. -/
def argsNN (s : Side) (g : Nat → Nat → Instr) : List Text → Option Parsed
  | [a, b] => match intOf a, intOf b with
    | some a, some b => some (nat2 s a b g)
    | _, _ => none
  | _ => none

/-- A command of one keyword. -/
def argsK (g : Text → Parsed) : List Text → Option Parsed
  | [a] => (kwOf a).map g
  | _ => none

/-- A command of a number and a hex string. -/
def argsNH (s : Side) (g : Nat → List Byte → Instr) : List Text → Option Parsed
  | [a, b] => match intOf a, octetsOf b with
    | some a, some bs => some (nat1 s a fun n => g n bs)
    | _, _ => none
  | _ => none

/-! ### The commands of single rows -/

def modeArgs : List Text → Option Parsed
  | [a] => (kwOf a).map fun k =>
    if k = txt "H" then .cmd (.mode .human) else if k = txt "M" then .cmd (.mode .machine) else .range .host
  | [a, b] => match kwOf a, kwOf b with
    | some k, some c => some (if k = txt "M" && c = txt "C" then .cmd (.mode .machineChk) else .range .host)
    | _, _ => none
  | _ => none

def jobPartArgs (as : List Text) : Option Parsed :=
  let mk := fun (a b c : Text) => match intOf a, intOf b, intOf c with
    | some a, some b, some c =>
      some (if a < 0 || b < 0 || c < 0 then .range .host else .cmd (.jobPartQuery a.toNat b.toNat c.toNat))
    | _, _, _ => none
  match as with
  | [a, b] => mk a b (txt "64")
  | [a, b, c] => mk a b c
  | _ => none

def testArgs : List Text → Option Parsed
  | [] => some (.cmd .test)
  | [a] => if kwOf a = some (txt "FORCE") then some (.cmd .testForce) else none
  | _ => none

/-- A domain id: F00 to F91, H00 to H55. -/
def domOf (t : Text) : Option TelGroup :=
  match upper t with
  | ['F', a, b] => (digitsOf 2 [a, b]).bind fun n => if n < 92 then some (.domF n) else none
  | ['H', a, b] => (digitsOf 2 [a, b]).bind fun n => if n < 56 then some (.domH n) else none
  | _ => none

/-- The groups of Table 14-2 that take no argument. -/
def groupNames : List (String × TelGroup) :=
  [("FRAME", .frame), ("UART", .uart), ("BAR", .bar), ("SUP", .sup), ("NVM", .nvm), ("TDC", .tdc), ("CAL", .cal), ("RF", .rf),
   ("FLAG", .flag), ("TEST", .test)]

def groupOf (k : Text) : Option TelGroup := (groupNames.find? fun e => txt e.1 = k).map (·.2)

def telArgs (g : Option TelGroup → Instr) : List Text → Option Parsed
  | [a] => (kwOf a).map fun k => .cmd (g (groupOf k))
  | [a, b] => match kwOf a with
    | some k => if (kwOf b).isSome || (intOf b).isSome then some (.cmd (g (if k = txt "DOM" then domOf b else none))) else none
    | none => none
  | _ => none

def timeArgs : List Text → Option Parsed
  | [a, b] => match dateOf a, timeOf b with
    | some (y, m, d), some (h, mi, s) => some (.cmd (.time y m d h mi s))
    | _, _ => none
  | _ => none

def tmarkArgs : List Text → Option Parsed
  | [a, b] => match kwOf a, intOf b with
    | some k, some s => some (if k = txt "PPS" then nat1 .field s fun n => .tmark (.pps n) else .range .field)
    | _, _ => none
  | [a, b, c] => match kwOf a, intOf b, secsFracOf c with
    | some k, some id, some (neg, s, f) =>
      some (if k = txt "RF" && !neg then nat1 .field id fun n => .tmark (.rf n s f) else .range .field)
    | _, _, _ => none
  | _ => none

def refKeys : List (String × RefKey) :=
  [("RANK", .rank), ("BW", .bw), ("STEP", .step), ("LEAP", .leap), ("PPSEN", .ppsen), ("RFEN", .rfen), ("RFINT", .rfint)]

def refKeyOf (k : Text) : Option RefKey := (refKeys.find? fun e => txt e.1 = k).map (·.2)

def refSetArgs : List Text → Option Parsed
  | [a, b] => match kwOf a with
    | none => none
    | some k => match intOf b, kwOf b with
      | some v, _ => some (if k = txt "RANK" then .range .field else nat1 .field v fun n => .refSet (refKeyOf k) n)
      | none, some w =>
        some (if k = txt "RANK" && w = txt "PPS" then .cmd (.refSet (some .rank) 0)
          else if k = txt "RANK" && w = txt "RF" then .cmd (.refSet (some .rank) 1) else .range .field)
      | none, none => none
  | _ => none

def trimArgs : List Text → Option Parsed
  | [a, b] => match intOf a, intOf b with
    | some n, some w => some (if w < 0 then .range .field else .cmd (.trim n w.toNat))
    | _, _ => none
  | _ => none

def alArgs : List Text → Option Parsed
  | [n, o] => match intOf n, kwOf o with
    | some n, some k => some (if k = txt "OFF" then nat1 .field n fun n => .al (.off n) else .range .field)
    | _, _ => none
  | [n, c, d, y, acts] =>
    match intOf n, masked3 ':' c, maskedOf 1 d, masked3 '-' y, setOf actNames acts with
    | some n, some (h, m, s), some dow, some (yy, mo, da), some set =>
      some (match set with
        | none => .range .field
        | some bits => nat1 .field n fun n => .al (.set n h m s dow yy mo da (BitVec.ofNat 5 bits)))
    | _, _, _, _, _ => none
  | _ => none

def perEvtArgs : List Text → Option Parsed
  | [e, a] => match setOf eventNames e, setOf actNames a with
    | some es, some as => some (match es, as with
      | some x, some y => .cmd (.perEvt (BitVec.ofNat 4 x) (BitVec.ofNat 5 y))
      | _, _ => .range .field)
    | _, _ => none
  | _ => none

def tickerArgs : List Text → Option Parsed
  | [o] => (kwOf o).map fun k => if k = txt "OFF" then .cmd (.ticker .off) else .range .field
  | [n, a] => match intOf n, setOf actNames a with
    | some n, some as => some (match as with
      | some bits => nat1 .field n fun n => .ticker (.run n (BitVec.ofNat 5 bits))
      | none => .range .field)
    | _, _ => none
  | _ => none

/-- `H` or `F` as a wake output. -/
def wakeOf (k : Text) : Option WakeOut := if k = txt "H" then some .ponH else if k = txt "F" then some .ponF else none

/-- The polarity of `PON`: HIGH or LOW. -/
def polOf (k : Text) : Option Bool := if k = txt "HIGH" then some true else if k = txt "LOW" then some false else none

def ponBuild (o m : Text) (len : Option Int) (pol : Option Text) : Parsed :=
  let pulse := if m = txt "PULSE" then some true else if m = txt "LEVEL" then some false else none
  match wakeOf o, pulse, pol with
  | some o, some p, none => if (len.getD 0) < 0 then .range .field else .cmd (.pon o p (len.map Int.toNat) none)
  | some o, some p, some q => match polOf q with
    | some hi => if (len.getD 0) < 0 then .range .field else .cmd (.pon o p (len.map Int.toNat) (some hi))
    | none => .range .field
  | _, _, _ => .range .field

def ponArgs : List Text → Option Parsed
  | [a, b] => match kwOf a, kwOf b with
    | some o, some m => some (ponBuild o m none none)
    | _, _ => none
  | [a, b, c] => match kwOf a, kwOf b, intOf c, kwOf c with
    | some o, some m, some l, _ => some (ponBuild o m (some l) none)
    | some o, some m, none, some p => some (ponBuild o m none (some p))
    | _, _, _, _ => none
  | [a, b, c, d] => match kwOf a, kwOf b, intOf c, kwOf d with
    | some o, some m, some l, some p => some (ponBuild o m (some l) (some p))
    | _, _, _, _ => none
  | _ => none

def perThArgs : List Text → Option Parsed
  | [a, b, c] => match intOf a, fixOf 3 b, fixOf 3 c with
    | some n, some hi, some lo => some (nat1 .field n fun n => .perTh n hi lo)
    | _, _, _ => none
  | _ => none

def perQArgs : List Text → Option Parsed
  | [a, b] => match kwOf a with
    | none => none
    | some k =>
      let set := if k = txt "DAY" then some PerSet.day else if k = txt "TRIP" then some PerSet.trip else none
      match set, intOf b, kwOf b with
      | some s, some n, _ => some (nat1 .field n fun n => .perQuery s (.chan n))
      | some s, none, some e => some (if e = txt "EV" then .cmd (.perQuery s .ev) else .range .field)
      | none, some _, _ => some (.range .field)
      | none, none, some _ => some (.range .field)
      | _, none, none => none
  | _ => none

/-- A command of a number and an optional one. -/
def argsNOpt (s : Side) (dflt : Nat) (g : Nat → Nat → Instr) : List Text → Option Parsed
  | [a] => (intOf a).map fun v => nat1 s v fun n => g n dflt
  | [a, b] => argsNN s g [a, b]
  | _ => none

def edgeOf (k : Text) : Option Nat :=
  if k = txt "R" then some 0 else if k = txt "F" then some 1 else if k = txt "B" then some 2 else none

def evCfgArgs (as : List Text) : Option Parsed :=
  let mk := fun (a b c d : Text) => match intOf a, kwOf b, intOf c, intOf d with
    | some i, some e, some f, some j =>
      some (match edgeOf e with
        | some e => if i < 0 || f < 0 || j < 0 then .range .field else .cmd (.evCfg i.toNat e f.toNat j.toNat)
        | none => .range .field)
    | _, _, _, _ => none
  match as with
  | [a, b, c] => mk a b c (txt "1")
  | [a, b, c, d] => mk a b c d
  | _ => none

def typeNames : List String := ["NONE", "PT3", "PT2", "NTC10", "NTC100"]

def tCfgArgs : List Text → Option Parsed
  | [a, b, c] =>
    let ty : Option (Option Int) := match intOf b, kwOf b with
      | some v, _ => some (some v)
      | none, some k => some ((typeNames.zipIdx.find? fun e => txt e.1 = k).map fun e => (e.2 : Int))
      | none, none => none
    match intOf a, ty, intOf c with
    | some n, some t, some e => some (match t with
      | some t => if n < 0 || t < 0 || e < 0 then .range .field else .cmd (.tCfg n.toNat t.toNat e.toNat)
      | none => .range .field)
    | _, _, _ => none
  | _ => none

def tPlanArgs : List Text → Option Parsed
  | [a, b] => match intOf a, intOf b, kwOf b with
    | some n, some k, _ => some (nat2 .field n k fun n k => .tPlan n (some k))
    | some n, none, some w => some (if w = txt "OFF" then nat1 .field n fun n => .tPlan n none else .range .field)
    | _, _, _ => none
  | _ => none

def tOfsArgs : List Text → Option Parsed
  | [a, b] => match intOf a, fixOf 3 b with
    | some n, some v => some (nat1 .field n fun n => .tOfs n v)
    | _, _ => none
  | _ => none

/-- An optional range of two numbers. -/
def rangeArgs (g : Option (Nat × Nat) → Instr) : List Text → Option Parsed
  | [] => some (.cmd (g none))
  | [a, b] => argsNN .field (fun x y => g (some (x, y))) [a, b]
  | _ => none

def itemNames : List (String × CalItem) :=
  [("TDC", .tdc), ("ADC", .adc), ("XL", .xl), ("BAR", .bar), ("IQ", .iq), ("PA", .pa)]

def itemOf (k : Text) : Option CalItem := (itemNames.find? fun e => txt e.1 = k).map (·.2)

/-- The side that executes `CAL.RUN` of an item (Table 16-10). -/
def calSide (i : Option CalItem) : Side := if i = some .iq || i = some .pa then .host else .field

def calRunArgs : List Text → Option Parsed
  | [a] => (kwOf a).map fun k => .cmd (.calRun (itemOf k) none)
  | [a, b] => match kwOf a, intOf b with
    | some k, some v => some (nat1 (calSide (itemOf k)) v fun n => .calRun (itemOf k) (some n))
    | _, _ => none
  | _ => none

def calLoadArgs : List Text → Option Parsed
  | [a] => if kwOf a = some (txt "GO") then some (.cmd .calLoadGo) else none
  | [a, b] => match intOf a, octetsOf b with
    | some n, some bs => if bs.length = 16 then some (nat1 .field n fun n => .calLoad n bs) else none
    | _, _ => none
  | _ => none

/-- A voltage in steps of 0.1 V: more fraction digits must be zeros. -/
def voltArgs (g : Nat → Instr) : List Text → Option Parsed
  | [a] => (fixOf 6 a).map fun v => if v < 0 || v % 100000 ≠ 0 then .range .field else .cmd (g (v / 100000).toNat)
  | _ => none

def batPlanArgs : List Text → Option Parsed
  | [a] => (kwOf a).map fun k =>
    if k = txt "ON" then .cmd (.batPlan .on) else if k = txt "OFF" then .cmd (.batPlan .off) else .range .field
  | as => argsNN .field (fun m p => .batPlan (.plan m p)) as

def rfStates : List (String × RfTarget) := [("SLEEP", .sleep), ("IDLE", .idle), ("STBY", .stby), ("RX", .rx)]

def fecNames : List String := ["NONE", "NRNSC", "RSC"]

def rfModeArgs : List Text → Option Parsed
  | [a, b, c, d, e] => match intOf a, intOf b, fixOf 3 c, fixOf 3 d, kwOf e with
    | some k, some r, some h, some t, some f =>
      let ho := if h = 500 then some false else if h = 1000 then some true else none
      let bt := if t = 0 then some false else if t = 500 then some true else none
      some (match ho, bt, (fecNames.zipIdx.find? fun x => txt x.1 = f).map (·.2) with
        | some ho, some bt, some fec => nat2 .host k r fun k r => .rfMode k r ho bt fec
        | _, _, _ => .range .host)
    | _, _, _, _, _ => none
  | _ => none

def rfFrameArgs : List Text → Option Parsed
  | [a, b, c] => match intOf a, kwOf b, intOf c with
    | some p, some s, some w =>
      let coded := if s = txt "C" then some true else if s = txt "U" then some false else none
      some (match coded with
        | some cd => if w = 0 || w = 1 then nat1 .host p fun p => .rfFrame p cd (decide (w = 1)) else .range .host
        | none => .range .host)
    | _, _, _ => none
  | _ => none

def compNames : List String := ["OFF", "TV", "LOOP"]

def rfPwrArgs : List Text → Option Parsed
  | [a, b] => match intOf a, kwOf b with
    | some i, some k => some (match (compNames.zipIdx.find? fun x => txt x.1 = k).map (·.2) with
      | some c => nat1 .host i fun i => .rfPwr i c
      | none => .range .host)
    | _, _ => none
  | _ => none

def rfCxArgs : List Text → Option Parsed
  | [a, b, c, d] => match intOf a, intOf b, intOf c, intOf d with
    | some a, some b, some c, some d =>
      some (if a < 0 || b < 0 || c < 0 || d < 0 then .range .host else .cmd (.rfCx a.toNat b.toNat c.toNat d.toNat))
    | _, _, _, _ => none
  | _ => none

def descListArgs : List Text → Option Parsed
  | [] => some (.cmd (.descListQuery none))
  | [a] => (intOf a).map fun v => nat1 .host v fun n => .descListQuery (some n)
  | _ => none

/-- A register address: a number, or a name; nothing where the form is wrong. -/
def addrOf (t : Text) : Option (Option (BitVec 16)) :=
  match intOf t, kwOf t with
  | some v, _ => some (if 0 ≤ v ∧ v < 65536 then some (BitVec.ofInt 16 v) else none)
  | none, some k => some ((regAddr k).map (BitVec.ofNat 16))
  | none, none => none

def readArgs (as : List Text) : Option Parsed :=
  let mk := fun (a b : Text) => match addrOf a, intOf b with
    | some (some x), some n => some (nat1 .host n fun n => .registerRead x n)
    | some none, some _ => some (.range .host)
    | _, _ => none
  match as with
  | [a] => mk a (txt "1")
  | [a, b] => mk a b
  | _ => none

def writeArgs : List Text → Option Parsed
  | [a, b] => match addrOf a, intOf b with
    | some (some x), some v =>
      some (if v < -2147483648 || 4294967295 < v then .range .host else .cmd (.registerWrite x (BitVec.ofInt 32 v)))
    | some none, some _ => some (.range .host)
    | _, _ => none
  | _ => none

/-! ### The table of commands (Tables 16-1 to 16-13) -/

abbrev ArgForm := List Text → Option Parsed

def cmdsHost : List (String × ArgForm) :=
  [("ID?", args0 .idQuery), ("MODE", modeArgs), ("MODE?", args0 .modeQuery), ("UART.BAUD", argsN .host .uartBaud),
   ("UART.BAUD?", args0 .uartBaudQuery),
   ("RESET", argsK fun k => if k = txt "HOST" then .cmd .resetHost else .range .host),
   ("ST?", args0 .stQuery),
   ("ST.CLR", fun as => match as with | [a] => (intOf a).map fun v => word1 .host v .stClr | _ => none),
   ("JOB?", fun as => match as with
     | [] => some (.cmd (.jobQuery none))
     | as => argsN .host (fun n => .jobQuery (some n)) as),
   ("JOB.PART?", jobPartArgs), ("JOB.CANCEL", argsN .host .jobCancel), ("TEST", testArgs), ("TEST?", args0 .testQuery),
   ("TEL?", telArgs .telQuery), ("TEL.CLR", telArgs .telClr), ("PPS", argsN .host .pps), ("PPS?", args0 .ppsQuery)]

def cmdsTime : List (String × ArgForm) :=
  [("TIME?", args0 .timeQuery), ("TIME", timeArgs), ("STAMP?", args0 .stampQuery),
   ("LOCAL", fun as => match as with | [a] => (intOf a).map fun v => .cmd (.localOfs v) | _ => none),
   ("LOCAL?", args0 .localQuery), ("TMARK", tmarkArgs), ("REF?", args0 .refQuery), ("REF.SET", refSetArgs),
   ("REF.SET?", argsK fun k => .cmd (.refSetQuery (refKeyOf k))), ("RATE?", args0 .rateQuery), ("TRIM", trimArgs),
   ("TRIM?", args0 .trimQuery), ("RATE.EN", argsNN .field .rateEn), ("RATE.EN?", args0 .rateEnQuery), ("AL", alArgs),
   ("AL?", argsN .field .alQuery), ("PER.EVT", perEvtArgs), ("TICKER", tickerArgs), ("PON", ponArgs),
   ("PON.REL", argsK fun k => pick (wakeOf k) .field .ponRel), ("PON?", args0 .ponQuery), ("PER.CFG", argsNN .field .perCfg),
   ("PER.TH", perThArgs), ("PER?", perQArgs)]

def cmdsField : List (String × ArgForm) :=
  [("TRIP.OPEN", fun as => match as with | [a] => (intOf a).map fun v => word1 .field v .tripOpen | _ => none),
   ("TRIP.CLOSE", args0 .tripClose), ("KEEP", argsNH .field .keep), ("KEEP?", argsNOpt .field 1 .keepQuery),
   ("KEEP.SAVE", args0 .keepSave), ("KEEP.LOAD", args0 .keepLoad), ("EV.CFG", evCfgArgs),
   ("EV.CFG?", argsN .field .evCfgQuery), ("EV.OFF", argsN .field .evOff), ("EV?", argsN .field .evQuery),
   ("T.CFG", tCfgArgs), ("T.PLAN", tPlanArgs), ("T.OFS", tOfsArgs), ("T.LEAD", argsNN .field .tLead),
   ("T?", argsN .field .tQuery), ("T.SNAP", args0 .tSnap), ("J?", args0 .jQuery),
   ("J.POLICY", argsK fun k =>
     if k = txt "HOLD" then .cmd (.jPolicy false) else if k = txt "WRAP" then .cmd (.jPolicy true) else .range .field),
   ("J.EXPORT", rangeArgs .jExport), ("J.VERIFY", rangeArgs .jVerify), ("J.ERASE", args0 .jErase),
   ("SEAL?", args0 .sealQuery), ("CAL.RUN", calRunArgs), ("CAL?", args0 .calQuery), ("CAL.SAVE?", args0 .calSaveQuery),
   ("CAL.LOAD", calLoadArgs), ("CAL.COMMIT", args0 .calCommit), ("SUP?", args0 .supQuery), ("SUP.VSW", voltArgs .supVsw),
   ("SUP.BATLOW", voltArgs .supBatlow), ("BAT.PLAN", batPlanArgs)]

def cmdsRadio : List (String × ArgForm) :=
  [("RF?", args0 .rfQuery),
   ("RF.STATE", argsK fun k => pick ((rfStates.find? fun e => txt e.1 = k).map (·.2)) .host .rfState),
   ("RF.CH", argsN .host .rfCh), ("RF.MODE", rfModeArgs), ("RF.FRAME", rfFrameArgs), ("RF.PWR", rfPwrArgs),
   ("RF.CX", rfCxArgs),
   ("RF.TX", fun as => match as with | [a] => (octetsOf a).map fun bs => .cmd (.rfTx bs) | _ => none),
   ("RFTX?", argsN .host .rftxQuery), ("RF.BUF", argsNH .host .rfBuf), ("RF.TXJ", argsN .host .rfTxj),
   ("RFQ?", args0 .rfqQuery), ("RFQ.POP", argsN .host .rfqPop), ("DESC?", argsNN .host .descQuery),
   ("DESC.LIST?", descListArgs), ("DESC.DUMP", args0 .descDump), ("R", readArgs), ("W", writeArgs)]

/-- The argument form of a name in capitals. -/
def formOf (name : Text) : Option ArgForm :=
  ((cmdsHost ++ cmdsTime ++ cmdsField ++ cmdsRadio).find? fun e => txt e.1 = name).map (·.2)

/-- The commands with a text argument (R539), from what follows the name. -/
def textForm (name rest : Text) : Option (Option Parsed) :=
  if name = txt "NOTE" then some (if rest = [] then none else some (.cmd (.note rest)))
  else if name = txt "SEAL.KEY" then
    some (match cutAt ',' rest with
      | (p, some h) => match intOf p with
        | some p => if h = [] then none else some (nat1 .field p fun p => .sealKey p h)
        | none => none
      | (_, none) => none)
  else none

/-! ### Commands and lines (R536, R538 to R540, R552) -/

/-- One command: its reading, or error 10 or 11. -/
def parseCmd (t : Text) : Sum Nat Parsed :=
  let cut := cutAt ' ' t
  let name := upper cut.1
  let rest := cut.2.map trimLeft
  if name = [] then .inl 10
  else match textForm name (trimRight (rest.getD [])) with
    | some (some p) => .inr p
    | some none => .inl 10
    | none => match formOf name with
      | none => .inl 11
      | some form =>
        let as := match rest with
          | none => some []
          | some r => if r = [] || r.any (· = ' ') then none else some (splitOn ',' r)
        match as.bind form with
        | some p => .inr p
        | none => .inl 10

/-- Spaces next to `;` are ignored: the pieces of a line, the first with its leading and the last with its trailing
spaces kept. -/
def trimPieces : Bool → List Text → List Text
  | _, [] => []
  | first, [t] => [if first then t else trimLeft t]
  | first, t :: ts => trimRight (if first then t else trimLeft t) :: trimPieces false ts

/-- The commands in order, up to the first that has no reading: its position and error. -/
def parseAll : Nat → List Text → Sum (Nat × Nat) (List Parsed)
  | _, [] => .inr []
  | k, t :: ts => match parseCmd t with
    | .inl e => .inl (e, k)
    | .inr p => match parseAll (k + 1) ts with
      | .inl e => .inl e
      | .inr ps => .inr (p :: ps)

/-- A line's text: its commands, how many, and the refusal with its position (R540, R552, R559).
DEDUCED, unsafe: notes/assumptions/11.md. -/
def parseLine (t : Text) : List Parsed × Nat × Option (Nat × Option Nat) :=
  let ts := trimPieces true (splitOn ';' t)
  if 16 < ts.length then ([], ts.length, some (10, none))
  else match parseAll 1 ts with
    | .inr ps => (ps, ts.length, none)
    | .inl (e, k) => ([], ts.length, some (e, if ts.length = 1 then none else some k))

end Sys2Proof.Machine
end

