-- ==== Sys2Proof/Machine/Regs.lean ====
section
/-! DEFINITION. Sys2Proof/Machine/Regs.lean: the host core and radio windows: the value of every register and what a write
does (20_register_map.md Tables 20-2, 20-3, 20-5; Tables 14-3, 15-1, 17-4, 18-8, 19-1). -/

namespace Sys2Proof.Machine

/-! ### Values -/

/-- `JOBn_ST` (Table 17-4). -/
def Job.word (j : Job) : Word :=
  BitVec.ofNat 32 (j.st + 16 * j.kind + 2 ^ 8 * j.prog + 2 ^ 16 * j.err + 2 ^ 24 * j.jseq.toNat)

/-- `CL_CFG`. -/
def modeCfg : UMode → Word
  | .human => 0#32
  | .machine => 1#32
  | .machineChk => 3#32

/-- `CL_STAT`. -/
def HostSide.clStat (h : HostSide) : Word :=
  BitVec.ofNat 32 (min h.line.lines.length 8 + 2 ^ 8 * h.uart.rxEn.toNat + 2 ^ 9 * h.uart.rxLow.toNat +
    2 ^ 16 * min h.line.cache.length 32)

/-- `PPS_CTL` (Table 20-5). -/
def Pps.ctl (p : Pps) : Word := BitVec.ofNat 32 (p.on.toNat + 2 * min p.stamps.length 4 + 2 ^ 16 * p.cnt.toNat)

/-- `LINK_STAT` (Table 20-5): 0x0000FF00 until the first valid `TICK` (DEDUCED, unsafe: notes/assumptions/33.md). -/
def HostSide.linkStat (h : HostSide) : Word :=
  if !h.bar.ticked then 0xFF00#32
  else
    BitVec.ofNat 32 (h.bar.train.isSome.toNat + 2 * h.mirOk.toNat + 4 * h.awake.toNat + 2 ^ 8 * h.bar.since.toNat)

/-- A host self-test job is live. -/
def HostSide.testJobs (h : HostSide) : List Nat := h.slotsOf fun i => match i with | .test _ _ _ _ _ _ => true | _ => false

/-- R703, R704, R706: the value of a host core or radio register. -/
def HostSide.regValue (h : HostSide) (a : Nat) : Option Word :=
  let at' := fun (base n : Nat) (g : Nat → Word) => (regIdx base n a).map g
  let two := fun (x y : BitVec 16) => BitVec.ofNat 32 (x.toNat + 2 ^ 16 * y.toNat)
  let u := h.uart
  let b := h.bar
  let r := h.radio
  firstReg [
    at' 0x0000 1 (fun _ => ident),
    at' 0x0004 1 (fun _ => h.table.ptr),
    at' 0x0010 1 (fun _ => h.status),
    at' 0x0014 1 (fun _ => 0#32),
    at' 0x0018 1 (fun _ => h.attnMask),
    at' 0x001C 1 (fun _ => h.attnSrc.setWidth 32),
    at' 0x0020 4 (fun n => (h.jobOf n).word),
    at' 0x0030 4 (fun n => BitVec.ofNat 32 (h.jobOf n).lines.length),
    at' 0x0040 1 (fun _ => BitVec.ofNat 32 u.baud),
    at' 0x0044 1 (fun _ => modeCfg u.mode),
    at' 0x0048 1 (fun _ => h.clStat),
    at' 0x0050 1 (fun _ => two u.frm u.brkN),
    at' 0x0054 1 (fun _ => two u.stuckN u.rxEarly),
    at' 0x0058 1 (fun _ => two u.chk 0#16),
    at' 0x0060 1 (fun _ => two b.crcFH b.retryH),
    at' 0x0064 1 (fun _ => two b.dupH b.trainFail),
    at' 0x0068 1 (fun _ => two b.linkLost 0#16),
    at' 0x0070 1 (fun _ => h.pps.ctl),
    at' 0x0074 1 (fun _ => h.linkStat),
    at' 0x0100 1 (fun _ => h.rot.cfg),
    at' 0x0104 1 (fun _ => h.rot.stat 13 (!h.testJobs.isEmpty)),
    at' 0x0108 1 (fun _ => h.rot.last),
    at' 0x010C 1 (fun _ => h.ovrH.setWidth 32),
    at' 0x0200 56 (fun i => h.domOn[i]?.getD 0#32),
    at' 0x0400 1 (fun _ => h.rfSt),
    at' 0x0404 1 (fun _ => r.chShown),
    at' 0x0408 1 (fun _ => r.phyShown.1),
    at' 0x040C 1 (fun _ => r.phyShown.2),
    at' 0x0410 1 (fun _ => r.paShown),
    at' 0x0414 1 (fun _ => r.cx),
    at' 0x0418 1 (fun _ => h.rssiNow.setWidth 32),
    at' 0x041C 1 (fun _ => r.rfPm),
    at' 0x0420 1 (fun _ => r.err.setWidth 32),
    at' 0x0424 1 (fun _ => r.rfCalq),
    at' 0x0428 1 (fun _ => r.phr.setWidth 32),
    at' 0x0440 6 (fun i => r.cntWord i)]

/-! ### Writes -/

/-- How the host side takes a register write. -/
inductive HostWr where
  /-- unmapped -/
  | none
  /-- refused with an error -/
  | err (e : Nat)
  /-- done at once: RO fields ignored, W1C fields, staging -/
  | now (h : HostSide)
  /-- an RW register: it takes the value at the end of the line -/
  | later (h : HostSide) (value : Word)
  /-- acts as a text command -/
  | baud (b : Nat)
  | mode (m : UMode)
  | clear (mask : Word)
  /-- a group's apply, by its GID, after the fields of the same write -/
  | apply (h : HostSide) (gid : Nat)

/-- R593, R713: PPS_IN stamping; disabling discards the stored stamps. -/
def HostSide.setPps (h : HostSide) (on : Bool) : HostSide :=
  { h with pps := { h.pps with on := on, stamps := if on then h.pps.stamps else [] } }

/-- R680, R672: the coexistence parameters; with `CX_EN` 0 the requests are low; with `LISTEN` 1 nothing suspends reception (R677). -/
def HostSide.setCx (h : HostSide) (w : Word) : HostSide :=
  let h := { h with radio := { h.radio with cx := w, susp := h.radio.susp && bitOf w 0 && !bitOf w 2 } }
  if bitOf w 0 then h else h.cxRelease

/-- Table 18-8: `RF_CX` out of range. -/
def cxBad (w : Word) : Bool :=
  decide (fieldOf w 4 9 < 10) || decide (500 < fieldOf w 4 9) || decide (fieldOf w 16 10 < 1) || decide (1000 < fieldOf w 16 10)

def baudBad (b : Nat) : Bool := decide (b < 9600) || decide (3000000 < b)

/-- The W1C registers of the host windows (R684, R708, R712). -/
def HostSide.clearReg (h : HostSide) (a : Nat) (w : Word) : HostSide :=
  let u := h.uart
  let b := h.bar
  if a = 0x0050 then { h with uart := { u with frm := clr16 u.frm w 0, brkN := clr16 u.brkN w 16 } }
  else if a = 0x0054 then { h with uart := { u with stuckN := clr16 u.stuckN w 0, rxEarly := clr16 u.rxEarly w 16 } }
  else if a = 0x0058 then { h with uart := { u with chk := clr16 u.chk w 0 } }
  else if a = 0x0060 then { h with bar := { b with crcFH := clr16 b.crcFH w 0, retryH := clr16 b.retryH w 16 } }
  else if a = 0x0064 then { h with bar := { b with dupH := clr16 b.dupH w 0, trainFail := clr16 b.trainFail w 16 } }
  else if a = 0x0068 then { h with bar := { b with linkLost := clr16 b.linkLost w 0 } }
  else if a = 0x0108 then { h with rot := { h.rot with fails := clr16 h.rot.fails w 16 } }
  else if a = 0x010C then { h with ovrH := clr16 h.ovrH w 0 }
  else if a = 0x0420 then { h with radio := { h.radio with err := h.radio.err &&& ~~~(w.setWidth 5) } }
  else match regIdx 0x0200 56 a with
    | some i => if w = 0xFFFFFFFF#32 then { h with domOn := h.domOn.setIfInBounds i 0#32 } else h
    | none => match regIdx 0x0440 6 a with
      | some i =>
        let r := h.radio
        let lo := clr16 (r.cnt[2 * i]?.getD 0#16) w 0
        let hi := clr16 (r.cnt[2 * i + 1]?.getD 0#16) w 16
        { h with radio := { r with cnt := (r.cnt.setIfInBounds (2 * i) lo).setIfInBounds (2 * i + 1) hi } }
      | none => h

/-- A staged write with its apply bit (R561, R564, R707). -/
def HostSide.stageWr (h : HostSide) (r : Option Radio) (gid : Nat) (apply : Bool) : HostWr :=
  match r with
  | none => .err 20
  | some r => if apply then .apply { h with radio := r } gid else .now { h with radio := r }

/-- A write of a host core or radio register (R612, R685, R704, R706 to R708).
DESIGN CHOICE, unsafe: notes/assumptions/73.md. -/
def HostSide.writeReg (h : HostSide) (a : Nat) (w : Word) : HostWr :=
  let ap := bitOf w 31
  if (h.regValue a).isNone then .none
  else if a = 0x0014 then .clear w
  else if a = 0x0018 then (if w &&& ~~~attnMaskBits = 0#32 then .later h w else .err 20)
  else if a = 0x0040 then (if baudBad (fieldOf w 0 22) then .err 20 else .baud (fieldOf w 0 22))
  else if a = 0x0044 then .mode (if !bitOf w 0 then .human else if bitOf w 1 then .machineChk else .machine)
  else if a = 0x0070 then .later { h with pps := { h.pps with cnt := clr16 h.pps.cnt w 16 } } (w &&& 1#32)
  else if a = 0x0100 then (if fieldOf w 16 16 < 64 then .err 20 else .later h (w &&& 0xFFFF0001#32))
  else if a = 0x0414 then
    (if cxBad w then .err 20 else if h.radio.tx.isSome then .err 70 else .later h (w &&& 0x03FF1FF7#32))
  else if a = 0x0404 then h.stageWr (h.radio.stageCh w) 9 ap
  else if a = 0x0408 then h.stageWr (h.radio.stagePhy w) 10 ap
  else if a = 0x040C then h.stageWr (h.radio.stageFrm w) 10 false
  else if a = 0x0410 then h.stageWr (h.radio.stagePa w) 11 ap
  else .now (h.clearReg a w)

/-- The end of a line: an RW register of the host windows, or a register of a validated set, takes its value (Table 0-3, R567). -/
def HostSide.putReg (h : HostSide) (a : Nat) (w : Word) : HostSide :=
  if a = 0x0018 then { h with attnMask := w }
  else if a = 0x0070 then h.setPps (bitOf w 0)
  else if a = 0x0100 then { h with rot := { h.rot with cfg := w } }
  else if a = 0x0414 then h.setCx w
  else if a = 0x0404 then h.rfTune w
  else if a = 0x0408 then { h with radio := { h.radio with phy := w } }
  else if a = 0x040C then { h with radio := { h.radio with frm := w } }
  else if a = 0x0410 then { h with radio := { h.radio with pa := w } }
  else h

/-- R567, R570: at the end of a line the RW registers of the host windows and the validated sets commit, in order. -/
def HostSide.putRegs (h : HostSide) (ws : List (Nat × Word)) : HostSide := ws.foldl (fun h w => h.putReg w.1 w.2) h

/-- An apply of a host group that is a line of its own. -/
def HostSide.groupNow (h : HostSide) (gid : Nat) : HostSide :=
  let x := h.groupApply gid
  x.1.putRegs x.2.2

end Sys2Proof.Machine
end

