-- ==== Sys2Proof/Machine/LineOps.lean ====
section
/-! DEFINITION. Sys2Proof/Machine/LineOps.lean: what the commands of a line share (15_command_line.md sections 5 and 6): the
line under way, its accesses to the field window and their errors, its pair groups, its jobs and its cancels. -/

namespace Sys2Proof.Machine

/-! ### The line under way -/

/-- The state with the line that executes. -/
structure Lx where
  s : State
  c : Cur
  deriving DecidableEq, Repr

/-- What a command answers (R558): nothing, a value, a block, an error; or it waits, or has an access to be sent. -/
inductive CmdRes where
  | ok
  | val (t : Text)
  | block (ls : List Text)
  | err (e : Nat)
  | wait (w : Wait')
  | ask (x : Acc)
  deriving DecidableEq, Repr

def Lx.host (l : Lx) (g : HostSide → HostSide) : Lx := { l with s := l.s.host g }
def Lx.ok (l : Lx) : Lx × CmdRes := (l, .ok)
def Lx.fail (l : Lx) (e : Nat) : Lx × CmdRes := (l, .err e)

/-- A command goes on where what it did so far left no error and no access waits. -/
def thenDo (r : Lx × CmdRes) (g : Lx → Lx × CmdRes) : Lx × CmdRes :=
  match r.2 with
  | .err e => (r.1, .err e)
  | .ask x => (r.1, .ask x)
  | _ => g r.1

/-! ### Accesses of a line (R54, R107, R111 to R119, R581) -/

/-- The barrier field end is ready (Table 5-2): the field side runs, its calibration is restored, two start frames have passed.
DEDUCED, unsafe: notes/assumptions/43.md. -/
def Field.barReady (f : Field) : Bool := f.runs && f.start.restored && decide (2 ≤ f.start.frames)

/-- The host domains of a message (R91). -/
def HostSide.msgDomains (h : HostSide) : HostSide := (((h.domain 12).domain 13).domain 14).domain 15

/-- w0 of a `REGRD` or `REGWR` (Table 4-6). -/
def regWord (place a : Nat) : Word := BitVec.ofNat 32 (place % 4 * 2 ^ 28 + a % 2 ^ 16)

/-- The transaction of an access. -/
def Acc.type : Acc → MsgType
  | .read _ => .regrd
  | .write _ _ => .regwr
  | .stClr _ => .regwr
def Acc.words (place : Nat) : Acc → List Word
  | .read a => [regWord place a]
  | .write a w => [regWord place a, w]
  | .stClr m => [regWord place Config.stClrAddr.toNat, m]

/-- The answer of a register read (R113, Table 4-7). -/
def Field.answerRead (f : Field) (seq : BitVec 4) (a : Nat) : Field × Txn :=
  match f.readReg f.clk a with
  | some (w, g) => (g, ⟨.regdat, seq, [w], none⟩)
  | none => (f, nakOf .regrd seq 0x14)

/-- The answer of a register write (R118); an unmapped address may be the one that carries the field half of `ST.CLR` (R588). -/
def Field.answerWrite (f : Field) (seq : BitVec 4) (a : Nat) (w : Word) : Field × Txn :=
  let r := f.writeReg f.clk a w
  if r.2 = 0 then (r.1, ackOf .regwr seq)
  else if (f.regValue f.clk a).isNone && decide (a = Config.stClrAddr.toNat) then
    (f.pend (.stClr (w &&& fieldMask)), ackOf .regwr seq)
  else (r.1, nakOf .regwr seq r.2)

/-- What an access does at the field side, and its answer. -/
def Field.serve (f : Field) (seq : BitVec 4) : Acc → Field × Txn
  | .read a => f.answerRead seq a
  | .write a w => f.answerWrite seq a w
  | .stClr m => (f.pend (.stClr (m &&& fieldMask)), ackOf .regwr seq)

/-- What an answer tells: the error, 0 for none, and the value (Table 4-6). -/
def resultOf (t : Txn) : Nat × Word :=
  match t.ty with
  | .regdat => (0, t.words.headD 0#32)
  | .nak => (fieldOf (t.words.headD 0#32) 0 8, 0#32)
  | _ => (0, 0#32)

/-- R729, R730: the host side holds the polarity of PON_H; a drive that waited for it takes effect. -/
def HostSide.ponHeld (h : HostSide) (w : Word) : HostSide :=
  { h with pon := { h.pon with cfg := some w, on := h.pon.on || h.pon.wait, wait := false } }

/-- R729: a write of `PON_CFG` that was accepted is copied. -/
def HostSide.copied (h : HostSide) (x : Acc) (e : Nat) : HostSide :=
  match x with
  | .write a w => if a = 0x122C && e = 0 then h.ponHeld (w &&& 0xFF01FF03#32) else h
  | .read _ => h
  | .stClr _ => h

/-- Nothing stands on the lanes or waits on the host stream, and the field end answers a new transaction. -/
def State.quiet (s : State) : Bool :=
  s.f.barReady && s.f.bar.sendTick && s.h.bar.unans.isNone && s.h.bar.queue.isEmpty &&
    s.h.bar.lane.all (fun t => t.ty = .idle) && s.f.bar.lane.isEmpty && decide (s.f.bar.lastSeq ≠ some s.h.bar.nextSeq)

/-- On quiet lanes an access of a line and its answer cross within the step, with the next `SEQ` of the host stream (R112, R113,
R115; DESIGN CHOICE, unsafe: notes/assumptions/34.md). -/
def State.access (s : State) (x : Acc) : State × (Nat × Word) :=
  let q := s.h.bar.nextSeq
  let r := s.f.serve q x
  ({ s with
      h := { s.h.msgDomains with bar := { s.h.bar with nextSeq := q + 1 } }.copied x (resultOf r.2).1,
      f := { r.1 with bar := { r.1.bar with lastSeq := some q, lastAns := some r.2 } } }, resultOf r.2)

/-- R142, R147, R581: an access while `LINK` is clear fails with ERR 60; one that has been answered gives its answer; on quiet lanes it
is answered at once; else it has to be sent. -/
def Lx.access (l : Lx) (x : Acc) : Lx × Option (Nat × Word) :=
  match l.c.ans[l.c.used]? with
  | some r => ({ l with c := { l.c with used := l.c.used + 1 } }, some r)
  | none =>
    if !l.s.h.bar.link then (l, some (60, 0#32))
    else if l.s.quiet then
      let r := l.s.access x
      (⟨r.1, { l.c with ans := l.c.ans ++ [r.2], used := l.c.used + 1 }⟩, some r.2)
    else (l, none)

/-! ### Reads (R54, R210 to R212) -/

/-- One `REGRD` with its `REGDAT`. -/
def Lx.readWord (l : Lx) (a : Nat) : Lx × CmdRes :=
  let r := l.access (.read a)
  match r.2 with
  | none => (r.1, .ask (.read a))
  | some (0, w) => (r.1, .val (hexText 8 w.toNat))
  | some (e, _) => r.1.fail e

/-- Reads in turn. -/
def Lx.reads : List Nat → Lx → Lx × CmdRes
  | [], l => l.ok
  | a :: as, l => thenDo (l.readWord a) (Lx.reads as)

/-- The registers of the snapshot set (Tables 6-1 and 6-3). -/
def inSnapshot (a : Nat) : Bool := (regIdx 0x1000 11 a).isSome || (regIdx 0x1080 7 a).isSome

/-- R211: the snapshot set between its two reads of `FRAME`. -/
def snapshotAddrs : List Nat :=
  [0x1000, 0x1004, 0x1008, 0x100C, 0x1010, 0x1014, 0x1018, 0x101C, 0x1024, 0x1028, 0x1080, 0x1084, 0x1088, 0x108C, 0x1090, 0x1094,
    0x1098]

/-- R211: one read of the whole set: whether its two `FRAME` values agree. -/
def Lx.readSet (l : Lx) (g : Lx → Bool → Lx × CmdRes) : Lx × CmdRes :=
  let first := l.readWord 0x1020
  thenDo first fun l => thenDo (Lx.reads snapshotAddrs l) fun l =>
    let last := l.readWord 0x1020
    thenDo last fun l => g l (decide (first.2 = last.2))

/-- R210, R212: with the snapshot of the line: taken at the first access, once more where `FRAME` moved, then ERR 23. The values
are those of the frame in which the set was complete (DESIGN CHOICE, unsafe: notes/assumptions/34.md). -/
def Lx.snapped (l : Lx) (g : Lx → Lx × CmdRes) : Lx × CmdRes :=
  let take := fun (l : Lx) =>
    g { l with c := { l.c with snap := some l.s.f.clk, ans := l.c.ans.drop l.c.used, used := 0 } }
  match l.c.snap with
  | some _ => g l
  | none => l.readSet fun l same =>
      if same then take l else l.readSet fun l same => if same then take l else l.fail 23

def Lx.clk (l : Lx) : Clk := l.c.snap.getD l.s.f.clk

/-- A register of the field window, as the line reads it. -/
def Lx.readField (l : Lx) (a : Nat) : Lx × CmdRes :=
  if inSnapshot a then l.snapped fun l => (l, .val (hexText 8 ((l.s.f.regValue l.clk a).getD 0#32).toNat))
  else l.readWord a

/-- A query of the field side: it reads the registers `as`, and shows what they stand for as the field side is then (R54,
DESIGN CHOICE, unsafe: notes/assumptions/34.md). -/
def Lx.query (l : Lx) (as : List Nat) (g : Field → CmdRes) : Lx × CmdRes := thenDo (Lx.reads as l) fun l => (l, g l.s.f)

/-! ### Writes (R55, R561 to R570) -/

/-- One access that answers no value. -/
def Lx.send (l : Lx) (x : Acc) : Lx × CmdRes :=
  let r := l.access x
  match r.2 with
  | none => (r.1, .ask x)
  | some (0, _) => r.1.ok
  | some (e, _) => r.1.fail e

/-- One `REGWR` with its answer. -/
def Lx.writeField (l : Lx) (a : Nat) (w : Word) : Lx × CmdRes := l.send (.write a w)

/-- A text command sets fields of an RW register: it reads the register, and the rest keeps what waits for the commit
(DEDUCED, unsafe: notes/assumptions/35.md). -/
def Lx.setField (l : Lx) (a : Nat) (g : Word → Word) : Lx × CmdRes :=
  thenDo (l.readWord a) fun l => l.writeField a (g (l.s.f.pendValue a))

/-- Several writes; the first that fails ends them. -/
def Lx.writeAll (l : Lx) : List (Nat × Word) → Lx × CmdRes
  | [] => l.ok
  | (a, w) :: rest => thenDo (l.writeField a w) fun l => l.writeAll rest

/-! ### Pair groups (R564, R717, Table 20-7) -/

/-- R584: a text command names a group. -/
def Lx.name (l : Lx) (gid : Nat) : Lx :=
  if l.c.groups.any fun e => e.1 = gid then l else { l with c := { l.c with groups := l.c.groups ++ [(gid, l.c.k)] } }

/-- R717: a group that its bit applied is not applied again at the end of the line. -/
def Lx.unname (l : Lx) (gid : Nat) : Lx := { l with c := { l.c with groups := l.c.groups.filter fun e => e.1 ≠ gid } }

/-- Stage through `r` and name the group. -/
def Lx.staged (r : Lx × CmdRes) (gid : Nat) : Lx × CmdRes := thenDo r fun l => (l.name gid).ok

/-- The group whose apply bit a field-window write carries. -/
def bitGroup (a : Nat) (w : Word) : Option Nat :=
  if a = 0x1060 then (if bitOf w 0 then some 1 else none)
  else if !bitOf w 31 then none
  else if a = 0x1208 then some 2
  else if a = 0x1218 then some 3
  else if a = 0x1240 then some 4
  else (regIdx 0x1510 4 a).map (· + 5)

/-- The `REGWR` that applies a field group: its apply bit beside what the register has staged (R564, R707). -/
def Field.applyWrite (f : Field) (gid : Nat) : Nat × Word :=
  let bit := fun (w : Word) => withBit w 31 true
  match gid with
  | 1 => (0x1060, 1#32)
  | 2 => (0x1208, bit ((f.regValue f.clk 0x1208).getD 0#32))
  | 3 => (0x1218, bit ((f.regValue f.clk 0x1218).getD 0#32))
  | 4 => (0x1240, bit ((f.regValue f.clk 0x1240).getD 0#32))
  | n => (0x1510 + 4 * (n - 5), bit ((f.regValue f.clk (0x1510 + 4 * (n - 5))).getD 0#32))

/-- The apply of a group by its `GID` (R223, R224, R565, R718): of a host group within the host side (it commits at the end of the line),
of a field group by the `REGWR` of its apply bit, with the register read before where `LOCAL` alone may have been staged. -/
def Lx.applyGroup (l : Lx) (gid : Nat) : Lx × CmdRes :=
  if 9 ≤ gid then
    let r := l.s.h.groupApply gid
    ({ s := { l.s with h := r.1 }, c := { l.c with writes := l.c.writes ++ r.2.2 } }, if r.2.1 = 0 then .ok else .err r.2.1)
  else
    let go := fun (l : Lx) => let x := l.s.f.applyWrite gid; l.writeField x.1 x.2
    if gid = 4 then thenDo (l.readWord 0x1240) go else go l

/-- The access of the present command has been taken: the next one starts afresh. -/
def Lx.fresh (l : Lx) : Lx := { l with c := { l.c with ans := [], used := 0 } }

/-- The line holds until access `x` is answered. -/
def Lx.hold (l : Lx) (x : Acc) : Lx :=
  { s := l.s.host fun h => h.send x.type (x.words l.c.place) none, c := { l.c with used := 0, wait := some (.access x) } }

/-- R564: the groups in the order in which they were named, each on its own; the first refusal with its position. An apply that
waits for its answer holds the line before its group. -/
def Lx.applyGroups : List (Nat × Nat) → Lx → Lx
  | [], l => { l with c := { l.c with groups := [] } }
  | (gid, k) :: rest, l =>
    let r := l.applyGroup gid
    match r.2 with
    | .ask x => Lx.hold { r.1 with c := { r.1.c with groups := (gid, k) :: rest } } x
    | .err e => Lx.applyGroups rest { r.1.fresh with c := { r.1.fresh.c with refused := r.1.c.refused.or (some (e, k)) } }
    | _ => Lx.applyGroups rest r.1.fresh

/-! ### Field commands (R557, R582) -/

/-- A field command goes out, and the line waits for its `RSPX`. -/
def Lx.fieldCmd (l : Lx) (cmd : FieldCmd) : Lx × CmdRes :=
  if !l.s.h.bar.link then l.fail 60
  else
    let seq := l.s.h.bar.nextSeq
    (l.host fun h => h.send .cmdx (cmdxWords cmd) (some cmd), .wait (.field cmd seq 0))

/-- R585: one that starts a job needs a free slot. -/
def Lx.fieldJob (l : Lx) (cmd : FieldCmd) : Lx × CmdRes :=
  if !l.s.h.bar.link then l.fail 60 else if l.s.h.freeSlot.isNone then l.fail 50 else l.fieldCmd cmd

/-- R585: a job begins; `=Jn`. -/
def Lx.begin (l : Lx) (kind : Nat) (lines : List Text) (info : JobInfo) : Lx × CmdRes :=
  match l.s.h.startJob kind lines info with
  | none => l.fail 50
  | some (h, i) => ({ l with s := { l.s with h := h } }, .val ('J' :: decText i))

/-- The BSNs of a range; a ring-only export has none (R430). -/
def bsnRange (first last : Word) : List Word :=
  if first ≤ last then (List.range (last.toNat + 1 - first.toNat)).map fun i => first + BitVec.ofNat 32 i else []

/-- The text of a stamp from its words (R214). -/
def stampText (hi lo fr : Word) : Text :=
  hexText 2 (fieldOf hi 0 8) ++ hexText 8 lo.toNat ++ '.' :: hexText 8 fr.toNat
def natStamp (n : Nat) : Text := hexText 10 (n / 2 ^ 32) ++ '.' :: hexText 8 (n % 2 ^ 32)

/-- The start of an export or a verify from its `RSPX`: the head and anchor lines of an export (R431). -/
def Lx.beginJrn (l : Lx) (verify : Bool) (ws : List Word) : Lx × CmdRes :=
  let w := fun i => ws[i]?.getD 0#32
  let anchor := slotOfWords (ws.drop 8)
  let head := commas [txt "+H", hexText 8 (w 6).toNat, hexText 8 (w 0).toNat, hexText 8 (w 1).toNat, hexText 8 (w 2).toNat,
    stampText (w 3) (w 4) (w 5)]
  let lines := if verify then [] else [head, txt "+A," ++ hexBytes (slotBytes anchor)]
  l.begin (if verify then 2 else 1) lines (.journal (bsnRange (w 1) (w 2)) [] (w 7).toNat 0 none anchor 0 0 false)

/-- What a field command answers once its `RSPX` has come (R557, R558). -/
def Lx.answered (l : Lx) (cmd : FieldCmd) (e : Nat) (ws : List Word) : Lx × CmdRes :=
  if e ≠ 0 then l.fail e
  else match cmd with
    | .evq _ => match (ws.headD 0#32).toNat with
      | 0 => (l, .block [])
      | n => (l, .wait (.evts n))
    | .tq _ => (l, .wait .samp)
    | .jExport _ => l.beginJrn false ws
    | .jVerify _ => l.beginJrn true ws
    | .jErase => l.begin 3 [] (.erase (ws.headD 0#32).toNat)
    | .calRun item _ => l.begin 4 [] (.cal item (ws.map BitVec.toNat) ws.length false)
    | .test forced => l.begin 5 [] (.test forced hostPlaces 30 0 0 0)
    | .snap => l.ok
    | .tripOpen _ => l.ok
    | .tripClose => l.ok
    | .keepSave => l.ok
    | .keepLoad => l.ok
    | .note _ => l.ok
    | .sealKey _ _ => l.ok
    | .calLoad _ _ => l.ok
    | .calLoadGo => l.ok
    | .calCommit => l.ok
    | .testFail _ _ _ _ => l.ok

/-! ### Cancels (R591) -/

/-- R434, R435: the field side's part of an export, verify or erase job ends without effect. -/
def Field.dropJrnJob (f : Field) : Field := { f with jrn := { f.jrn with job := none } }
def Field.dropErase (f : Field) : Field := { f with jrn := { f.jrn with eraseJob := false } }

/-- R435, R486, R521, R591, R661: the job in slot `i` is cancelled. -/
def State.cancelJob (s : State) (i : Nat) : State :=
  let ended := fun (s : State) => s.host fun h => h.endJob i 6 0
  match (s.h.jobOf i).info with
  | .journal _ _ _ _ _ _ _ _ _ => ended { s with f := s.f.dropJrnJob }
  | .erase _ => ended { s with f := s.f.dropErase }
  | .cal item lanes _ _ => ended { s with f := s.f.calCancel item lanes }
  | .test _ _ _ _ _ _ => if s.f.tst.job.isSome then s.withField s.f.cancelTest else ended s
  | .rftx _ => ended (s.host fun h => h.rfCancel i)
  | .rfCal item => ended (s.host fun h => { h with radio := h.radio.setCal item ⟨(h.radio.calOf item).due, none⟩ })
  | .desc _ => ended s
  | .none => ended s

end Sys2Proof.Machine
end

