-- ==== Sys2Proof/Machine/Queries.lean ====
section
/-! DEFINITION. Sys2Proof/Machine/Queries.lean: what the queries of 16_commands.md show. -/

namespace Sys2Proof.Machine

def bitText (b : Bool) : Text := txt (if b then "1" else "0")

/-! ### Numbers with fraction digits -/

/-- `v` in units of 10^-k, with `k` fraction digits. -/
def fixText (k : Nat) (v : Int) : Text :=
  (if v < 0 then txt "-" else []) ++ decText (v.natAbs / 10 ^ k) ++ '.' :: decPad k (v.natAbs % 10 ^ k)

/-- A Q22.10 temperature in °C with three fraction digits, ties away from zero (16_commands.md section 1). -/
def tempText (v : Int) : Text := fixText 3 (roundDiv (v * 1000) 1024)

/-! ### Jobs (R589) -/

def jobKind : Nat → Text
  | 1 => txt "EXPORT"
  | 2 => txt "VERIFY"
  | 3 => txt "ERASE"
  | 4 => txt "CAL"
  | 5 => txt "TEST"
  | 6 => txt "RFTX"
  | 7 => txt "DESC"
  | _ => txt "-"

def jobState : Nat → Text
  | 0 => txt "IDLE"
  | 1 => txt "QUEUED"
  | 2 => txt "RUNNING"
  | 3 => txt "DONE_OK"
  | 4 => txt "DONE_PARTIAL"
  | 5 => txt "FAILED"
  | _ => txt "CANCELLED"

def Job.text (j : Job) (n : Nat) : Text :=
  commas ['J' :: decText n, jobKind j.kind, jobState j.st, decText j.prog, decText j.lines.length, decText j.err]

/-! ### Time (R213, R214) -/

def dateText (y m d : Nat) : Text := decPad 4 y ++ '-' :: decPad 2 m ++ '-' :: decPad 2 d
def clockText (h m s : Nat) : Text := decPad 2 h ++ ':' :: decPad 2 m ++ ':' :: decPad 2 s

def Clk.timeText (c : Clk) : Text :=
  let d := civilOf c.civilSec
  commas [dateText d.year d.month d.date, clockText d.hour d.min d.sec, decPad 2 c.frame, decText (dowOf (c.civilSec / 86400)),
    hexText 4 c.epn.toNat]

def Clk.stampText (c : Clk) : Text := natStamp c.stamp.toNat

/-- R593: the `+P` lines. -/
def Pps.lines (p : Pps) : List Text :=
  p.stamps.map fun e =>
    commas [txt "+P", natStamp e.1.stamp, hexText 2 (e.1.unl.toNat + 2 * e.1.trn.toNat + 4 * e.2.toNat)]

/-! ### References and rate (R594, R595, Table 16-5) -/

def Tref.text : Tref → Text
  | .hold => txt "HOLD"
  | .radio => txt "RF"
  | .pps => txt "PPS"
  | .none => txt "NONE"

def Field.refText (f : Field) : Text :=
  let r := f.refs
  commas [r.tref.text, decText (refStCode r.pps.st), decText (refStCode r.rf.st), bitText r.ho.isSome, bitText r.slewOn,
    bitText r.slewLeap, intText r.discRes.toInt, decText f.holdSec]

/-- R583: a value of `REF.SET`. -/
def Field.refKeyText (f : Field) (k : RefKey) : Text :=
  let w := f.refs.cfg
  match k with
  | .rank => txt (if bitOf w 2 then "RF" else "PPS")
  | .bw => decText (fieldOf w 4 4)
  | .step => decText (fieldOf f.refs.stepLim 0 14)
  | .leap => bitText (bitOf w 3)
  | .ppsen => bitText (bitOf w 0)
  | .rfen => bitText (bitOf w 1)
  | .rfint => decText (fieldOf w 8 8)

def Field.rateText (f : Field) : Text :=
  let r := f.rate
  let q := f.rateQ
  commas [if r.tvalid then fixText 2 (roundDiv (r.tdie.toInt * 100) 64) else txt "-", txt (if r.fast then "F" else "S"),
    fixText 3 (rateWord r.rc).toInt, fixText 3 (rateWord f.refs.rd).toInt,
    if q = 0xFFFF then txt "-" else fixText 1 (q : Nat), decText r.lrnOk.toNat, decText r.lrnRej.toNat, decText r.lrnAbt.toNat]

/-! ### Alarms, outputs, periods, KEEP (R597 to R599) -/

/-- A BCD byte, or its masked form. -/
def bcdText (mask : Bool) (b : Nat) : Text := if mask then txt "xx" else hexText 2 b

def Alarm.text (a : Alarm) (n : Nat) : Text :=
  let m := bitOf a.ctl
  let t := fun i => bcdText (m i) (fieldOf a.time (8 * i) 8)
  let d := fun i => bcdText (m (4 + i)) (fieldOf a.date (8 * i) 8)
  commas [txt "AL" ++ decText n, t 2 ++ ':' :: t 1 ++ ':' :: t 0,
    if m 3 then txt "x" else decText (fieldOf a.time 24 8), d 2 ++ '-' :: d 1 ++ '-' :: d 0,
    setText actNames (fieldOf a.ctl 8 5), bitText (bitOf a.ctl 15), decText a.fired.toNat, hexText 2 a.lflags.toNat]

def Wake.ponText (w : Wake) : Text :=
  let c := w.ponCfg
  let mode := fun b => txt (if bitOf c b then "PULSE" else "LEVEL")
  commas [mode 0, decText (fieldOf c 8 8), txt (if bitOf c 1 then "HIGH" else "LOW"), bitText w.ponH, mode 16,
    decText (fieldOf c 24 8), bitText w.ponF]

/-- R598: the head of a `PER?` answer. An open instance has met no step that cleared `TIME_INVALID`. -/
def Inst.headText (i : Inst) (trip : Bool) : List Text :=
  let ident := if trip then hexText 8 i.ident else
    let d := civilOf (i.ident * 86400)
    dateText d.year d.month d.date
  [txt (if trip then "TRIP" else "DAY"), ident, decText i.inst,
    hexText 2 (i.partialF.toNat + 2 * i.overlap.toNat + 8 * i.thchg.toNat)]

def Field.perText (f : Field) (set : PerSet) (a : PerArg) : CmdRes :=
  let trip := decide (set = .trip)
  let inst := if trip then f.per.trip else f.per.day
  match inst with
  | none => .err 22
  | some i =>
    let i := i.settleAll f.per.hi f.per.lo true (stampFrames f.clk.stamp)
    match a with
    | .ev =>
      let act := fun k => if bitOf f.per.cfg (8 + k) then i.active[k]?.getD 0 else 0
      .val (commas (i.headText trip ++ (List.range 8).map fun k => decText (act k)))
    | .chan n =>
      if 3 < n then .err 20
      else
        let c := i.ch[n]?.getD ChAcc.zero
        let t := fun v => if c.count = 0 then txt "-" else tempText v
        .val (commas (i.headText trip ++ [t c.min, t c.max, t (roundDiv c.sum c.count), decText c.count, decText c.above,
          decText c.below, decText c.faults]))

def Keep.text (k : Keep) (n c : Nat) : Text :=
  let b := (List.range c).map fun i => k.bytes[n + i]?.getD 0#8
  let p := (List.range c).foldl (fun a i => a + 2 ^ i * (k.perr.getLsbD (n + i)).toNat) 0
  commas [hexBytes b, hexText 4 p]

/-! ### Events and temperature (R374, R405, R583) -/

def evCfgText (w : Word) : Text :=
  commas [bitText (evEnabled w), txt (if evEdgeSel w = 0 then "R" else if evEdgeSel w = 1 then "F" else "B"), decText (evFilt w),
    bitText (evJrn w)]

/-- R374: the line of an entry, from the words of its `EVT`. -/
def evtLine (w0 w1 w2 : Word) : Text :=
  commas [txt "+EV" ++ decText (fieldOf w0 28 3), txt (if bitOf w0 27 then "R" else "F"), stampText w0 w1 w2,
    hexText 2 ((bitOf w0 26).toNat + 2 * (bitOf w0 25).toNat)]

/-- R405: the value of a `SAMP`. -/
def sampText (w0 w1 w2 w3 : Word) : Text :=
  commas ['T' :: decText (fieldOf w0 30 2), hexText 8 w3.toNat, stampText w0 w1 w2,
    hexText 2 ((bitOf w0 29).toNat + 2 * (bitOf w0 28).toNat + 4 * (bitOf w0 27).toNat + 8 * (bitOf w0 26).toNat)]

/-! ### Journal, seal, calibration, supply (R602, R604 to R606, R493) -/

def Field.jText (f : Field) : Text :=
  let st := f.jrnReg 1
  let exp := f.jrnReg 4
  commas [txt (if f.jrn.policy then "WRAP" else "HOLD"), decText (fieldOf st 0 7), decText (fieldOf st 7 1),
    decText (fieldOf st 8 8), decText (fieldOf st 16 7),
    txt (if fieldOf st 23 2 = 0 then "NONE" else if fieldOf st 23 2 = 1 then "FULL" else "WORN"),
    decText (fieldOf (f.jrnReg 5) 0 16), hexText 8 (f.jrnReg 2).toNat, hexText 8 (f.jrnReg 3).toNat,
    if exp = 0xFFFFFFFF#32 then txt "-" else hexText 8 exp.toNat]

def Field.sealText (f : Field) : Text :=
  let w := f.jrnReg 10
  commas [bitText (bitOf w 0), hexText 1 (fieldOf w 1 4), hexText 4 (if bitOf w 0 then fieldOf w 16 16 else 0)]

def Field.calText (f : Field) : Text :=
  let w := f.calRegs 1
  let age := fieldOf w 16 16
  commas [hexText 2 (fieldOf w 0 4), decText (fieldOf w 4 2), decText (fieldOf w 6 1), decText (fieldOf w 7 1),
    decText (fieldOf w 8 1), decText (fieldOf w 9 1), decText (fieldOf w 10 1), if age = 0xFFFF then txt "-" else decText age]

/-- R493: the 34 lines of an image. -/
def imageLines (img : List Byte) : List Text :=
  (List.range 34).map fun i => commas ['+' :: decPad 2 i, hexBytes ((img.drop (16 * i)).take 16)]

def Field.supText (f : Field) : Text :=
  let s := f.sup
  commas [txt (match s.sel with | .vfld => "VFLD" | .iso => "ISO" | .vbat => "VBAT" | .vbk => "VBK"), bitText s.vfldOk,
    bitText s.isoOk, bitText s.vbatOk, bitText s.isoOffer, if s.batMeas then decText s.vbatMv.toNat else txt "-",
    decText s.swCommit.toNat, decText s.swCancel.toNat]

/-! ### Radio (R607 to R609) -/

def Radio.text (r : Radio) : Text :=
  commas [r.st.name, decText r.hertz, decText (fieldOf r.pa 0 6), decText r.rxq.length, bitText r.tx.isSome]

/-- The lines of `RFQ?`. -/
def RxPkt.lines (p : RxPkt) : List Text :=
  let n := (p.psdu.length + 63) / 64
  commas [txt "+Q", decText p.id.toNat, natStamp p.s.stamp, hexText 2 (p.s.unl.toNat + 2 * p.s.trn.toNat + 4 * p.fcst.toNat),
    intText p.rssi, decText p.psdu.length] ::
    (List.range n).map fun i => commas [txt "+D", decText (64 * i), hexBytes ((p.psdu.drop (64 * i)).take 64)]

/-! ### Tests and telemetry (R510, R524, Table 14-2) -/

def testText (side : String) (r : Rot) (total : Nat) : Text :=
  commas [txt side, decText r.rot.toNat, decText r.done, decText total, decText r.fails.toNat]

/-- The sides whose items a group holds. -/
def telField : TelGroup → Bool
  | .uart => false
  | .rf => false
  | .domH _ => false
  | _ => true

/-- A domain id that exists. -/
def telBad : TelGroup → Bool
  | .domF i => decide (92 ≤ i)
  | .domH i => decide (56 ≤ i)
  | _ => false

/-- The field registers that hold the items of a group, and the writes that clear its clearable ones (Tables 14-2, 14-3, 20-4). -/
def telReads : TelGroup → List Nat
  | .frame => [0x1790]
  | .uart => []
  | .bar => [0x1690, 0x1694]
  | .sup => [0x1684, 0x1688]
  | .nvm => [0x1604, 0x1618, 0x161C]
  | .tdc => [0x1710, 0x1424]
  | .cal => [0x1730]
  | .rf => []
  | .flag => [0x178C]
  | .test => [0x1784, 0x1788]
  | .domF i => [0x1A00 + 4 * i]
  | .domH _ => []
def telWrites : TelGroup → List (Nat × Word)
  | .frame => [(0x1790, 0xFFFFFFFF#32)]
  | .uart => []
  | .bar => [(0x1690, 0xFFFFFFFF#32), (0x1694, 0xFFFF#32)]
  | .sup => [(0x1688, 0xFFFFFFFF#32)]
  | .nvm => []
  | .tdc => [(0x1424, 0xFFFFFFFF#32)]
  | .cal => [(0x1730, 0xFFFFFFFF#32)]
  | .rf => []
  | .flag => [(0x178C, 1#32)]
  | .test => [(0x1788, 0xFFFF0000#32)]
  | .domF i => [(0x1A00 + 4 * i, 0xFFFFFFFF#32)]
  | .domH _ => []

def telLine (name : String) (v : Nat) : Text := commas ['+' :: txt name, decText v]

def rfCntNames : List String :=
  ["RX_OK", "RX_DROP", "PHR_BAD", "MSW", "RX_ABORT", "TX_OK", "TX_DENY", "CX_ABORT", "CX_RXDENY", "UNLOCK", "CALREJ"]

/-- The lines of a group in table order. -/
def State.telLines (s : State) (g : TelGroup) : List Text :=
  let f := s.f
  let h := s.h
  match g with
  | .frame => [telLine "OVR_F" f.sched.ovr.toNat, telLine "WDOG" f.sched.wdog.toNat, telLine "OVR_H" h.ovrH.toNat]
  | .uart => [telLine "FRM" h.uart.frm.toNat, telLine "BRK" h.uart.brkN.toNat, telLine "STUCK" h.uart.stuckN.toNat,
      telLine "RX_EARLY" h.uart.rxEarly.toNat, telLine "CHK" h.uart.chk.toNat]
  | .bar => [telLine "CRC_FH" h.bar.crcFH.toNat, telLine "CRC_HF" f.bar.crcHF.toNat, telLine "RETRY_H" h.bar.retryH.toNat,
      telLine "RETRY_F" f.bar.retryF.toNat, telLine "DUP_F" f.bar.dupF.toNat, telLine "DUP_H" h.bar.dupH.toNat,
      telLine "TRAIN_FAIL" h.bar.trainFail.toNat, telLine "LINK_LOST" h.bar.linkLost.toNat]
  | .sup => [telLine "SW_COMMIT" f.sup.swCommit.toNat, telLine "SW_CANCEL" f.sup.swCancel.toNat,
      telLine "VBAT_MV" f.sup.vbatMv.toNat]
  | .nvm => [telLine "CBPK" (fieldOf (f.jrnReg 6) 0 16), telLine "RETIRED" (fieldOf (f.jrnReg 7) 0 16),
      telLine "UNCORR" (fieldOf (f.jrnReg 7) 16 16), telLine "SPARES" (fieldOf (f.jrnReg 1) 16 7)]
  | .tdc => (List.range 4).map (fun i => telLine ("INL" ++ toString i) (f.cal.qTdc[i]?.getD 0#8).toNat) ++
      [telLine "EV_COARSE" f.ev.coarse.toNat, telLine "EV_LOST" f.ev.lost.toNat]
  | .cal => [telLine "APPLIED" f.cal.applied.toNat, telLine "REJECTED" f.cal.rejected.toNat]
  | .rf => (rfCntNames.zipIdx).map fun e => telLine e.1 (h.radio.cnt[e.2]?.getD 0#16).toNat
  | .flag => [telLine "CALWRAP" f.clk.calWrap.toNat]
  | .test =>
    let of' := fun (r : Rot) => [telLine "ROT" r.rot.toNat, telLine "DONE" r.done, telLine "FAILS" r.fails.toNat]
    of' f.tst.rot ++ of' h.rot
  | .domF i => [telLine "ON" (f.domCount i).toNat]
  | .domH i => [telLine "ON" (h.domOn[i]?.getD 0#32).toNat]

/-- R525: the host items of a group clear at once. -/
def HostSide.telClr (h : HostSide) (g : TelGroup) : HostSide :=
  match g with
  | .frame => { h with ovrH := 0#16 }
  | .uart => { h with uart := { h.uart with frm := 0#16, brkN := 0#16, stuckN := 0#16, rxEarly := 0#16, chk := 0#16 } }
  | .bar => { h with bar := { h.bar with
      crcFH := 0#16, retryH := 0#16, dupH := 0#16, trainFail := 0#16, linkLost := 0#16 } }
  | .rf => { h with radio := { h.radio with cnt := Vector.replicate 11 0#16 } }
  | .test => { h with rot := { h.rot with fails := 0#16 } }
  | .domH i => { h with domOn := h.domOn.setIfInBounds i 0#32 }
  | .sup => h
  | .nvm => h
  | .tdc => h
  | .cal => h
  | .flag => h
  | .domF _ => h

end Sys2Proof.Machine
end

