-- ==== Sys2Proof/Machine/Commands.lean ====
section
/-! DEFINITION. Sys2Proof/Machine/Commands.lean: what each text command does when its line executes it (16_commands.md), one
definition per command. -/

namespace Sys2Proof.Machine

/-! ### Identity, mode and reset (Table 16-1) -/

def cmdId (l : Lx) : Lx × CmdRes :=
  (l, .val (commas [txt "VT-7120", txt "A1", hexText 16 l.s.f.fuse.serial.toNat, txt "01"]))

/-- R541, R551: the cache empties; the mode changes after the response. -/
def cmdMode (m : UMode) (l : Lx) : Lx × CmdRes :=
  let l := l.host fun h => { h with line := { h.line with cache := [] } }
  ({ l with c := { l.c with after := { l.c.after with mode := some m } } }, .ok)

def cmdModeQuery (l : Lx) : Lx × CmdRes :=
  (l, .val (match l.s.h.uart.mode with | .human => txt "H" | .machine => txt "M" | .machineChk => txt "M,C"))

/-- R531. -/
def cmdBaud (b : Nat) (l : Lx) : Lx × CmdRes :=
  if baudBad b then l.fail 20 else ({ l with c := { l.c with after := { l.c.after with baud := some b } } }, .ok)

def cmdBaudQuery (l : Lx) : Lx × CmdRes := (l, .val (decText l.s.h.uart.baud))

/-- R587. -/
def cmdReset (l : Lx) : Lx × CmdRes := ({ l with c := { l.c with after := { l.c.after with reset := true } } }, .ok)

/-! ### Status, jobs, test and telemetry (Table 16-2) -/

def cmdSt (l : Lx) : Lx × CmdRes := (l, .val (hexText 8 l.s.h.status.toNat))

/-- R588, R619: the host half clears now, the field half at the commit boundary. -/
def cmdStClr (m : Word) (l : Lx) : Lx × CmdRes :=
  let fm := m &&& fieldMask
  if fm = 0#32 then (l.host fun h => h.clearBits m).ok
  else thenDo (l.send (.stClr fm)) fun l => (l.host fun h => h.clearBits m).ok

def cmdJob (n : Option Nat) (l : Lx) : Lx × CmdRes :=
  match n with
  | none => (l, .block ((List.range 4).map fun i => '+' :: (l.s.h.jobOf i).text i))
  | some i => if 3 < i then l.fail 20 else (l, .val ((l.s.h.jobOf i).text i))

/-- R590. -/
def cmdJobPart (n offset count : Nat) (l : Lx) : Lx × CmdRes :=
  let j := l.s.h.jobOf n
  if 3 < n || count < 1 || 64 < count then l.fail 20
  else if j.st = 0 then l.fail 51
  else if j.lines.length < offset then l.fail 20
  else (l, .block ((j.lines.drop offset).take count))

/-- R591. -/
def cmdJobCancel (n : Nat) (l : Lx) : Lx × CmdRes :=
  let j := l.s.h.jobOf n
  if 3 < n || j.st = 0 then l.fail 51
  else if !j.live then l.fail 22
  else ({ l with s := l.s.cancelJob n }, .ok)

/-- R514, R520. -/
def cmdTest (forced : Bool) (l : Lx) : Lx × CmdRes :=
  if !l.s.h.bar.link then l.fail 60
  else if !l.s.h.testJobs.isEmpty then l.fail 23
  else l.fieldJob (.test forced)

/-- R510. -/
def cmdTestQuery (l : Lx) : Lx × CmdRes :=
  let hostLine := testText "+H" l.s.h.rot 13
  if !l.s.h.bar.link then (l, .block [txt "+F,-", hostLine])
  else l.query [0x1784, 0x1788] fun f => .block [testText "+F" f.tst.rot 30, hostLine]

/-- R524, R526. -/
def cmdTel (g : Option TelGroup) (l : Lx) : Lx × CmdRes :=
  match g with
  | none => l.fail 20
  | some g =>
    if telBad g then l.fail 20
    else if telField g && !l.s.h.bar.link then l.fail 60
    else thenDo (Lx.reads (telReads g) l) fun l => (l, .block (l.s.telLines g))

/-- R525, R526: the field items clear by writes of their W1C registers, at the commit; the host items at once. -/
def cmdTelClr (g : Option TelGroup) (l : Lx) : Lx × CmdRes :=
  match g with
  | none => l.fail 20
  | some g =>
    if telBad g then l.fail 20
    else if telField g && !l.s.h.bar.link then l.fail 60
    else thenDo (l.writeAll (telWrites g)) fun l => (l.host fun h => h.telClr g).ok

/-! ### Time, stamp and references (Table 16-4) -/

def cmdTimeQuery (l : Lx) : Lx × CmdRes := l.snapped fun l => (l, .val l.clk.timeText)
def cmdStamp (l : Lx) : Lx × CmdRes := l.snapped fun l => (l, .val l.clk.stampText)

/-- R227: the seven staged fields; the group applies at the end of the line (R584). -/
def cmdTime (y mo d h mi s : Nat) (l : Lx) : Lx × CmdRes :=
  if !l.s.h.bar.link then l.fail 60
  else if y < 2000 || 2399 < y || [mo, d, h, mi, s].any fun v => decide (99 < v) then l.fail 21
  else
    let b := fun (v : Nat) => (toBcd v).setWidth 32
    Lx.staged (l.writeAll [(0x1040, b s), (0x1044, b mi), (0x1048, b h), (0x1050, b d), (0x1054, b mo), (0x1058, b (y % 100)),
      (0x105C, b (y / 100))]) 1

def cmdLocal (n : Int) (l : Lx) : Lx × CmdRes :=
  if !l.s.h.bar.link then l.fail 60
  else if n < -48 || 56 < n then l.fail 20
  else Lx.staged (l.writeField 0x109C ((BitVec.ofInt 8 n).setWidth 32)) 4

def cmdLocalQuery (l : Lx) : Lx × CmdRes := l.query [0x109C] fun f => .val (intText f.per.localOfs.toInt)

/-- The words of a `MARK` (Table 4-6). -/
def markWords (src : Nat) (s : HStamp) (sec frac : Nat) : List Word :=
  [BitVec.ofNat 32 (src * 2 ^ 28 + s.unl.toNat * 2 ^ 27 + sec / 2 ^ 32 % 16 * 2 ^ 8 + s.stamp / 2 ^ 64 % 256),
    BitVec.ofNat 32 (s.stamp / 2 ^ 32), BitVec.ofNat 32 s.stamp, BitVec.ofNat 32 sec, BitVec.ofNat 32 frac]

/-- R236, R237: a stamp goes out as a mark unless it is unlinked and untranslated (R151). -/
def Lx.sendMark (l : Lx) (src : Nat) (s : HStamp) (sec frac : Nat) : Lx × CmdRes :=
  if s.unl && !s.trn then l.fail 22 else (l.host fun h => h.send .mark (markWords src s sec frac) none, .wait .mark)

/-- The first stamp of the list that `ok` accepts is labelled (R234). -/
def labelFirst (ok : HStamp × Bool → Bool) : List (HStamp × Bool) → List (HStamp × Bool)
  | [] => []
  | e :: es => if ok e then (e.1, true) :: es else e :: labelFirst ok es

/-- TMARK (R234 to R237). -/
def cmdTmark (a : TmarkArg) (l : Lx) : Lx × CmdRes :=
  let h := l.s.h
  if !h.bar.link then l.fail 60
  else match a with
    | .pps sec =>
      let ok := fun (e : HStamp × Bool) => !e.2 && decide (h.hf ≤ e.1.at' + 64)
      if Config.cycleSec ≤ sec then l.fail 20
      else match h.pps.stamps.find? ok with
        | none => l.fail 22
        | some e =>
          if e.1.unl && !e.1.trn then l.fail 22
          else (l.host fun h => { h with pps := { h.pps with stamps := labelFirst ok h.pps.stamps } }).sendMark 1 e.1 sec 0
    | .rf id sec nano =>
      if Config.cycleSec ≤ sec || 255 < id || 999999999 < nano then l.fail 20
      else match h.radio.marks.find? fun e => e.1.toNat = id && decide (h.hf ≤ e.2.at' + 4096) with
        | none => l.fail 22
        | some e => l.sendMark 2 e.2 sec (roundDiv ((nano * 2 ^ 32 : Nat) : Int) 1000000000).toNat

/-- PPS (R593): it takes effect at the end of the line (R713, Table 0-3). -/
def cmdPps (en : Nat) (l : Lx) : Lx × CmdRes :=
  if 1 < en then l.fail 20
  else ({ l with c := { l.c with writes := l.c.writes ++ [(0x0070, BitVec.ofNat 32 en)] } }, .ok)

def cmdPpsQuery (l : Lx) : Lx × CmdRes := (l, .block l.s.h.pps.lines)
def cmdRefQuery (l : Lx) : Lx × CmdRes := l.query [0x10C8, 0x10CC, 0x10DC] fun f => .val f.refText

/-- REF.SET (Table 16-5, R280). -/
def cmdRefSet (k : Option RefKey) (v : Nat) (l : Lx) : Lx × CmdRes :=
  let flag := fun i => if 1 < v then l.fail 20 else l.setField 0x10C0 fun w => withBit w i (decide (v = 1))
  if !l.s.h.bar.link then l.fail 60
  else match k with
    | none => l.fail 20
    | some .ppsen => flag 0
    | some .rfen => flag 1
    | some .rank => flag 2
    | some .leap => flag 3
    | some .bw => if 15 < v then l.fail 20 else l.setField 0x10C0 fun w => withField w 4 4 v
    | some .rfint => if 255 < v then l.fail 20 else l.setField 0x10C0 fun w => withField w 8 8 v
    | some .step => if 10000 < v then l.fail 20 else l.writeField 0x10C4 (BitVec.ofNat 32 v)

def cmdRefSetQuery (k : Option RefKey) (l : Lx) : Lx × CmdRes :=
  if !l.s.h.bar.link then l.fail 60
  else match k with
    | none => l.fail 20
    | some k => l.query [0x10C0, 0x10C4] fun f => .val (f.refKeyText k)

/-! ### Rate (Table 16-6) -/

def cmdRate (l : Lx) : Lx × CmdRes := l.query [0x110C, 0x1110, 0x10D0, 0x1118, 0x111C] fun f => .val f.rateText

def cmdTrim (n : Int) (w : Nat) (l : Lx) : Lx × CmdRes :=
  if !l.s.h.bar.link then l.fail 60
  else if n < -255 || 255 < n || w < 5 || 10 < w then l.fail 20
  else l.setField 0x1100 fun x => withField (withField x 0 9 (n % 512).toNat) 9 4 w

def cmdTrimQuery (l : Lx) : Lx × CmdRes :=
  l.query [0x1100] fun f => .val (commas [intText (sField f.rate.cfg 0 9), decText (fieldOf f.rate.cfg 9 4)])

def cmdRateEn (c e : Nat) (l : Lx) : Lx × CmdRes :=
  if !l.s.h.bar.link then l.fail 60
  else if 1 < c || 1 < e then l.fail 20
  else l.setField 0x1100 fun x => withField (withField x 13 1 c) 14 1 e

def cmdRateEnQuery (l : Lx) : Lx × CmdRes :=
  l.query [0x1100] fun f => .val (commas [bitText (bitOf f.rate.cfg 13), bitText (bitOf f.rate.cfg 14)])

/-! ### Alarms, outputs, periods and KEEP (Table 16-7) -/

/-- The staged words of an alarm with an item written or masked (R596): its mask bit and, when written, its BCD byte. -/
def alItem (bit byte : Nat) (o : Option Nat) (x : Word × Word) : Word × Word :=
  match o with
  | none => (withBit x.1 bit true, x.2)
  | some v => (withBit x.1 bit false, withField x.2 (8 * byte) 8 (toBcd v).toNat)

/-- AL (R596). -/
def cmdAl (a : AlArg) (l : Lx) : Lx × CmdRes :=
  if !l.s.h.bar.link then l.fail 60
  else
    let run := fun (n : Nat) (g : Word × Word × Word → Word × Word × Word) =>
      if n < 1 || 2 < n then l.fail 20
      else match l.s.f.al[n - 1]? with
        | none => l.fail 20
        | some al =>
          let s := g al.shown
          let base := 0x1200 + 0x10 * (n - 1)
          Lx.staged (thenDo (Lx.reads [base, base + 4, base + 8] l) fun l =>
            l.writeAll [(base, s.1), (base + 4, s.2.1), (base + 8, s.2.2)]) (n + 1)
    match a with
    | .off n => run n fun s => (s.1, s.2.1, withBit s.2.2 15 false)
    | .set n h m s d y mo da acts => run n fun x =>
      let t := alItem 3 3 d (alItem 2 2 h (alItem 1 1 m (alItem 0 0 s (x.2.2, x.1))))
      let u := alItem 6 2 y (alItem 5 1 mo (alItem 4 0 da (t.1, x.2.1)))
      (t.2, u.2, withBit (withField u.1 8 5 acts.toNat) 15 true)

def cmdAlQuery (n : Nat) (l : Lx) : Lx × CmdRes :=
  let base := 0x1200 + 0x10 * (n - 1)
  if !l.s.h.bar.link then l.fail 60
  else if n < 1 || 2 < n then l.fail 20
  else l.query [base, base + 4, base + 8, base + 12] fun f =>
    match f.al[n - 1]? with
    | none => .err 20
    | some a => .val (a.text n)

/-- PER.EVT (R323, R326). -/
def cmdPerEvt (ev : BitVec 4) (acts : BitVec 5) (l : Lx) : Lx × CmdRes :=
  if !l.s.h.bar.link then l.fail 60
  else if acts.getLsbD 0 then l.fail 20
  else l.writeField 0x1220 (BitVec.ofNat 32 (ev.toNat + acts.toNat * 2 ^ 8))

/-- TICKER (R325, R326). -/
def cmdTicker (a : TickerArg) (l : Lx) : Lx × CmdRes :=
  if !l.s.h.bar.link then l.fail 60
  else match a with
    | .off => l.setField 0x1224 fun w => withBit w 24 false
    | .run n acts =>
      if n < 1 || 2 ^ 24 < n || acts.getLsbD 0 then l.fail 20
      else l.writeField 0x1224 (BitVec.ofNat 32 (n - 1 + 2 ^ 24 + acts.toNat * 2 ^ 25))

/-- PON (R329, R330). -/
def cmdPon (o : WakeOut) (pulse : Bool) (len : Option Nat) (high : Option Bool) (l : Lx) : Lx × CmdRes :=
  let badLen := match len with | some n => n < 1 || 255 < n | none => false
  if !l.s.h.bar.link then l.fail 60
  else if badLen || (o = .ponF && high.isSome) then l.fail 20
  else l.setField 0x122C fun w =>
    let at' := if o = .ponH then 0 else 16
    let w := withBit w at' pulse
    let w := match len with | some n => withField w (at' + 8) 8 n | none => w
    match high with | some b => withBit w 1 b | none => w

/-- PON.REL (R329). -/
def cmdPonRel (o : WakeOut) (l : Lx) : Lx × CmdRes := l.writeField 0x1230 (if o = .ponH then 1#32 else 2#32)

def cmdPonQuery (l : Lx) : Lx × CmdRes := l.query [0x122C, 0x1230] fun f => .val f.wake.ponText

/-- PER.CFG (R341, R349). -/
def cmdPerCfg (day evin : Nat) (l : Lx) : Lx × CmdRes :=
  if !l.s.h.bar.link then l.fail 60
  else if 1 < day || 255 < evin then l.fail 20
  else Lx.staged (l.writeField 0x1240 (BitVec.ofNat 32 (day + evin * 2 ^ 8))) 4

/-- PER.TH (R340): thresholds in 10^-3 °C, rounded to the nearest 1/1024 °C. -/
def cmdPerTh (n : Nat) (hi lo : Int) (l : Lx) : Lx × CmdRes :=
  let out := fun (v : Int) => v < -8192000 || 8191999 < v
  let q := fun (v : Int) => BitVec.ofInt 32 (roundDiv (v * 1024) 1000)
  if !l.s.h.bar.link then l.fail 60
  else if 3 < n || out hi || out lo || hi < lo then l.fail 20
  else l.writeAll [(0x1250 + 4 * n, q hi), (0x1260 + 4 * n, q lo)]

/-- PER? (R598). -/
def cmdPerQuery (set : PerSet) (a : PerArg) (l : Lx) : Lx × CmdRes :=
  let bad := match a with | .chan n => decide (3 < n) | .ev => false
  if !l.s.h.bar.link then l.fail 60
  else if bad then l.fail 20
  else l.query [0x1240, 0x1244] fun f => f.perText set a

/-- KEEP (R599). -/
def cmdKeep (n : Nat) (bs : List Byte) (l : Lx) : Lx × CmdRes :=
  if !l.s.h.bar.link then l.fail 60
  else if 63 < n || bs = [] || 16 < bs.length || 64 < n + bs.length then l.fail 20
  else l.writeAll (bs.zipIdx.map fun e => (0x1300 + 4 * (n + e.2), e.1.setWidth 32))

/-- KEEP? (R335, R599). -/
def Lx.readKeep (l : Lx) (n : Nat) : Nat → Lx × CmdRes
  | 0 => l.ok
  | c + 1 => thenDo (l.readKeep n c) fun l => l.readField (0x1300 + 4 * (n + c))

def cmdKeepQuery (n c : Nat) (l : Lx) : Lx × CmdRes :=
  if !l.s.h.bar.link then l.fail 60
  else if 63 < n || c < 1 || 16 < c || 64 < n + c then l.fail 20
  else thenDo (l.readKeep n c) fun l => (l, .val (l.s.f.keep.text n c))

/-! ### Events and temperature (Table 16-8) -/

/-- EV.CFG (R353 to R357). -/
def cmdEvCfg (i edge filt jrn : Nat) (l : Lx) : Lx × CmdRes :=
  if !l.s.h.bar.link then l.fail 60
  else if 7 < i || 2 < edge || 4 < filt || 1 < jrn then l.fail 20
  else l.writeField (0x1400 + 4 * i) (BitVec.ofNat 32 (1 + 2 * edge + 8 * filt + 64 * jrn))

def cmdEvCfgQuery (i : Nat) (l : Lx) : Lx × CmdRes :=
  if !l.s.h.bar.link then l.fail 60
  else if 7 < i then l.fail 20
  else l.query [0x1400 + 4 * i] fun f => .val (evCfgText (f.evCfg i))

/-- EV.OFF (R355). -/
def cmdEvOff (i : Nat) (l : Lx) : Lx × CmdRes :=
  if !l.s.h.bar.link then l.fail 60
  else if 7 < i then l.fail 20
  else l.setField (0x1400 + 4 * i) fun w => withBit w 0 false

/-- EV? (R374). -/
def cmdEv (n : Nat) (l : Lx) : Lx × CmdRes :=
  if !l.s.h.bar.link then l.fail 60 else if n < 1 || 32 < n then l.fail 20 else l.fieldCmd (.evq n)

/-- T.CFG (R383). -/
def cmdTCfg (n ty exc : Nat) (l : Lx) : Lx × CmdRes :=
  if !l.s.h.bar.link then l.fail 60
  else if 3 < n || 4 < ty || 2 < exc then l.fail 20
  else Lx.staged (l.writeField (0x1510 + 4 * n) (BitVec.ofNat 32 (ty + 16 * exc))) (5 + n)

/-- T.PLAN (R41, R389, R408). -/
def cmdTPlan (n : Nat) (k : Option Nat) (l : Lx) : Lx × CmdRes :=
  let bad := match k with | some k => decide (18 < k) | none => false
  if !l.s.h.bar.link then l.fail 60
  else if 3 < n || bad then l.fail 20
  else l.setField 0x1500 fun w => match k with
    | some k => withBit (withField w (8 * n) 5 k) (8 * n + 7) true
    | none => withBit w (8 * n + 7) false

/-- T.OFS (R410): an offset in 10^-3 °C, rounded to the nearest 1/1024 °C. -/
def cmdTOfs (n : Nat) (v : Int) (l : Lx) : Lx × CmdRes :=
  if !l.s.h.bar.link then l.fail 60
  else if 3 < n || v < -32000 || 31999 < v then l.fail 20
  else l.writeField (0x1520 + 4 * n) ((BitVec.ofInt 16 (roundDiv (v * 1024) 1000)).setWidth 32)

/-- T.LEAD (R410). -/
def cmdTLead (n m : Nat) (l : Lx) : Lx × CmdRes :=
  if !l.s.h.bar.link then l.fail 60
  else if 3 < n || 65535 < m then l.fail 20
  else l.writeField (0x1530 + 4 * n) (BitVec.ofNat 32 m)

/-- T? (R405). -/
def cmdTQuery (n : Nat) (l : Lx) : Lx × CmdRes :=
  if !l.s.h.bar.link then l.fail 60 else if 3 < n then l.fail 20 else l.fieldCmd (.tq n)

/-! ### Journal, seal and calibration (Tables 16-9, 16-10) -/

def cmdJ (l : Lx) : Lx × CmdRes := l.query [0x1600, 0x1604, 0x1608, 0x160C, 0x1610, 0x1614] fun f => .val f.jText
def cmdJPolicy (wrap : Bool) (l : Lx) : Lx × CmdRes := l.writeField 0x1600 (BitVec.ofNat 32 wrap.toNat)

/-- NOTE (R19, R416). -/
def cmdNote (t : Text) (l : Lx) : Lx × CmdRes :=
  if !l.s.h.bar.link then l.fail 60 else if t = [] || 20 < t.length then l.fail 20 else l.fieldCmd (.note t)

/-- SEAL.KEY (R604). -/
def cmdSealKey (p : Nat) (t : Text) (l : Lx) : Lx × CmdRes :=
  if !l.s.h.bar.link then l.fail 60 else if 3 < p then l.fail 20 else l.fieldCmd (.sealKey p t)

def cmdSealQuery (l : Lx) : Lx × CmdRes := l.query [0x1628] fun f => .val f.sealText

/-- CAL.RUN (R481, R485). -/
def cmdCalRun (item : Option CalItem) (index : Option Nat) (l : Lx) : Lx × CmdRes :=
  let radio := fun (it : CalItem) => if index.isSome then l.fail 20 else l.begin 4 [] (.rfCal it)
  match item with
  | some .iq => radio .iq
  | some .pa => radio .pa
  | some .tdc => l.fieldJob (.calRun .tdc index)
  | some .adc => l.fieldJob (.calRun .adc index)
  | some .xl => l.fieldJob (.calRun .xl index)
  | some .bar => l.fieldJob (.calRun .bar index)
  | some .ltab => l.fail 20
  | some .synth => l.fail 20
  | none => l.fail 20

def cmdCal (l : Lx) : Lx × CmdRes := l.query [0x1704] fun f => .val f.calText

/-- CAL.SAVE? (R493). -/
def cmdCalSave (l : Lx) : Lx × CmdRes :=
  l.query [0x1704] fun f => .block (imageLines (calImage f.cal.ws f.uid f.cal.csn (stampSec f.clk.stamp)))

/-! ### Power (Table 16-11) -/

def cmdSup (l : Lx) : Lx × CmdRes := l.query [0x1684, 0x1688] fun f => .val f.supText

/-- SUP.VSW (R58, R69), SUP.BATLOW (R87): in steps of 0.1 V. -/
def cmdVsw (v : Nat) (l : Lx) : Lx × CmdRes :=
  if !l.s.h.bar.link then l.fail 60
  else if v < 24 || 30 < v then l.fail 20 else l.setField 0x1680 fun w => withField w 0 4 (v - 24)
def cmdBatlow (v : Nat) (l : Lx) : Lx × CmdRes :=
  if !l.s.h.bar.link then l.fail 60
  else if v < 22 || 28 < v then l.fail 20 else l.setField 0x1680 fun w => withField w 4 4 (v - 22)

/-- BAT.PLAN (R83 to R85). -/
def cmdBatPlan (a : BatPlanArg) (l : Lx) : Lx × CmdRes :=
  if !l.s.h.bar.link then l.fail 60
  else match a with
    | .on => l.setField 0x1680 fun w => withBit w 12 true
    | .off => l.setField 0x1680 fun w => withBit w 12 false
    | .plan m p =>
      if m < 1 || 15 < m || p < 10 || 65535 < p then l.fail 20
      else l.setField 0x1680 fun w => withBit (withField (withField w 8 4 m) 16 16 p) 12 true

/-! ### Radio (Table 16-12) -/

def cmdRf (l : Lx) : Lx × CmdRes := (l, .val l.s.h.radio.text)

/-- RF.STATE (R648, R650): the response follows the state reached. -/
def cmdRfState (t : RfTarget) (l : Lx) : Lx × CmdRes :=
  let r := l.s.h.rfState t
  let l := l.host fun _ => r.1
  match r.2 with
  | .err e => l.fail e
  | .reached => l.ok
  | .runs => (l, .wait .radio)

/-- A host group staged by a text command. -/
def Lx.stageRadio (l : Lx) (r : Option Radio) (gid : Nat) : Lx × CmdRes :=
  match r with
  | none => l.fail 20
  | some r => ((l.host fun h => { h with radio := r }).name gid).ok

/-- RF.CH (R645). -/
def cmdRfCh (hz : Nat) (l : Lx) : Lx × CmdRes :=
  if hz < 779000000 || 960000000 < hz then l.fail 20
  else l.stageRadio (l.s.h.radio.stageCh (BitVec.ofNat 32 (fcodeOf hz))) 9

/-- RF.MODE (R639). -/
def cmdRfMode (fsk rate : Nat) (hOne bt : Bool) (fec : Nat) (l : Lx) : Lx × CmdRes :=
  if !(fsk = 2 || fsk = 4) || !(rate = 50 || rate = 100 || rate = 150 || rate = 200) || 2 < fec then l.fail 20
  else l.stageRadio (l.s.h.radio.stagePhy (BitVec.ofNat 32
    (fsk / 4 + 2 * (rate / 50 - 1) + 8 * hOne.toNat + 16 * bt.toNat + 32 * fec))) 10

/-- RF.FRAME (R639). -/
def cmdRfFrame (pre : Nat) (coded whiten : Bool) (l : Lx) : Lx × CmdRes :=
  let w := withBit (withBit l.s.h.radio.phyShown.2 10 coded) 11 whiten
  if pre < 4 || 1000 < pre then l.fail 20 else l.stageRadio (l.s.h.radio.stageFrm (withField w 0 10 pre)) 10

/-- RF.PWR (R663). -/
def cmdRfPwr (idx comp : Nat) (l : Lx) : Lx × CmdRes :=
  if 63 < idx || 2 < comp then l.fail 20 else l.stageRadio (l.s.h.radio.stagePa (BitVec.ofNat 32 (idx + 2 ^ 8 * comp))) 11

/-- RF.CX (R680). -/
def cmdRfCx (lead pri listen timeout : Nat) (l : Lx) : Lx × CmdRes :=
  if lead < 10 || 500 < lead || 1 < pri || 1 < listen || timeout < 1 || 1000 < timeout then l.fail 20
  else if l.s.h.radio.tx.isSome then l.fail 70
  else (l.host fun h => h.setCx (BitVec.ofNat 32 (1 + 2 * pri + 4 * listen + 16 * lead + 2 ^ 16 * timeout))).ok

/-- RF.TX (R654, R656, R608). -/
def cmdRfTx (psdu : List Byte) (l : Lx) : Lx × CmdRes :=
  let r := l.s.h.radio
  if psdu = [] || 110 < psdu.length then l.fail 20
  else if r.noTx then l.fail 70
  else if r.tx.isSome then l.fail 23
  else (l.host fun h => { h with radio := r.newTx psdu none }, .val ('T' :: decText r.nextTx.toNat))

/-- RFTX? (R662). -/
def cmdRftx (n : Nat) (l : Lx) : Lx × CmdRes :=
  match l.s.h.radio.results.find? fun e => e.1.toNat = n with
  | none => l.fail 20
  | some (id, x, st) =>
    (l, .val (commas ['T' :: decText id.toNat, x.name, match st with | some s => natStamp s.stamp | none => txt "-"]))

/-- One octet of the transmit buffer (R608): octets of 0 unlisted, offsets rising (DESIGN CHOICE, unsafe: notes/assumptions/26.md). -/
def bufPut (o : Nat) (b : Byte) : List (Nat × Byte) → List (Nat × Byte)
  | [] => if b = 0#8 then [] else [(o, b)]
  | (p, c) :: rest =>
    if o < p then (if b = 0#8 then (p, c) :: rest else (o, b) :: (p, c) :: rest)
    else if o = p then (if b = 0#8 then rest else (o, b) :: rest)
    else (p, c) :: bufPut o b rest

/-- The canonical form of the transmit buffer: offsets strictly rising from `lo` on and below 2047, no octet of 0. -/
def bufWfFrom (lo : Nat) : List (Nat × Byte) → Bool
  | [] => true
  | (p, c) :: rest => decide (lo ≤ p) && decide (p < 2047) && decide (c ≠ 0#8) && bufWfFrom (p + 1) rest
def bufWf (buf : List (Nat × Byte)) : Bool := bufWfFrom 0 buf

/-- The octet at an offset of the transmit buffer. -/
def bufGet (o : Nat) (buf : List (Nat × Byte)) : Byte := ((buf.find? fun e => e.1 = o).map (·.2)).getD 0#8

def HostSide.rftxJobs (h : HostSide) : List Nat := h.slotsOf fun i => match i with | .rftx _ => true | _ => false

/-- RF.BUF (R608). -/
def cmdRfBuf (o : Nat) (bs : List Byte) (l : Lx) : Lx × CmdRes :=
  if 2046 < o || bs = [] || 100 < bs.length || 2047 < o + bs.length then l.fail 20
  else if !l.s.h.rftxJobs.isEmpty then l.fail 23
  else (l.host fun h => { h with radio := { h.radio with
    buf := bs.zipIdx.foldl (fun b e => bufPut (o + e.2) e.1 b) h.radio.buf } }).ok

/-- RF.TXJ (R655, R656). -/
def cmdRfTxj (len : Nat) (l : Lx) : Lx × CmdRes :=
  let r := l.s.h.radio
  if len < 1 || 2047 < len then l.fail 20
  else if r.noTx then l.fail 70
  else if r.tx.isSome then l.fail 23
  else match l.s.h.startJob 6 [] (.rftx len) with
    | none => l.fail 50
    | some (h, i) =>
      let psdu := (List.range len).map fun o => bufGet o r.buf
      ({ l with s := { l.s with h := { h with radio := h.radio.newTx psdu (some i) } } }, .val ('J' :: decText i))

/-- RFQ? and RFQ.POP (R609). -/
def cmdRfq (l : Lx) : Lx × CmdRes := (l, .block ((l.s.h.radio.rxq.head?.map RxPkt.lines).getD []))
def cmdRfqPop (id : Nat) (l : Lx) : Lx × CmdRes :=
  match l.s.h.radio.rxq with
  | p :: rest => if p.id.toNat = id then (l.host fun h => { h with radio := { h.radio with rxq := rest } }).ok else l.fail 20
  | [] => l.fail 20

/-! ### Layout Table and registers (Table 16-13) -/

/-- DESC? (R610, R182). -/
def cmdDesc (o len : Nat) (l : Lx) : Lx × CmdRes :=
  let t := l.s.h.table
  if len < 1 || 1024 < len then l.fail 20
  else if !t.served then l.fail 23
  else if t.len < o + len then l.fail 20
  else (l, .block (t.lines l.s.f.fuse 32 o len))

/-- DESC.LIST? (R701, R702, R182). -/
def cmdDescList (ty : Option Nat) (l : Lx) : Lx × CmdRes :=
  let t := l.s.h.table
  let head := t.headLine l.s.f.fuse.serial
  match ty with
  | some n =>
    if n < 1 || 12 < n then l.fail 20
    else if !t.served then l.fail 23
    else (l, .block (head :: t.typeLines l.s.f.fuse n))
  | none =>
    if !t.served then l.fail 23
    else (l, .block (head :: (((List.range 12).map fun n => t.typeLines l.s.f.fuse (n + 1)).flatten)))

/-- DESC.DUMP (R182). -/
def cmdDescDump (l : Lx) : Lx × CmdRes := if !l.s.h.table.served then l.fail 23 else l.begin 7 [] (.desc 0)

/-- A register that the Layout Table maps, in the host windows or in the field window.
DEDUCED, unsafe: notes/assumptions/36.md. -/
def State.mapped (s : State) (a : Nat) : Bool :=
  if 0x1000 ≤ a then (s.f.regValue s.f.clk a).isSome else (s.h.regValue a).isSome

/-- One register read; the receive level and the preamble search are open values, drawn once (R670). -/
def Lx.readReg (l : Lx) (a : Nat) : Lx × CmdRes :=
  if 0x1000 ≤ a then l.readField a
  else match l.s.h.regValue a with
    | none => l.fail 20
    | some w => (if a = 0x0400 || a = 0x0418 then l.host HostSide.freeNext else l, .val (hexText 8 w.toNat))

/-- The lines of `n` registers from `a` (R611). -/
def Lx.readRegs (l : Lx) (a : Nat) : Nat → Lx × CmdRes
  | 0 => (l, .block [])
  | n + 1 =>
    let r := l.readReg a
    match r.2 with
    | .val t =>
      let q := r.1.readRegs (a + 4) n
      (match q.2 with
        | .block ls => (q.1, .block (commas ['+' :: hexText 4 a, t] :: ls))
        | x => (q.1, x))
    | x => (r.1, x)

/-- R (R611). -/
def cmdR (a : BitVec 16) (n : Nat) (l : Lx) : Lx × CmdRes :=
  if n < 1 || 16 < n || !((List.range n).all fun i => l.s.mapped (a.toNat + 4 * i)) then l.fail 20
  else if n = 1 then l.readReg a.toNat
  else l.readRegs a.toNat n

/-- W (R612). -/
def cmdW (a : BitVec 16) (w : Word) (l : Lx) : Lx × CmdRes :=
  let a := a.toNat
  if 0x1000 ≤ a then
    if !l.s.mapped a then l.fail 20
    else
      let r := l.writeField a w
      match bitGroup a w with
      | some g => (match r.2 with | .ask _ => r | _ => (r.1.unname g, r.2))
      | none => r
  else match l.s.h.writeReg a w with
    | .none => l.fail 20
    | .err e => l.fail e
    | .now h => (l.host fun _ => h).ok
    | .later h v =>
      let l := l.host fun _ => h
      ({ l with c := { l.c with writes := l.c.writes ++ [(a, v)] } }, .ok)
    | .baud b => cmdBaud b l
    | .mode m => cmdMode m l
    | .clear m => cmdStClr m l
    | .apply h g =>
      let r := Lx.applyGroup { l with s := { l.s with h := h } } g
      (r.1.unname g, r.2)

/-! ### Every text command -/

/-- A command of a line. A row that is no text command has none (R552). -/
def runCmd (i : Instr) (l : Lx) : Lx × CmdRes :=
  match i with
  | .registerWrite a w => cmdW a w l
  | .registerRead a n => cmdR a n l
  | .idQuery => cmdId l
  | .mode m => cmdMode m l
  | .modeQuery => cmdModeQuery l
  | .uartBaud b => cmdBaud b l
  | .uartBaudQuery => cmdBaudQuery l
  | .resetHost => cmdReset l
  | .stQuery => cmdSt l
  | .stClr m => cmdStClr m l
  | .jobQuery n => cmdJob n l
  | .jobPartQuery n o c => cmdJobPart n o c l
  | .jobCancel n => cmdJobCancel n l
  | .test => cmdTest false l
  | .testForce => cmdTest true l
  | .testQuery => cmdTestQuery l
  | .telQuery g => cmdTel g l
  | .telClr g => cmdTelClr g l
  | .timeQuery => cmdTimeQuery l
  | .time y mo d h mi s => cmdTime y mo d h mi s l
  | .stampQuery => cmdStamp l
  | .localOfs n => cmdLocal n l
  | .localQuery => cmdLocalQuery l
  | .tmark a => cmdTmark a l
  | .pps en => cmdPps en l
  | .ppsQuery => cmdPpsQuery l
  | .refQuery => cmdRefQuery l
  | .refSet k v => cmdRefSet k v l
  | .refSetQuery k => cmdRefSetQuery k l
  | .rateQuery => cmdRate l
  | .trim n w => cmdTrim n w l
  | .trimQuery => cmdTrimQuery l
  | .rateEn c e => cmdRateEn c e l
  | .rateEnQuery => cmdRateEnQuery l
  | .al a => cmdAl a l
  | .alQuery n => cmdAlQuery n l
  | .perEvt e a => cmdPerEvt e a l
  | .ticker a => cmdTicker a l
  | .pon o p n h => cmdPon o p n h l
  | .ponRel o => cmdPonRel o l
  | .ponQuery => cmdPonQuery l
  | .perCfg d e => cmdPerCfg d e l
  | .perTh n hi lo => cmdPerTh n hi lo l
  | .perQuery s a => cmdPerQuery s a l
  | .tripOpen i => l.fieldCmd (.tripOpen i)
  | .tripClose => l.fieldCmd .tripClose
  | .keep n bs => cmdKeep n bs l
  | .keepQuery n c => cmdKeepQuery n c l
  | .keepSave => l.fieldCmd .keepSave
  | .keepLoad => l.fieldCmd .keepLoad
  | .evCfg i e f j => cmdEvCfg i e f j l
  | .evCfgQuery i => cmdEvCfgQuery i l
  | .evOff i => cmdEvOff i l
  | .evQuery n => cmdEv n l
  | .tCfg n t e => cmdTCfg n t e l
  | .tPlan n k => cmdTPlan n k l
  | .tOfs n v => cmdTOfs n v l
  | .tLead n m => cmdTLead n m l
  | .tQuery n => cmdTQuery n l
  | .tSnap => l.fieldCmd .snap
  | .jQuery => cmdJ l
  | .jPolicy w => cmdJPolicy w l
  | .note t => cmdNote t l
  | .jExport r => l.fieldJob (.jExport r)
  | .jVerify r => l.fieldJob (.jVerify r)
  | .jErase => l.fieldJob .jErase
  | .sealKey p t => cmdSealKey p t l
  | .sealQuery => cmdSealQuery l
  | .calRun i n => cmdCalRun i n l
  | .calQuery => cmdCal l
  | .calSaveQuery => cmdCalSave l
  | .calLoad n bs => l.fieldCmd (.calLoad n bs)
  | .calLoadGo => l.fieldCmd .calLoadGo
  | .calCommit => l.fieldCmd .calCommit
  | .supQuery => cmdSup l
  | .supVsw v => cmdVsw v l
  | .supBatlow v => cmdBatlow v l
  | .batPlan a => cmdBatPlan a l
  | .rfQuery => cmdRf l
  | .rfState t => cmdRfState t l
  | .rfCh f => cmdRfCh f l
  | .rfMode k r h b f => cmdRfMode k r h b f l
  | .rfFrame p c w => cmdRfFrame p c w l
  | .rfPwr i c => cmdRfPwr i c l
  | .rfCx a b c d => cmdRfCx a b c d l
  | .rfTx p => cmdRfTx p l
  | .rftxQuery n => cmdRftx n l
  | .rfBuf o bs => cmdRfBuf o bs l
  | .rfTxj n => cmdRfTxj n l
  | .rfqQuery => cmdRfq l
  | .rfqPop i => cmdRfqPop i l
  | .descQuery o n => cmdDesc o n l
  | .descListQuery t => cmdDescList t l
  | .descDump => cmdDescDump l
  | _ => l.fail 11

end Sys2Proof.Machine
end

