-- ==== Sys2Proof/Machine/Line.lean ====
section
/-! DEFINITION. Sys2Proof/Machine/Line.lean: the life of a command line (15_command_line.md): its checks and its place in
the tag cache, its execution command by command, the waits within it, its end and its response. -/

namespace Sys2Proof.Machine

/-! ### Commands in turn (R554 to R558) -/

/-- What a command answers goes into the line's results; an error ends the line (R556), a wait holds it. -/
def Lx.absorb (l : Lx) (r : CmdRes) : Lx :=
  let l := l.fresh
  match r with
  | .ok => l
  | .val t => { l with c := { l.c with results := l.c.results ++ ['=' :: t], value := true } }
  | .block ls => { l with c := { l.c with results := l.c.results ++ ls, block := true } }
  | .err e => { l with c := { l.c with err := some (e, if 1 < l.c.n then some l.c.k else none), rest := [] } }
  | .wait w => { l with c := { l.c with wait := some w } }
  | .ask x => l.hold x

/-- One command, or an argument out of range (Table 15-5, R581). -/
def Lx.command (l : Lx) (p : Parsed) : Lx × CmdRes :=
  match p with
  | .cmd i => runCmd i l
  | .range .host => l.fail 20
  | .range .field => l.fail (if l.s.h.bar.link then 20 else 60)

/-- The commands that are left, from left to right, up to an error or a wait; after the last one the groups named apply (R564). A command
whose access waits for its answer stays the next one. -/
def Lx.runRest : List Parsed → Lx → Lx
  | [], l => Lx.applyGroups l.c.groups { l with c := { l.c with rest := [] } }
  | p :: ps, l =>
    let r := Lx.command { l with c := { l.c with rest := ps, k := l.c.k + 1 } } p
    match r.2 with
    | .ask x => Lx.hold { r.1 with c := { r.1.c with rest := p :: ps, k := l.c.k } } x
    | a =>
      let l := r.1.absorb a
      if l.c.err.isSome || l.c.wait.isSome then l else Lx.runRest ps l

/-! ### The end of a line (R556, R558, R559, R564) -/

/-- R547, R550: the response enters the cache; one longer than 512 characters leaves its final line only. -/
def LineSt.cached (ls : LineSt) (tag : Option Text) (body : Text) (resp : List Text) : LineSt :=
  match tag with
  | none => ls
  | some t =>
    let keep := if 512 < (resp.map List.length).sum then resp.drop (resp.length - 1) else resp
    { ls with cache := ls.cache.map fun (e : CacheEnt) =>
        if e.tag = t && e.body = body && e.resp.isNone then { e with resp := some keep } else e }

/-- The response of a line is sent and kept. -/
def HostSide.answer (h : HostSide) (tag : Option Text) (body : Text) (resp : List Text) (a : TxAfter) : HostSide :=
  let h := h.respond tag false resp a
  { h with line := h.line.cached tag body resp }

/-- What the line fails with: its command, or the first apply that was refused (R564); the position is named where the line has several
commands. -/
def Cur.failure (c : Cur) : Option (Nat × Option Nat) :=
  match c.err with
  | some e => some e
  | none => c.refused.map fun e => (e.1, if 1 < c.n then some e.2 else none)

/-- R558, R559: the lines of the response. -/
def Cur.response (c : Cur) (e : Option (Nat × Option Nat)) : List Text :=
  match e with
  | some (e, pos) => c.results ++ [errLine e pos]
  | none => if c.n = 1 && c.value then c.results else c.results ++ [txt "OK"]

/-- The line ends: host-window RW writes and validated sets (Table 0-3, R567), response. -/
def Lx.finish (l : Lx) : State :=
  let h := l.s.h.putRegs l.c.writes
  let h := h.answer l.c.tag l.c.body (l.c.response l.c.failure) l.c.after
  { l.s with h := { h with line := { h.line with cur := none, resetReq := h.line.resetReq || l.c.after.reset } } }

/-- The line waits, or it has ended. -/
def Lx.settle (l : Lx) : State :=
  if l.c.wait.isSome then { l.s with h := { l.s.h with line := { l.s.h.line with cur := some l.c } } } else l.finish

/-- R92: a line executes: the host side is awake in this frame. -/
def HostSide.ran (h : HostSide) : HostSide := (h.domain 18).domain 20

/-- The waiting line goes on with what its command answers. Writes that it makes after the `RSPX` of a field command, in a later
frame, commit at the boundary after their own exchange, not with its earlier ones (DESIGN CHOICE, unsafe: notes/assumptions/95.md). -/
def State.resumeWith (s : State) (g : Lx → Lx × CmdRes) : State :=
  match s.h.line.cur with
  | none => s
  | some c =>
    let r := g ⟨s.host HostSide.ran, { c with wait := none }⟩
    let l := r.1.absorb r.2
    (if l.c.err.isSome || l.c.wait.isSome then l else Lx.runRest l.c.rest l).settle

/-- The waiting line goes on. -/
def State.resume (s : State) (r : CmdRes) : State := s.resumeWith fun l => (l, r)

/-- The access that the line waits for is answered, or has failed: its command, or its apply, starts again with the answer. -/
def State.answered (s : State) (r : Nat × Word) : State :=
  match s.h.line.cur with
  | none => s
  | some c => (Lx.runRest c.rest ⟨s.host HostSide.ran, { c with wait := none, ans := c.ans ++ [r] }⟩).settle

/-- What the executing line waits for. -/
def State.waiting (s : State) : Option Wait' := s.h.line.cur.bind fun c => c.wait

/-! ### The start of a line (R548, R552, R554) -/

/-- The response kept for a replay. -/
def LineSt.kept (ls : LineSt) (l : HLine) : Option (List Text) :=
  if l.replay then (ls.cache.find? fun e => some e.tag = l.tag && e.body = l.body).bind fun e => e.resp else none

def HLine.cur (l : HLine) (place : Nat) : Cur :=
  ⟨l.tag, l.body, l.n, 0, l.cmds, [], false, false, none, [], none, [], TxAfter.none, place, [], 0, none, none⟩

/-- A line executes, as number `place` of its host frame: a replay, a refusal, or its commands. -/
def State.startLine (s : State) (l : HLine) (place : Nat := 0) : State :=
  let s := s.host HostSide.ran
  match s.h.line.kept l with
  | some resp => s.host fun h => h.respond l.tag true resp TxAfter.none
  | none => match l.err with
    | some (e, pos) => s.host fun h => h.answer l.tag l.body [errLine e pos] TxAfter.none
    | none =>
      let c := l.cur place
      (Lx.runRest c.rest ⟨s.host fun h => { h with line := { h.line with cur := some c } }, c⟩).settle

/-- R53: up to `n` eligible lines in arrival order; a line that waits holds those after it (R557). -/
def State.runLines : Nat → State → State
  | 0, s => s
  | n + 1, s =>
    if s.h.line.cur.isSome || s.h.line.resetReq then s
    else match s.h.line.lines with
      | [] => s
      | l :: rest =>
        if l.late then s
        else State.runLines n ((s.host fun h => { h with line := { h.line with lines := rest } }).startLine l (3 - n))

/-! ### A line arrives (R533 to R536, R541 to R549, R552, R553) -/

def isAlnum (c : Char) : Bool :=
  let n := c.toNat
  (48 ≤ n && n ≤ 57) || (65 ≤ n && n ≤ 90) || (97 ≤ n && n ≤ 122)

/-- R543: the tag and what follows its space. -/
def tagOf (t : Text) : Option (Text × Text) :=
  match t with
  | '@' :: r =>
    let tag := r.takeWhile isAlnum
    match r.drop tag.length with
    | ' ' :: body => if tag = [] || 4 < tag.length then none else some (tag, body)
    | _ => none
  | _ => none

/-- R544: the line before its check code, and the code. -/
def checkOf (t : Text) : Option (Text × Nat) :=
  match (t.drop (t.length - 5)) with
  | ['*', a, b, c, d] =>
    match hexVal a, hexVal b, hexVal c, hexVal d with
    | some a, some b, some c, some d => some (t.take (t.length - 5), 4096 * a + 256 * b + 16 * c + d)
    | _, _, _, _ => none
  | _ => none

/-- Checks 1 to 3 of R552: the error, the tag that the response carries, the text.
DEDUCED, unsafe: notes/assumptions/10.md. -/
def checkLine (m : UMode) (t : Text) (long bad : Bool) : Option Nat × Option Text × Text :=
  let e : Option Nat := if long then some 14 else if bad then some 10 else none
  if m = .human then (if e.isNone && t.head? = some '@' then some 10 else e, none, t)
  else
    let cut := checkOf t
    let whole := match cut with | some (w, _) => w | none => t
    let wrong := match cut with | some (w, c) => decide ((crc16 (textBytes w)).toNat ≠ c) | none => false
    let tg := tagOf whole
    let tag := tg.map (·.1)
    let body := match tg with | some (_, b) => b | none => whole
    match e with
    | some e => (some e, tag, body)
    | none =>
      if wrong then (some 13, none, body)
      else if tag.isNone && whole.head? = some '@' then (some 10, none, whole)
      else (none, tag, body)

/-- R547: an entry for an accepted line; the oldest goes when 32 are held. -/
def LineSt.accept (ls : LineSt) (tag body : Text) : LineSt :=
  let old := if Config.tagCacheDepth ≤ ls.cache.length then ls.cache.drop 1 else ls.cache
  { ls with cache := old ++ [⟨tag, body, none⟩] }

/-- R553: a line that finds 8 waiting is answered ERR 23 at the end of the response being sent. -/
def HostSide.lineFull (h : HostSide) (tag : Option Text) : HostSide :=
  if h.line.tx.any fun i => i.kind = .response then
    { h with line := { h.line with full := h.line.full ++ [frameLines h.uart.mode tag false [errLine 23 none]] } }
  else h.respond tag false [errLine 23 none] TxAfter.none

/-- R553: a line waits for execution. -/
def HostSide.enqueue (h : HostSide) (l : HLine) : HostSide := { h with line := { h.line with lines := h.line.lines ++ [l] } }

/-- R532: a line passes the checks. -/
def HostSide.passed (h : HostSide) : HostSide := { h with uart := { h.uart with prev := none } }

/-- R552: the checks of a complete line; it waits with their outcome.
DESIGN CHOICE, safe: notes/assumptions/46.md. -/
def HostSide.takeLine (h : HostSide) (t : Text) (long bad late : Bool) : HostSide :=
  let x := checkLine h.uart.mode t long bad
  let tag := x.2.1
  let body := x.2.2
  if Config.lineQueueDepth ≤ h.line.lines.length then h.lineFull tag
  else match x.1 with
    | some e =>
      let h : HostSide := if e = 13 then { h with uart := { h.uart with chk := satAdd h.uart.chk 1 } } else h
      h.enqueue ⟨tag, body, [], 1, some (e, none), false, late⟩
    | none =>
      let p := parseLine body
      let line : HLine := ⟨tag, body, p.1, p.2.1, p.2.2, false, late⟩
      let put := fun (h : HostSide) (l : HLine) => (if l.err.isNone then h.passed else h).enqueue l
      match tag with
      | none => put h line
      | some tg => match h.line.cache.find? fun e => e.tag = tg with
        | none => put { h with line := h.line.accept tg body } line
        | some e =>
          if e.body = body then h.passed.enqueue { line with replay := true }
          else h.enqueue { line with err := some (12, none) }

/-! ### A text command as a row of its own (DESIGN CHOICE, unsafe: notes/assumptions/2.md) -/

/-- The text command `i` is a line of its own: it executes where no line runs or waits; else it waits its turn. -/
def State.textCmd (i : Instr) (s : State) : State :=
  if !s.h.run then s
  else
    let l : HLine := ⟨none, [], [.cmd i], 1, none, false, false⟩
    if s.h.line.cur.isSome || s.h.line.resetReq || !s.h.line.lines.isEmpty then
      s.host fun h => if Config.lineQueueDepth ≤ h.line.lines.length then h.lineFull none else h.enqueue l
    else s.startLine l

end Sys2Proof.Machine
end

