-- ==== Sys2Proof/Machine/Link.lean ====
section
/-! DEFINITION. Sys2Proof/Machine/Link.lean: the link as a whole (04_barrier.md section 7): training, LINK set and clear, the
field side's unlinking, the mirror counter, and what a failed transaction of the host stream ends. -/

namespace Sys2Proof.Machine

/-! ### The field end (R122, R140, R141, R464) -/

/-- R141: any valid message is heard while unlinked. -/
def Field.hear (f : Field) : Field :=
  if f.bar.sendTick then f else { f with start := { f.start with heldMsg := true } }

/-- The first message of a lane that satisfies `p` is taken from it. -/
def laneTake (p : Txn → Bool) : List Txn → List Txn
  | [] => []
  | t :: ts => if p t then ts else t :: laneTake p ts

/-- The lane without the message that a step receives; a message that no model step launched is received as well
(DESIGN CHOICE, safe: notes/assumptions/37.md). -/
def Field.took (f : Field) (ty : MsgType) (seq : BitVec 4) : Field :=
  { f with bar := { f.bar with lane := laneTake (fun t => t.ty = ty && t.seq = seq) f.bar.lane } }
def HostSide.took (h : HostSide) (ty : MsgType) (seq : BitVec 4) : HostSide :=
  { h with bar := { h.bar with lane := laneTake (fun t => t.ty = ty && t.seq = seq) h.bar.lane } }

/-- The field end begins a training: its work for the link has ended, and the full `STAT` follows the `ECHO` (Table 4-9). -/
def Field.startTraining (f : Field) : Field :=
  let f := f.linkWorkEnds
  let t : Txn := ⟨.stat, 0#4, [f.status], none⟩
  { f with
    stat := { f.stat with sent := f.status },
    bar := FBar.pump { f.bar with linked := false, training := true, unans := none, queue := [t] } }

/-- R133, R140, R145: an `ECHO`; one with `TRAIN` = 0 ends the training: the field side is linked (R123), and a status bit that changed
since the training `STAT` is told at once (R21). An `ECHO` is taken whatever its `SEQ` (DESIGN CHOICE, unsafe: notes/assumptions/96.md). -/
def Field.echo (f : Field) (train : Bool) (rtt : Nat) : Field :=
  if !f.bar.sendTick then f.hear
  else
    let f := { f with bar := { f.bar with rtt := some rtt, echoMiss := 0 } }
    if train then (if f.bar.training then f else f.startTraining)
    else if f.bar.linked then f
    else
      Field.sendStat
        { f with bar := { f.bar with linked := true, training := false, lastSeq := none, lastAns := none, nextSeq := 0#4 } }

/-! ### LINK clears (R122, R142, R144, R332, R633) -/

/-- The error of a live job when `LINK` clears; none for a job of the host side alone. -/
def Job.linkErr (j : Job) : Option Nat :=
  match j.info with
  | .journal _ _ _ _ _ _ _ _ _ => some 60
  | .erase _ => some 60
  | .cal item _ _ _ => if item = .bar && j.st = 2 then some 22 else some 60
  | .test _ _ _ _ _ _ => some 22
  | .rfCal _ => none
  | .rftx _ => none
  | .desc _ => none
  | .none => none

/-- R521, R633: the jobs that need the field side end FAILED. -/
def HostSide.failFieldJobs (h : HostSide) : HostSide :=
  (List.range 4).foldl (fun h i => match (h.jobOf i).linkErr with
    | some e => h.endJob i 5 e
    | none => h) h

/-- R332: a drive of PON_H in pulse mode ends; a level stays. -/
def PonH.linkClear (p : PonH) : PonH :=
  let pulse := match p.cfg with | some w => bitOf w 0 | none => false
  { p with on := p.on && !pulse, wait := false, readDue := false }

/-- The line waits for something of the field side. -/
def waitsField : Option Wait' → Bool
  | some (.access _) => true
  | some (.field _ _ _) => true
  | some (.evts _) => true
  | some .samp => true
  | some .mark => true
  | some .radio => false
  | none => false

/-- The line that waits for the field side fails with error `e`. -/
def State.failLine (s : State) (e : Nat) : State :=
  match s.waiting with
  | some (.access _) => s.answered (e, 0#32)
  | _ => s.resume (.err e)

/-- `LINK` clears. The mirror counter runs on from its value, or, where the host side did not keep it, from the frames counted (R137). -/
def State.linkDown (s : State) : State :=
  if !s.h.bar.link then s
  else
    let h := s.h
    let mir := if h.awake then h.bar.mir else h.bar.frames * 2 ^ 26
    let h := { h with
      fstLoss := h.fst, pwrqDue := false, pon := h.pon.linkClear,
      bar := { h.bar with
        link := false, train := none, mir := mir, loss := some (mir, h.hf - h.bar.since.toNat), unans := none, queue := [],
        lane := [] } }
    let s := { s with h := h.failFieldJobs.notice (txt "!LINK DOWN") }
    if waitsField s.waiting then s.failLine 60 else s

/-! ### Training and LINK set (R123, R136, R145 to R149, R183, R513) -/

/-- R145: `DLY` values agree within 1.5 ns, in 2^-34 s. -/
def dlysAgree (ds : List Nat) : Bool := ds.all fun a => ds.all fun b => decide (a ≤ b + 25)

/-- A training check fails (R146). -/
def HBar.trainFails (b : HBar) : HBar :=
  { b with train := none, trainFail := satAdd b.trainFail 1, unans := none, queue := [] }

/-- R149: what the new LINK does to the host stamps. The stamp read in training holds seconds only, and is compared with the whole
seconds of the mirror value at the loss (DESIGN CHOICE, unsafe: notes/assumptions/94.md). -/
def HostSide.relinkStamps (h : HostSide) (t : Training) (new : Nat) : HostSide :=
  match h.bar.loss with
  | none => h
  | some (loss, lastTick) =>
    let sec := (t.secHi.getD 0#32).toNat % 256 * 2 ^ 32 + (t.secLo.getD 0#32).toNat
    let invalid := bitOf h.fst sbTimeInvalid && !bitOf h.fstLoss sbTimeInvalid
    let ok := decide (h.hf - lastTick < 4096) && decide (loss / 2 ^ 32 ≤ sec) && !invalid
    h.mapStamps fun x => x.relink ok loss (h.bar.mir + 2 ^ 26) new

/-- R183: the overlay is merged within 16 frames of the first LINK. -/
def Table.linked (t : Table) : Table := if t.served || t.merge.isSome then t else { t with merge := some 16 }

/-- `LINK` sets at a boundary that the mirror counter shows as `new`. -/
def HostSide.linkUp (h : HostSide) (t : Training) (new : Nat) : HostSide :=
  let h := h.relinkStamps t new
  let h := { h with
    pwrqDue := true, table := h.table.linked, pon := { h.pon with readDue := true },
    bar := { h.bar with
      link := true, train := none, nextSeq := 0#4, lastSeq := none, lastAns := none, unans := none, queue := [],
      loss := none, mir := new, frames := new / 2 ^ 26 } }
  let sent := h.fails.foldl (fun h e =>
    let cmd : FieldCmd := .testFail e.1 e.2.1 e.2.2.1 e.2.2.2
    h.send .cmdx (cmdxWords cmd) (some cmd)) h
  { sent with fails := [] }.notice (txt "!LINK UP")

/-- What a valid `TICK` does: the link stays; its frame number is not the expected one (R138); training begins, begins again after a
missed `TICK`, goes on, fails, or ends with `LINK` set (R145, R146). -/
inductive TickDoes where
  | stays
  | lost
  | begins
  | restarts
  | trains (t : Training)
  | fails
  | links (t : Training) (new : Nat)
  deriving DecidableEq, Repr

/-- Table 4-9 at T3: the mirror counter from the seconds read at T2 and the frame of this boundary. `SEQ` carries its low four bits;
the two above are those of the field stamp (DESIGN CHOICE, unsafe: notes/assumptions/38.md). -/
def Training.load (t : Training) (fieldFrame : Nat) (seq : BitVec 4) (ovr : Nat) : Option Nat :=
  match t.secHi, t.secLo with
  | some hi, some lo =>
    let n := fieldFrame % 64 / 16 * 16 + seq.toNat
    let sec := hi.toNat % 256 * 2 ^ 32 + lo.toNat + (if n = 0 then 1 else 0)
    some ((sec * 64 + n) * 2 ^ 26 + ovr)
  | _, _ => none

/-- Table 4-9 at T4 and T5: the mirror counter at the next boundary, where its frame is the one that `SEQ` names. -/
def Training.run (t : Training) (seq : BitVec 4) (ovr : Nat) : Option Nat :=
  match t.mir with
  | some m => if (m / 2 ^ 26 + 1) % 16 = seq.toNat then some ((m / 2 ^ 26 + 1) * 2 ^ 26 + ovr) else none
  | none => none

/-- R135 to R138, R145, R146. -/
def HostSide.tickDoes (h : HostSide) (fieldFrame : Nat) (seq : BitVec 4) (ovr dly : Nat) : TickDoes :=
  if h.bar.link then (if (h.bar.frames + 1) % 16 = seq.toNat then .stays else .lost)
  else match h.bar.train with
  | none => .begins
  | some t =>
    if 1 < h.bar.since.toNat then .restarts
    else
      let n := t.count + 1
      let mir := if n < 3 then none else if n = 3 then t.load fieldFrame seq ovr else t.run seq ovr
      let dlys := if 3 ≤ n then t.dlys ++ [dly] else t.dlys
      if seq ≠ t.lastSeq + 1 || !dlysAgree dlys || (decide (3 ≤ n) && mir.isNone) then .fails
      else
        let t : Training := { t with count := n, lastSeq := seq, dlys := dlys, mir := mir }
        match mir with
        | some new => if 5 ≤ n then .links t new else .trains t
        | none => .trains t

/-- A byte counter saturating at 255 (Table 4-6). -/
def sat8 (n : Nat) : Nat := min n 255

/-- The `ECHO` of a `TICK` (R135), first on the lane (R128). `TRAIN` stands until `LINK` is set. -/
def HostSide.sendEcho (h : HostSide) (seq : BitVec 4) (train : Bool) : HostSide :=
  let w := BitVec.ofNat 32 (train.toNat * 2 ^ 8 + sat8 h.bar.crcf)
  { h with bar := { h.bar with crcf := 0, lane := h.bar.lane ++ [⟨.echo, seq, [w], none⟩] } }

/-- R136, R137: the boundary of a `TICK` while `LINK` is set: its frame is counted, and the mirror counter takes it while the host side
is awake. -/
def HBar.boundary (b : HBar) (awake : Bool) (ovr : Nat) : HBar :=
  let n := b.frames + 1
  { b with frames := n, mir := if awake then n * 2 ^ 26 + ovr else b.mir }

/-- R136, R137: a `TICK` has been taken: `TICK`s since the mirror counter runs. -/
def HostSide.ticked (h : HostSide) : HostSide :=
  { h with bar := { h.bar with
      mirTicks := if h.awake then min 3 (h.bar.mirTicks + 1) else 0, ticked := true, since := 0#8 } }

/-- What a `TICK` does to the host side beside its `ECHO`. -/
def HostSide.tickTaken (h : HostSide) (d : TickDoes) (seq : BitVec 4) (ovr : Nat) : HostSide :=
  let begin' : Training := ⟨1, seq, [], none, none, none⟩
  match d with
  | .stays => { h with bar := h.bar.boundary h.awake ovr }
  | .lost => h
  | .begins => { h with bar := { h.bar with train := some begin' } }
  | .restarts => { h with bar := { h.bar.trainFails with train := some begin' } }
  | .fails => { h with bar := h.bar.trainFails }
  | .trains t =>
    let h := { h with bar := { h.bar with train := some t } }
    if t.count = 2 then HostSide.send (h.send .regrd [regWord 0 0x1080] none) .regrd [regWord 0 0x1084] none else h
  | .links t new => h.linkUp t new

/-- A valid `TICK` (R128, R135 to R138, R145): its `ECHO` goes out first. -/
def State.tick (s : State) (seq : BitVec 4) (ovr : BitVec 18) (dly : BitVec 14) : State :=
  let d := s.h.tickDoes (stampFrames s.f.clk.stamp) seq ovr.toNat dly.toNat
  let s := match d with | .lost => s.linkDown | _ => s
  let up := match d with | .stays => true | .links _ _ => true | _ => false
  s.host fun h => ((h.sendEcho seq (!up)).tickTaken d seq ovr.toNat).ticked

/-! ### A transaction of the host stream fails for good (R118, R119, R122) -/

/-- The line that waits on a field command takes its error. -/
def State.failWaiting (s : State) (cmd : Option FieldCmd) (e : Nat) : State :=
  match s.waiting, cmd with
  | some (.field c _ _), some d => if c = d then s.resume (.err e) else s
  | _, _ => s

/-- The job that waits for a `JREQ` ends (R118, R633). -/
def State.failJreq (s : State) (ws : List Word) (e : Nat) : State :=
  let hit := fun (i : JobInfo) => match i with
    | .journal _ _ _ _ (some (a, b)) _ _ _ _ => decide (ws = [a, b])
    | _ => false
  match s.h.slotsOf hit with
  | [] => s
  | i :: _ => { s with h := s.h.endJob i 5 e, f := s.f.dropJrnJob }

/-- The line waits for the answer to the transaction. -/
def State.waitsFor (s : State) (t : Txn) : Bool :=
  match s.waiting, s.h.line.cur with
  | some (.access x), some c => decide (t.ty = x.type) && decide (t.words = x.words c.place)
  | _, _ => false

/-- What issued the transaction ends with error `e`. -/
def State.hostTxnFails (s : State) (t : Txn) (e : Nat) : State :=
  match t.ty with
  | .cmdx => s.failWaiting t.cmd e
  | .mark => if s.waiting = some .mark then s.resume (.err e) else s
  | .jreq => s.failJreq t.words e
  | .regrd => if s.h.bar.train.isSome then s.host fun h => { h with bar := h.bar.trainFails }
      else if s.waitsFor t then s.answered (e, 0#32) else s
  | .regwr => if s.waitsFor t then s.answered (e, 0#32) else s
  | .pwrq => s
  | .idle => s
  | .ack => s
  | .nak => s
  | .loop => s
  | .tick => s
  | .echo => s
  | .regdat => s
  | .stat => s
  | .evt => s
  | .samp => s
  | .jdat => s
  | .rspx => s
  | .pwra => s
  | .wake => s

/-- The unanswered transaction of the host stream is done; the next one starts. -/
def HostSide.pumpNext (h : HostSide) : HostSide := HostSide.pump { h with bar := { h.bar with unans := none } }

/-- R116, R119: a retry of the host stream, at most three; then the command that issued it fails. After a wait of 1 ms the lane may have
been quiet (R117, R129); 20 µs leave it as it is. -/
def State.hostRetry (s : State) : State :=
  match s.h.bar.unans with
  | none => s
  | some u =>
    if u.retries < 3 then
      s.host fun h =>
        let g : HostSide := { h with bar := { h.bar with
          unans := some { u with retries := u.retries + 1, hold := false }, retryH := satAdd h.bar.retryH 1 } }
        if u.hold then g.launch u.txn else { g with bar := { g.bar with lane := g.bar.lane ++ [u.txn] } }
    else (s.host HostSide.pumpNext).hostTxnFails u.txn (if s.h.bar.link then 61 else 60)

/-- R116, R120: a retry of the field stream; after three it waits for the next frame's `TICK`. -/
def Field.retry (f : Field) : Field :=
  match f.bar.unans with
  | none => f
  | some u =>
    if u.retries < 3 then
      { f with bar := { f.bar with
        unans := some { u with retries := u.retries + 1, hold := false }, lane := f.bar.lane ++ [u.txn],
        retryF := satAdd f.bar.retryF 1 } }
    else { f with bar := { f.bar with unans := some { u with hold := false, resend := true } } }

/-- The next transaction of the field stream. -/
def Field.pumpNext (f : Field) : Field := { f with bar := FBar.pump { f.bar with unans := none } }

end Sys2Proof.Machine
end

