-- ==== Sys2Proof/Machine/Barrier.lean ====
section
/-! DEFINITION. Sys2Proof/Machine/Barrier.lean: the messages of the barrier as they arrive, and the timeouts of its senders
(04_barrier.md sections 3 to 7). -/

namespace Sys2Proof.Machine

/-! ### Receivers (R104, R109 to R115) -/

/-- R113 to R115: a complete transaction of the host stream at the field side: executed and answered, or answered again. -/
def Field.accept (f : Field) (seq : BitVec 4) (run : Field → Field × Txn) : Field :=
  let f := f.hear
  if !f.barReady then f
  else
    let again := if f.bar.lastSeq = some seq then f.bar.lastAns else none
    match again with
    | some a => { f with bar := { f.bar with dupF := satAdd f.bar.dupF 1 } }.answer a
    | none =>
      let r := run f
      { r.1 with bar := { r.1.bar with lastSeq := some seq, lastAns := some r.2 } }.answer r.2

/-- A transaction of the host stream arrives. -/
def State.toField (s : State) (ty : MsgType) (seq : BitVec 4) (run : Field → Field × Txn) : State :=
  let s := s.host fun h => (h.took ty seq).msgDomains
  if s.f.runs then s.withField (s.f.accept seq run) else s

/-- A message of the F→H lane arrives at a running host side, whose lane domains are ON for it (R91). -/
def State.atHost (s : State) (ty : MsgType) (seq : BitVec 4) (run : State → State) : State :=
  let s := { s with f := s.f.took ty seq }
  if s.h.run then run (s.host HostSide.msgDomains) else s

/-- A message of the H→F lane arrives at a running field side; one that does not send `TICK` hears it (R141). -/
def State.atField (s : State) (ty : MsgType) (seq : BitVec 4) (run : Field → Field) : State :=
  let s := s.host fun h => (h.took ty seq).msgDomains
  if s.f.runs then s.withField (run s.f.hear) else s

/-- A transaction of the field stream arrives: every one is answered `ACK` (R113 to R115). -/
def State.toHost (s : State) (ty : MsgType) (seq : BitVec 4) (run : State → State) : State :=
  s.atHost ty seq fun s =>
    let again := if s.h.bar.lastSeq = some seq then s.h.bar.lastAns else none
    match again with
    | some a => s.host fun h => HostSide.launch { h with bar := { h.bar with dupH := satAdd h.bar.dupH 1 } } a
    | none =>
      (run s).host fun h =>
        HostSide.launch { h with bar := { h.bar with lastSeq := some seq, lastAns := some (ackOf ty seq) } } (ackOf ty seq)

/-! ### Link messages (R130, R133, R135, R140 to R142, R474) -/

/-- TICK_RECEIVE (R135). -/
def execTickReceive (seq : BitVec 4) (ovr : BitVec 18) (dly : BitVec 14) (s : State) : Host.Outcome State Fault Refusal :=
  .next (s.atHost .tick seq fun s => s.tick seq ovr dly)

/-- LINK_LOSS (R142): no valid `TICK` for 4 frames. -/
def execLinkLoss (s : State) : Host.Outcome State Fault Refusal :=
  .next (if s.h.run && s.h.bar.link && decide (4 ≤ s.h.bar.since.toNat) then
    (s.host fun h => { h with bar := { h.bar with linkLost := satAdd h.bar.linkLost 1 } }).linkDown
  else s)

/-- FIELD_UNLINK (R140): no valid `ECHO` for 4 frames. -/
def execFieldUnlink (s : State) : Host.Outcome State Fault Refusal :=
  .next (if s.f.runs && s.f.bar.sendTick && decide (4 ≤ s.f.bar.echoMiss) then s.withField s.f.unlink else s)

/-- ECHO_RECEIVE (R133). -/
def execEchoReceive (seq : BitVec 4) (train : Bool) (_crcf : Byte) (rtt : Nat) (s : State) : Host.Outcome State Fault Refusal :=
  let s := s.host fun h => (h.took .echo seq).msgDomains
  .next (if s.f.runs then s.withField (s.f.echo train rtt) else s)

/-- IDLE_RECEIVE (R130). -/
def execIdleReceive (lane : Lane) (s : State) : Host.Outcome State Fault Refusal :=
  .next (match lane with
    | .fh => s.atHost .idle 0#4 id
    | .hf => s.atField .idle 0#4 id)

/-- LOOP_RECEIVE (R474, Table 4-6): a loop is returned unchanged; a returned one is the sender's to measure. -/
def execLoopReceive (lane : Lane) (idx : BitVec 4) (ret : Bool) (pattern : BitVec 31) (s : State) :
    Host.Outcome State Fault Refusal :=
  let back : Txn := ⟨.loop, idx, [BitVec.ofNat 32 (2 ^ 31 + pattern.toNat)], none⟩
  .next (match lane with
    | .fh => s.atHost .loop idx fun s => if ret then s else s.host fun h => h.launch back
    | .hf => s.atField .loop idx fun f => if ret || !f.barReady then f else f.answer back)

/-! ### The field stream at the host side -/

/-- STAT_RECEIVE (R614, R620). -/
def execStatReceive (seq : BitVec 4) (bits : Word) (s : State) : Host.Outcome State Fault Refusal :=
  .next (s.toHost .stat seq fun s => s.host fun h => HostSide.masked h { h with fst := bits &&& fieldMask })

/-- The line that waits for `EVT` takes one entry (R374). -/
def State.gotEvt (s : State) (t : Text) : State :=
  match s.waiting with
  | some (.evts n) => s.resumeWith fun l =>
      ({ l with c := { l.c with results := l.c.results ++ [t] } }, if n ≤ 1 then .block [] else .wait (.evts (n - 1)))
  | _ => s

/-- EVT_RECEIVE (R374). -/
def execEvtReceive (seq : BitVec 4) (w0 w1 w2 : Word) (s : State) : Host.Outcome State Fault Refusal :=
  .next (s.toHost .evt seq fun s => s.gotEvt (evtLine w0 w1 w2))

/-- SAMP_RECEIVE (R405). -/
def execSampReceive (seq : BitVec 4) (w0 w1 w2 w3 : Word) (s : State) : Host.Outcome State Fault Refusal :=
  .next (s.toHost .samp seq fun s => if s.waiting = some .samp then s.resume (.val (sampText w0 w1 w2 w3)) else s)

/-- R557: the `RSPX` of the line's field command, by its code and `CSEQ`. -/
def State.gotRspx (s : State) (w0 : Word) (data : List Word) : State :=
  match s.waiting with
  | some (.field cmd q _) =>
    if fieldOf w0 24 8 = (Config.cmdxCode (cmdKind cmd)).toNat && fieldOf w0 0 4 = q.toNat then
      s.resumeWith fun l => l.answered cmd (fieldOf w0 8 8) data
    else s
  | _ => s

/-- A transaction of the F→H lane whose words are not those that its w0 states: it is malformed (R108, R110, Table 4-7). -/
def State.malformed (s : State) (ty : MsgType) (seq : BitVec 4) : State :=
  s.atHost ty seq fun s => s.host fun h => h.launch (nakOf ty seq 2)

/-- RSPX_RECEIVE (R108, R557). -/
def execRspxReceive (seq : BitVec 4) (w0 : Word) (data : List Word) (s : State) : Host.Outcome State Fault Refusal :=
  .next (if data.length = fieldOf w0 16 8 then s.toHost .rspx seq fun s => s.gotRspx w0 data else s.malformed .rspx seq)

/-- PWRA_RECEIVE (R71). -/
def execPwraReceive (seq : BitVec 4) (w0 : Word) (s : State) : Host.Outcome State Fault Refusal :=
  .next (s.toHost .pwra seq fun s => s.host fun h => { h with pwra := w0.setWidth 4 })

/-- R331, R730: PON_H is driven, at once or when the polarity is held, or released. -/
def PonH.wake (p : PonH) (drive attn : Bool) : PonH :=
  if drive then (if p.cfg.isSome then { p with on := true, wait := false } else { p with wait := true })
  else if attn then p
  else { p with on := false, wait := false }

/-- WAKE_RECEIVE (R331, R620, R625). -/
def execWakeReceive (seq : BitVec 4) (w0 : Word) (s : State) : Host.Outcome State Fault Refusal :=
  .next (s.toHost .wake seq fun s => s.host fun h =>
    let h : HostSide := { h with pon := h.pon.wake (bitOf w0 27) (bitOf w0 26) }
    if bitOf w0 26 then h.attn (if fieldOf w0 28 4 = 2 then 1 else 0) else h)

/-! ### Journal slots (R431, R436) -/

/-- The lines that one `JDAT` adds to its job, and what the job then keeps. -/
def slotLine (bsn : Word) (n : Nat) (s : Slot) (ecc : Nat) : Text :=
  commas [txt "+S", hexText 8 bsn.toNat, hexText 2 n, hexBytes (slotBytes s), decText ecc]
def ringLine (n : Nat) (s : Slot) : Text := commas [txt "+R", decPad 3 n, hexBytes (slotBytes s)]

/-- The slots of a payload. -/
def slotsOfWords : Nat → List Word → List Slot
  | 0, _ => []
  | n + 1, ws => if ws.length < 8 then [] else slotOfWords (ws.take 8) :: slotsOfWords n (ws.drop 8)

/-- One slot of a data block arrives; with the last one a verify judges the block. -/
def Job.takeSlot (verify : Bool) (total : Nat) (j : Job) (s : Slot) (ecc : Nat) : Job :=
  match j.info with
  | .journal (b :: rest) got ring n out prev unc blk bad =>
    let bad1 := if ecc = 2 then 1 else 0
    let line := if verify then [] else [slotLine b got.length s ecc]
    let slots := got ++ [s]
    if slots.length < 128 then
      { j with lines := j.lines ++ line, info := .journal (b :: rest) slots ring n out prev (unc + bad1) (blk + bad1) bad }
    else
      let good := sealOf (slots.take 127) prev = s
      let verdict := if verify then
          [commas [txt "+B", hexText 8 b.toNat, txt (if good then "OK" else "BAD"), decText (blk + bad1)]]
        else []
      ({ j with
        lines := j.lines ++ line ++ verdict,
        info := .journal rest [] ring n out s (unc + bad1) 0 (bad || !decide good) }).shows (total - rest.length) total
  | _ => j

/-- One slot of the ring arrives. -/
def Job.takeRing (j : Job) (s : Slot) : Job :=
  match j.info with
  | .journal bsns got ring n out prev unc blk bad =>
    { j with lines := j.lines ++ [ringLine n s], info := .journal bsns got ring (n + 1) out prev unc blk bad }
  | _ => j

/-- The `JREQ` of the job has its `JDAT`. -/
def Job.reqDone (j : Job) : Job :=
  match j.info with
  | .journal bsns got ring n _ prev unc blk bad => { j with st := 2, info := .journal bsns got ring n none prev unc blk bad }
  | _ => j

/-- Blocks in the range of the job that runs. -/
def Jrn.jobBlocks (j : Jrn) : Nat :=
  match j.job with
  | some x => x.last.toNat + 1 - x.first.toNat
  | none => 0

/-- A `JDAT` for the job that asked for it. -/
def State.gotJdat (s : State) (w0 w1 : Word) (data : List Word) : State :=
  let key := Machine.withField w0 0 18 0
  let hit := fun (i : JobInfo) => match i with
    | .journal _ _ _ _ (some (a, b)) _ _ _ _ => decide (a = key ∧ b = w1)
    | _ => false
  match s.h.slotsOf hit with
  | [] => s
  | i :: _ => s.host fun h => h.putJob i fun j =>
      let j := j.reqDone
      let slots := slotsOfWords 8 data
      if reqOp w0 = 2 then slots.foldl Job.takeRing j
      else slots.foldl (fun j x => Job.takeSlot (decide (j.kind = 2)) s.f.jrn.jobBlocks j x (fieldOf w0 16 2)) j

/-- JDAT_RECEIVE (R108, R431). -/
def execJdatReceive (seq : BitVec 4) (w0 w1 : Word) (data : List Word) (s : State) : Host.Outcome State Fault Refusal :=
  .next (if data.length = 8 * (fieldOf w0 18 3 + 1) then s.toHost .jdat seq fun s => s.gotJdat w0 w1 data
  else s.malformed .jdat seq)

/-! ### Answers to the host stream -/

/-- The unanswered transaction that an answer is for. -/
def matches' (u : Option Unans) (seq : BitVec 4) (code : Nat) : Option Unans :=
  match u with
  | some u => if u.txn.seq = seq && typeCode u.txn.ty = code then some u else none
  | none => none

/-- A register value arrives: the stamp seconds of training (Table 4-9), or the polarity of PON_H (R729). -/
def HostSide.gotReg (h : HostSide) (a : Nat) (w : Word) : HostSide :=
  let tr := fun (g : Training → Training) => { h with bar := { h.bar with train := h.bar.train.map g } }
  if a = 0x1080 then tr fun (t : Training) => { t with secHi := some w }
  else if a = 0x1084 then tr fun (t : Training) => { t with secLo := some w }
  else if a = 0x122C then h.ponHeld w
  else h

/-- The answer to a register access of the line that waits for it, else to a read of the host side's own. -/
def State.gotAnswer (s : State) (t : Txn) (w : Word) : State :=
  if s.waitsFor t then
    let x := match s.waiting with | some (.access x) => x | _ => .read 0
    (s.host fun h => h.copied x 0).answered (0, w)
  else if t.ty = .regrd then s.host fun h => h.gotReg (fieldOf (t.words.headD 0#32) 0 16) w
  else s

/-- REGDAT_RECEIVE (R113). -/
def execRegdatReceive (seq : BitVec 4) (value : Word) (s : State) : Host.Outcome State Fault Refusal :=
  .next (s.atHost .regdat seq fun s => match matches' s.h.bar.unans seq 6 with
    | some u => (s.host HostSide.pumpNext).gotAnswer u.txn value
    | none => s)

/-- R237, R557: what an `ACK` tells the line that waits: a mark is delivered; a register write is taken; a field command is accepted, and
its `RSPX` will name its `SEQ`. -/
def State.acked (s : State) (t : Txn) : State :=
  match s.waiting with
  | some .mark => if t.ty = .mark then s.resume .ok else s
  | some (.field c _ n) =>
    if t.ty = .cmdx && t.cmd = some c then
      s.host fun h => { h with line := { h.line with cur := h.line.cur.map fun (x : Cur) => { x with wait := some (.field c t.seq n) } } }
    else s
  | some (.access _) => s.gotAnswer t 0#32
  | _ => s

/-- R121: the entry that an answered `EVT` carried leaves the queue; an answered `WAKE` is not lost (R24). -/
def Field.sendDone (f : Field) (t : Txn) : Field :=
  if t.ty = .evt then { f with ev := { f.ev with queue := f.ev.queue.drop 1 } }
  else if t.ty = .wake then { f with wake := f.wake.answered }
  else f

/-- ACK_RECEIVE (R111, R121, R237). -/
def execAckReceive (lane : Lane) (seq : BitVec 4) (atype : BitVec 4) (s : State) : Host.Outcome State Fault Refusal :=
  .next (match lane with
    | .fh => s.atHost .ack seq fun s => match matches' s.h.bar.unans seq atype.toNat with
      | some u => (s.host HostSide.pumpNext).acked u.txn
      | none => s
    | .hf => s.atField .ack seq fun f => match matches' f.bar.unans seq atype.toNat with
      | some u => (f.sendDone u.txn).pumpNext
      | none => f)

/-- What a sender does at a `NAK` (Table 4-7). A reason that the table does not list has no stated action: it is one of those, by a
free value (DESIGN CHOICE, safe: notes/assumptions/97.md). -/
inductive NakAct where
  | retry
  | wait
  | final (e : Nat)
  deriving DecidableEq, Repr

def nakAct (reason : Nat) (free : BitVec 32) : NakAct :=
  if reason = 1 || reason = 2 then .retry
  else if reason = 3 then .wait
  else if 10 ≤ reason then .final reason
  else match free.toNat % 3 with
    | 0 => .retry
    | 1 => .wait
    | _ => .final (10 + free.toNat / 3 % 90)

/-- A reason below 10 that Table 4-7 does not list. -/
def nakOpen (reason : Nat) : Bool := decide (reason < 10) && reason ≠ 1 && reason ≠ 2 && reason ≠ 3

/-- NAK_RECEIVE (R116 to R118, Table 4-7). -/
def execNakReceive (lane : Lane) (seq : BitVec 4) (atype : BitVec 4) (reason : Byte) (s : State) :
    Host.Outcome State Fault Refusal :=
  let r := reason.toNat
  .next (match lane with
    | .fh => s.atHost .nak seq fun s => match matches' s.h.bar.unans seq atype.toNat with
      | none => s
      | some u =>
        let act := nakAct r s.h.free
        let s := if nakOpen r then s.host HostSide.freeNext else s
        match act with
        | .retry => s.hostRetry
        | .wait => s.host fun h => { h with bar := { h.bar with unans := some { u with hold := true } } }
        | .final e => (s.host HostSide.pumpNext).hostTxnFails u.txn e
    | .hf => s.atField .nak seq fun f => match matches' f.bar.unans seq atype.toNat with
      | none => f
      | some u =>
        let act := nakAct r f.free
        let f := if nakOpen r then f.freeNext else f
        match act with
        | .retry => f.retry
        | .wait => { f with bar := { f.bar with unans := some { u with hold := true } } }
        | .final _ => (if u.txn.ty = .wake then { f with wake := f.wake.answered } else f).pumpNext)

/-! ### The host stream at the field side -/

/-- The mark that the words of a `MARK` spell (Table 4-6). -/
def markOf (src : RefSrc) (w0 w1 w2 w3 w4 : Word) : Mark :=
  ⟨src, bitOf w0 27, BitVec.ofNat 72 ((fieldOf w0 0 8 * 2 ^ 32 + w1.toNat) * 2 ^ 32 + w2.toNat),
    (fieldOf w0 8 4 * 2 ^ 32 + w3.toNat) * 2 ^ 32 + w4.toNat⟩

/-- R168, R232: a mark is taken for evaluation, or refused. -/
def Field.takeMark (f : Field) (seq : BitVec 4) (w0 w1 w2 w3 w4 : Word) : Field × Txn :=
  let src := fieldOf w0 28 4
  if src ≠ 1 && src ≠ 2 then (f, nakOf .mark seq 2)
  else if f.start.rc || !bitOf f.refs.cfg (src - 1) then (f, nakOf .mark seq 0x16)
  else
    let m := markOf (if src = 1 then .pps else .rf) w0 w1 w2 w3 w4
    ({ f with refs := { f.refs with marksNow := f.refs.marksNow ++ [m] } }, ackOf .mark seq)

/-- MARK_RECEIVE (R168, R232). -/
def execMarkReceive (seq : BitVec 4) (w0 w1 w2 w3 w4 : Word) (s : State) : Host.Outcome State Fault Refusal :=
  .next (s.toField .mark seq fun f => f.takeMark seq w0 w1 w2 w3 w4)

/-- R37: the `NAK` 0x03 of a register access held during housekeeping precedes its answer. -/
def Field.heldNak (f : Field) (hk : Bool) (ty : MsgType) (seq : BitVec 4) : Field :=
  if hk && f.barReady && decide (f.bar.lastSeq ≠ some seq) then f.answer (nakOf ty seq 3) else f

/-- REGRD_RECEIVE (R37, R113). -/
def execRegrdReceive (seq : BitVec 4) (_line : BitVec 2) (addr : BitVec 16) (housekeeping : Bool) (s : State) :
    Host.Outcome State Fault Refusal :=
  let s := { s with f := if s.f.runs then s.f.heldNak housekeeping .regrd seq else s.f }
  .next (s.toField .regrd seq fun f => f.answerRead seq addr.toNat)

/-- REGWR_RECEIVE (R37, R55, R118). -/
def execRegwrReceive (seq : BitVec 4) (_line : BitVec 2) (addr : BitVec 16) (value : Word) (housekeeping : Bool) (s : State) :
    Host.Outcome State Fault Refusal :=
  let s := { s with f := if s.f.runs then s.f.heldNak housekeeping .regwr seq else s.f }
  .next (s.toField .regwr seq fun f => f.answerWrite seq addr.toNat value)

/-- The field commands that wait. -/
def Sched.commands (x : Sched) : Nat :=
  ((x.plan ++ x.deferred ++ x.arrived).filter fun r => match r.kind with | .command _ _ => true | _ => false).length

/-- R39, R582, Table 4-7 reason 0x17: a field command is accepted where the queue has room. -/
def Field.takeCommand (f : Field) (seq : BitVec 4) (cmd : FieldCmd) : Field × Txn :=
  let n := f.sched.commands
  if n = 0 || decide (n < Config.cmdQueueDepth) then (f.request 3 64 (.command seq cmd), ackOf .cmdx seq)
  else (f, nakOf .cmdx seq 0x17)

/-- CMDX_RECEIVE (R115). -/
def execCmdxReceive (seq : BitVec 4) (_w0 : Word) (cmd : FieldCmd) (s : State) : Host.Outcome State Fault Refusal :=
  .next (s.toField .cmdx seq fun f => f.takeCommand seq cmd)

/-- Table 4-6: a request for slots is accepted where they exist. -/
def Field.takeJreq (f : Field) (seq : BitVec 4) (w0 w1 : Word) : Field × Txn :=
  if f.jrn.reqBad w0 w1 then (f, nakOf .jreq seq 0x14) else (f.request 6 64 (.journal w0 w1), ackOf .jreq seq)

/-- JREQ_RECEIVE (R107). -/
def execJreqReceive (seq : BitVec 4) (w0 w1 : Word) (s : State) : Host.Outcome State Fault Refusal :=
  .next (s.toField .jreq seq fun f => f.takeJreq seq w0 w1)

/-- R71, R73, R125: the offer is taken, and a `PWRA` waits to follow the answer, with FSUP, the ISO qualification, and whether the rail stands above its
rise threshold, which no state of the part tells (DESIGN CHOICE, safe: notes/assumptions/39.md). -/
def Field.takePwrq (f : Field) (seq : BitVec 4) (w0 : Word) : Field × Txn :=
  let rail := f.free.getLsbD 0
  let w := BitVec.ofNat 32 (sourceCode f.sup.sel + 4 * f.sup.isoOk.toNat + 8 * rail.toNat)
  let g : Field := { f.freeNext with sup := { f.sup with isoOffer := bitOf w0 0 } }
  (if g.bar.linked then { g with bar := { g.bar with queue := g.bar.queue ++ [⟨.pwra, 0#4, [w], none⟩] } } else g, ackOf .pwrq seq)

/-- PWRQ_RECEIVE (R71): the `PWRA` starts once the answer has (R125). -/
def execPwrqReceive (seq : BitVec 4) (w0 : Word) (s : State) : Host.Outcome State Fault Refusal :=
  let t := s.toField .pwrq seq fun f => f.takePwrq seq w0
  .next { t with f := { t.f with bar := t.f.bar.pump } }

/-! ### Errors on the lanes (R104, R105, R110) -/

/-- MESSAGE_CRC_FAIL (R104, R130): the message is dropped and counted; a waking `IDLE` that is lost is not counted by the field side. -/
def execMessageCrcFail (lane : Lane) (s : State) : Host.Outcome State Fault Refusal :=
  .next (match lane with
    | .fh =>
      let s := { s with f := { s.f with bar := { s.f.bar with lane := s.f.bar.lane.drop 1 } } }
      if s.h.run then s.host fun h =>
        { h.msgDomains with bar := { h.bar with crcFH := satAdd h.bar.crcFH 1, crcf := sat8 (h.bar.crcf + 1) } }
      else s
    | .hf =>
      let idle := match s.h.bar.lane with | t :: _ => decide (t.ty = .idle) | [] => false
      let s := s.host fun h => { h.msgDomains with bar := { h.bar with lane := h.bar.lane.drop 1 } }
      if s.f.runs && !idle then { s with f := { s.f with bar := { s.f.bar with crcHF := satAdd s.f.bar.crcHF 1 } } } else s)

/-- A `NAK` that names a type code. -/
def nakCode (code seq : BitVec 4) (reason : Nat) : Txn :=
  ⟨.nak, seq, [BitVec.ofNat 32 (code.toNat * 2 ^ 28 + reason)], none⟩

/-- A message or transaction that its receiver discards and answers with a `NAK`. -/
def State.discarded (s : State) (lane : Lane) (a : Txn) : State :=
  match lane with
  | .fh => if s.h.run then s.host fun h => h.msgDomains.launch a else s
  | .hf =>
    let s := s.host HostSide.msgDomains
    if !s.f.runs then s
    else
      let f := s.f.hear
      s.withField (if f.barReady then f.answer a else f)

/-- RESERVED_TYPE_RECEIVE (R105). -/
def execReservedTypeReceive (lane : Lane) (code seq : BitVec 4) (s : State) : Host.Outcome State Fault Refusal :=
  .next (s.discarded lane (nakCode code seq 1))

/-- TRANSACTION_WORD_LATE (R110): the whole transaction is discarded. -/
def execTransactionWordLate (lane : Lane) (atype seq : BitVec 4) (s : State) : Host.Outcome State Fault Refusal :=
  let gone := fun (t : Txn) => decide (typeCode t.ty = atype.toNat) && t.seq = seq
  let s := match lane with
    | .fh => { s with f := { s.f with bar := { s.f.bar with lane := laneTake gone s.f.bar.lane } } }
    | .hf => s.host fun h => { h with bar := { h.bar with lane := laneTake gone h.bar.lane } }
  .next (s.discarded lane (nakCode atype seq 2))

/-! ### Timeouts (R116, R117, R119, R120, R581) -/

/-- ANSWER_TIMEOUT (R116). -/
def execAnswerTimeout (side : Side) (s : State) : Host.Outcome State Fault Refusal :=
  .next (match side with
    | .host => match s.h.bar.unans with
      | some u => if s.h.run && !u.hold then s.hostRetry else s
      | none => s
    | .field => match s.f.bar.unans with
      | some u => if s.f.runs && !u.hold && !u.resend then s.withField s.f.retry else s
      | none => s)

/-- HOLD_WAIT_TIMEOUT (R117). -/
def execHoldWaitTimeout (side : Side) (s : State) : Host.Outcome State Fault Refusal :=
  .next (match side with
    | .host => match s.h.bar.unans with
      | some u => if s.h.run && u.hold then s.hostRetry else s
      | none => s
    | .field => match s.f.bar.unans with
      | some u => if s.f.runs && u.hold && !u.resend then s.withField s.f.retry else s
      | none => s)

/-- FIELD_STREAM_RESEND (R120): after the next frame's `TICK`, with the same `SEQ`, while the field side is linked. It is no retry under
R116, and RETRY_F does not count it (R152; DESIGN CHOICE, unsafe: notes/assumptions/98.md). -/
def execFieldStreamResend (s : State) : Host.Outcome State Fault Refusal :=
  .next (match s.f.bar.unans with
    | some u =>
      if s.f.runs && s.f.bar.linked && u.resend && s.f.bar.resendDue then
        { s with f := { s.f with bar := { s.f.bar with
          unans := some { u with retries := 0, resend := false }, lane := s.f.bar.lane ++ [u.txn], resendDue := false } } }
      else s
    | none => s)

/-- RSPX_TIMEOUT (R581): no `RSPX` within 16 frames. -/
def execRspxTimeout (s : State) : Host.Outcome State Fault Refusal :=
  .next (match s.waiting with
    | some (.field _ _ n) => if s.h.run && decide (16 ≤ n) then s.resume (.err 61) else s
    | _ => s)

end Sys2Proof.Machine
end

