-- ==== Sys2Proof/Machine/HostSteps.lean ====
section
/-! DEFINITION. Sys2Proof/Machine/HostSteps.lean: the steps of the host side: starts and supplies, the UART, the host frame, the
power link, stamps, the overlay, tests and jobs, direct register events, and the radio. -/

namespace Sys2Proof.Machine

/-! ### Starts and supplies (R16, R22, R72, R156 to R159, R177, R587) -/

/-- The host side without power or held in reset: nothing is kept (R22, R156). -/
def hostHeld (power nrst vhostOk offer : Bool) (ctr : Nat) : HostSide :=
  { hostStarted false ctr with
    power := power, nrst := nrst, run := false, bannerDue := false, vhostOk := vhostOk, offer := offer, latched := 0#32,
    uart := { uartStart with rxEn := false, on := false } }

/-- A host side that starts or stops hears nothing of what stands on the F→H lane (R22, R24). -/
def State.newHost (s : State) (h : HostSide) : State := ⟨{ s.f with bar := { s.f.bar with lane := [] } }, h, s.pending⟩

/-- HOST_START (R156): VHOST valid, NRST rising, or the restart of `RESET HOST`. -/
def execHostStart (vhost3V : Bool) (s : State) : Host.Outcome State Fault Refusal :=
  let h := s.h
  .next (if h.run && !h.line.resetDue then s
  else s.newHost (hostStarted (if h.power then h.vhostOk else vhost3V) h.freeCtr))

/-- NRST_LOW (R157, R158): 1 µs holds the host side in reset; from 0.1 µs on it may (DESIGN CHOICE, safe: notes/assumptions/40.md). -/
def execNrstLow (ns : Nat) (s : State) : Host.Outcome State Fault Refusal :=
  let h := s.h
  .next (if !h.power || ns < 100 then s
  else if 1000 ≤ ns then s.newHost (hostHeld true true h.vhostOk h.offer h.freeCtr)
  else if h.free.getLsbD 0 then s.newHost (hostHeld true true h.vhostOk h.offer (h.freeCtr + 1))
  else s.host HostSide.freeNext)

/-- HOST_POWER_OFF (R22, R23). -/
def execHostPowerOff (s : State) : Host.Outcome State Fault Refusal :=
  .next (s.newHost (hostHeld false false false false s.h.freeCtr))

/-- VHOST_FALL (R16, R72): the offer is withdrawn; a change of offer is told while `LINK` is set (R70). -/
def execVhostFall (s : State) : Host.Outcome State Fault Refusal :=
  .next (s.host fun h => { h with vhostOk := false, offer := false, pwrqDue := h.pwrqDue || (h.bar.link && h.offer) })

/-- VHOST_RISE (R16, R70). -/
def execVhostRise (s : State) : Host.Outcome State Fault Refusal :=
  .next (if !s.h.power then s
  else s.host fun h =>
    { h with vhostOk := true, offer := h.run || h.offer, pwrqDue := h.pwrqDue || (h.bar.link && !h.offer) })

/-- PWRQ_SEND (R70): when `LINK` sets, at a change of offer, and every 64 frames. -/
def execPwrqSend (s : State) : Host.Outcome State Fault Refusal :=
  .next (if s.h.run && s.h.bar.link && (s.h.pwrqDue || decide (64 ≤ s.h.pwrqAge)) then
    s.host fun h => { h.send .pwrq [pwrqWord h.offer] none with pwrqDue := false, pwrqAge := 0 }
  else s)

/-- BANNER (R178, R179, Table 15-3). -/
def execBanner (s : State) : Host.Outcome State Fault Refusal :=
  .next (if s.h.run && s.h.bannerDue then
    s.host fun h =>
      let h := h.push .banner [txt "!RDY VT-7120 A1", txt "> "] TxAfter.none
      { h with bannerDue := false, uart := { h.uart with open' := true } }
  else s)

/-! ### The UART (R91, R93, R179 to R181, R529 to R536, R575 to R577) -/

/-- An echo (R542). -/
def HostSide.echo (h : HostSide) (t : Text) : HostSide := if h.uart.mode = .human then h.push .echo [t] TxAfter.none else h

/-- A prompt in human mode. -/
def HostSide.prompt (h : HostSide) : HostSide := if h.sendMode = .human then h.push .prompt [txt "> "] TxAfter.none else h

/-- The parser without a partial line. -/
def Uart.fresh (u : Uart) : Uart := { u with buf := [], long := false, bad := false }

/-- UART activity: H01 is ON (R91, R93). -/
def HostSide.uartActive (h : HostSide) : HostSide := HostSide.domain { h with uart := { h.uart with on := true, idle := 0 } } 1

/-- CR, LF, BS. -/
def chCr : Char := Char.ofNat 13
def chLf : Char := Char.ofNat 10
def chBs : Char := Char.ofNat 8

/-- R179: a byte before the end of the banner; R180: what follows it in its line goes too. The LF of a CR LF whose CR came early is
no line of its own (R533). -/
def HostSide.earlyByte (h : HostSide) (term cr : Bool) : HostSide :=
  { h with uart := { h.uart with rxEarly := satAdd h.uart.rxEarly 1, skip := !term, lastCr := cr } }

/-- R533 to R536: a terminator ends the line. -/
def HostSide.terminator (h : HostSide) (t : Byte) (late : Bool) : HostSide :=
  let h := h.uartActive
  let u := h.uart
  if !u.open' then h.earlyByte true (decide (t = 0x0D#8))
  else if u.skip then { h with uart := { u.fresh with skip := false, lastCr := decide (t = 0x0D#8) } }
  else if u.lastCr && t = 0x0A#8 then { h with uart := { u with lastCr := false } }
  else
    let h : HostSide := { h with uart := { u.fresh with lastCr := decide (t = 0x0D#8) } }
    let h := h.echo [chCr, chLf]
    if u.buf = [] && !u.long && !u.bad then h.prompt else h.takeLine u.buf u.long u.bad late

/-- R534, R535: one byte of a line. A framing error while a break lasts marks no later line (R575). -/
def HostSide.byte (h : HostSide) (b : Byte) (framing : Bool) : HostSide :=
  let h := h.uartActive
  let u : Uart := { h.uart with lastCr := false, frm := if framing then satAdd h.uart.frm 1 else h.uart.frm }
  let c := Char.ofNat b.toNat
  let human := decide (u.mode = .human)
  if !u.open' then h.earlyByte false false
  else if u.skip then { h with uart := u }
  else if framing then { h with uart := { u with bad := u.bad || !u.rxLow } }
  else if human && (b = 0x08#8 || b = 0x7F#8) then
    let h : HostSide := { h with uart := { u with buf := u.buf.dropLast } }
    if u.buf = [] then h else h.echo [chBs, ' ', chBs]
  else if human && b = 0x15#8 then HostSide.prompt (HostSide.echo { h with uart := u.fresh } [chCr, chLf])
  else if 0x20 ≤ b.toNat && b.toNat ≤ 0x7E then
    if u.buf.length < 240 then HostSide.echo { h with uart := { u with buf := u.buf ++ [c] } } [c]
    else { h with uart := { u with long := true } }
  else { h with uart := { u with bad := true } }

/-- UART_BYTE_RECEIVE (R535); a terminator ends the line as LINE_RECEIVE does.
DESIGN CHOICE, unsafe: notes/assumptions/45.md. -/
def execUartByteReceive (b : Byte) (framingError : Bool) (s : State) : Host.Outcome State Fault Refusal :=
  .next (if s.h.run && s.h.uart.rxEn then
    s.host fun h => if !framingError && (b = 0x0D#8 || b = 0x0A#8) then h.terminator b false else h.byte b framingError
  else s)

/-- LINE_RECEIVE (R533, R552). -/
def execLineReceive (terminator : Byte) (late : Bool) (s : State) : Host.Outcome State Fault Refusal :=
  .next (if s.h.run && s.h.uart.rxEn then s.host fun h => h.terminator terminator late else s)

/-- BREAK (R575). -/
def execUartBreak (s : State) : Host.Outcome State Fault Refusal :=
  .next (if s.h.run && s.h.uart.rxEn && !s.h.uart.rxLow then
    s.host fun h => { h with uart := { h.uart.fresh with
      skip := false, lastCr := false, rxLow := true, brk := decide (h.uart.mode = .human), brkN := satAdd h.uart.brkN 1 } }
  else s)

/-- BREAK_END (R575): RXD is high again. -/
def execBreakEnd (s : State) : Host.Outcome State Fault Refusal :=
  .next (if s.h.run && s.h.uart.rxLow then
    s.host fun h =>
      if h.uart.rxEn && h.uart.brk then HostSide.prompt { h with uart := { h.uart with rxLow := false, brk := false } }
      else { h with uart := { h.uart with rxLow := false } }
  else s)

/-- LINE_STUCK (R576, R620, R625). -/
def execLineStuck (s : State) : Host.Outcome State Fault Refusal :=
  .next (if s.h.run && s.h.uart.rxEn then
    s.host fun h =>
      let h : HostSide := { h with uart := { h.uart.fresh with
        rxEn := false, rxLow := true, stuck := true, on := false, stuckN := satAdd h.uart.stuckN 1 } }
      ((h.setBit sbLineStuck).notice (txt "!RX OFF")).attn 2
  else s)

/-- RECEIVER_REENABLE (R577, Table 15-9): the prompt of a break that led to `LINE_STUCK` follows the notice. -/
def execReceiverReenable (s : State) : Host.Outcome State Fault Refusal :=
  .next (if s.h.run && s.h.uart.stuck then
    s.host fun h =>
      let due := h.uart.brk
      let h : HostSide := { h with uart := { h.uart with rxEn := true, rxLow := false, stuck := false, brk := false, on := true, idle := 0 } }
      let h := h.notice (txt "!RX ON")
      if due then h.prompt else h
  else s)

/-- UART_IDLE_OFF (R91): 64 frames after the last UART activity in the listen state. -/
def execUartIdleOff (s : State) : Host.Outcome State Fault Refusal :=
  .next (if s.h.run && s.h.uart.on && !s.h.awake && decide (64 ≤ s.h.uart.idle) then
    s.host fun h => { h with uart := { h.uart with on := false } }
  else s)

/-- BAUD_SWITCH (R531, R532): a rate that changes starts the time to its return. -/
def execBaudSwitch (s : State) : Host.Outcome State Fault Refusal :=
  .next (match s.h.uart.next with
    | some b => s.host fun h => { h with uart := { h.uart with
        baud := b, next := none, prev := if b = h.uart.baud then h.uart.prev else some (h.uart.baud, h.hf) } }
    | none => s)

/-- BAUD_REVERT (R532). -/
def execBaudRevert (s : State) : Host.Outcome State Fault Refusal :=
  .next (match s.h.uart.prev with
    | some (b, at') =>
      if s.h.run && decide (at' + 640 ≤ s.h.hf) then
        s.host fun h => HostSide.notice { h with uart := { h.uart with baud := b, prev := none } } (txt "!BAUD " ++ decText b)
      else s
    | none => s)

/-- What takes effect once a response has left TXD (R531, R541, R587). -/
def HostSide.takeAfter (h : HostSide) (a : TxAfter) : HostSide :=
  { h with
    uart := { h.uart with mode := a.mode.getD h.uart.mode, next := match a.baud with | some b => some b | none => h.uart.next },
    line := { h.line with resetDue := h.line.resetDue || a.reset } }

/-- RESPONSE_SENT (R531, R541, R553, R560, R587): TXD has sent everything through its first response. -/
def execResponseSent (s : State) : Host.Outcome State Fault Refusal :=
  .next (match s.h.line.tx.dropWhile fun i => decide (i.kind ≠ .response) with
    | [] => s
    | r :: rest => s.host fun h =>
      let h := (HostSide.takeAfter { h with uart := { h.uart with idle := 0 } } r.after)
      let more := h.line.full.map fun ls =>
        (⟨.response, if h.uart.mode = .human then ls ++ [txt "> "] else ls, TxAfter.none⟩ : TxItem)
      { h with line := { h.line with tx := more ++ rest, full := [] } })

/-! ### The host frame (R50 to R53, R91, R143) -/

/-- The domains that are ON throughout the present frame (R91, Table 1-2; DESIGN CHOICE, safe: notes/assumptions/27.md). -/
def HostSide.baseDomains (h : HostSide) : BitVec 56 :=
  let on := fun (b : Bool) (m : BitVec 56) => if b then m else 0#56
  1#56 ||| on h.uart.on 0x2#56 ||| on h.offer 0x30000#56 ||| on h.awake 0x140000#56 ||| on h.pps.on 0x80000#56 |||
    on h.pon.on 0x10000000000000#56 ||| on (bitOf h.latched sbAttn) 0x20000000000000#56 ||| h.radio.st.domains ||| (Config.hostDomains h.awake &&& 0xC0000000000FFC#56)

/-- At a boundary the frame that ended is counted for each domain that was ON in it. -/
def HostSide.domBoundary (h : HostSide) : HostSide :=
  let now := h.domNow ||| h.baseDomains
  { h with
    domOn := h.domOn.zipIdx.map fun (w, i) => if now.getLsbD i then satWord w 1 else w, domNow := 0#56 }

/-- A host frame begins: frame counts; without a `TICK` the mirror counter runs on (R51, R142) while it is kept (R137), and while
`LINK` is clear an `IDLE` goes out (R143).
DESIGN CHOICE, unsafe: notes/assumptions/44.md. -/
def HostSide.frame (h : HostSide) : HostSide :=
  let h := h.domBoundary
  let quiet := decide (0 < h.bar.since.toNat)
  let h := { h with
    hf := h.hf + 1, pwrqAge := h.pwrqAge + 1, uart := { h.uart with idle := h.uart.idle + 1 },
    rot := { h.rot with since := min (h.rot.since + 1) 65536 },
    table := { h.table with merge := h.table.merge.map (· - 1) },
    bar := { h.bar with
      mir := if (quiet || !h.bar.link) && h.awake then h.bar.mir + 2 ^ 26 else h.bar.mir,
      frames := if quiet && h.bar.link then h.bar.frames + 1 else h.bar.frames },
    line := { h.line with cur := h.line.cur.map fun (c : Cur) =>
      match c.wait with
      | some (.field x q n) => { c with wait := some (.field x q (n + 1)) }
      | _ => c } }
  if !h.bar.link && quiet then { h with bar := { h.bar with lane := h.bar.lane ++ [idleTxn] } } else h

/-- The end of a boundary: lines that came late are eligible at the next one (R52); frames since the last `TICK`. -/
def HostSide.frameEnd (h : HostSide) : HostSide :=
  { h with
    line := { h.line with lines := h.line.lines.map fun (l : HLine) => { l with late := false } },
    bar := { h.bar with since := satAdd h.bar.since 1 } }

/-- Table 2-5: the host frame has slices that it may defer: a PSDU on its way to a buffer bank, or host slices of a live job. -/
def HostSide.slicesDue (h : HostSide) : Bool :=
  (match h.radio.tx with | some t => decide (t.phase = .bank) | none => false) ||
  !(h.slotsOf fun i => match i with
    | .journal _ _ _ _ _ _ _ _ _ => true
    | .test _ left _ _ _ _ => !left.isEmpty
    | .rftx _ => true
    | .desc _ => true
    | _ => false).isEmpty

/-- Host work that does not fit in its frame: the lowest-priority slice is deferred, OVERRUN sets and the frame counts in `OVR_H`
(02_frame.md section 6, Table 14-3); no ATTN follows (R622, R623). How long the work of a frame takes stands in no rule, so the command says it
(DESIGN CHOICE, safe: notes/assumptions/76.md). -/
def HostSide.defer (h : HostSide) (full : Bool) : HostSide :=
  if full && h.slicesDue then { h with latched := withBit h.latched sbOverrun true, ovrH := satAdd h.ovrH 1 } else h

/-- HOST_FRAME_BOUNDARY (R53). -/
def execHostFrameBoundary (full : Bool) (s : State) : Host.Outcome State Fault Refusal :=
  .next (if s.h.run then ((s.host HostSide.frame).runLines 4).host fun h => (h.defer full).frameEnd else s)

/-! ### Stamps, PON_H, the overlay (R94, R183, R380, R593, R698, R699, R729, R737) -/

/-- PPS_EDGE (R380): `offset` counts 2^-32 s from the last host frame boundary. -/
def execPpsEdge (offset : Nat) (highNs : Nat) (s : State) : Host.Outcome State Fault Refusal :=
  let h := s.h
  let st := h.stampAt offset
  let dead := match h.pps.last with | some t => decide (st.stamp < t + Config.ppsDead.val) | none => false
  .next (if h.run && h.pps.on && decide (100 ≤ highNs) && !dead then
    { s with h := { h with pps := { h.pps with
      stamps := ((st, false) :: h.pps.stamps).take 4, cnt := satAdd h.pps.cnt 1, last := some st.stamp } } }
  else s)

/-- PON_POLARITY_READ (R729). -/
def execPonPolarityRead (s : State) : Host.Outcome State Fault Refusal :=
  .next (if s.h.run && s.h.bar.link && s.h.pon.readDue then
    s.host fun h => { h.send .regrd [regWord 0 0x122C] none with pon := { h.pon with readDue := false } }
  else s)

/-- R696: the copy that the field side serves, S2 first, where each passes its CRC. -/
def Ovl.served (o : Ovl) (s2Ok s3Ok : Bool) : Option (List (Nat × Word)) :=
  match (if s2Ok then o.s2 else none) with
  | some l => some l
  | none => if s3Ok then o.s3 else none

/-- OVERLAY_MERGE (R183, R696, R698, R699): the copy that the field side serves, else the ROM base alone; a copy that is found to fail its
CRC sets `NVM_ERR`. A copy that passes is one that this part wrote: its `MAGIC`, `UID32` and entry types are right
(DEDUCED, unsafe: notes/assumptions/100.md). -/
def execOverlayMerge (s2Ok s3Ok : Bool) (s : State) : Host.Outcome State Fault Refusal :=
  let copy := s.f.ovl.served s2Ok s3Ok
  .next (if s.h.run && s.h.bar.link && s.h.table.merge.isSome then
    let f := if s2Ok && s.f.ovl.s2.isSome then s.f else s.f.setBit sbNvmErr
    { s with f := f, h := { s.h with table := ⟨true, copy.isSome, copy.isNone, copy.getD [], none⟩ } }
  else s)

/-! ### Tests (14_inservice_test.md) -/

/-- R503, R519: the condition of a host slice as far as the state holds it. -/
def HostSide.testRuns (h : HostSide) (code : Nat) (forced : Bool) : Bool :=
  if code = 0x10 then h.bar.link && h.awake
  else if code = 0x11 then h.radio.st = .sleep || (forced && h.radio.tx.isNone)
  else true

/-- R513: a result to send: at once, or at the next `LINK`, the newest per code and index. -/
def HostSide.sendFail (h : HostSide) (code idx : Nat) (measured limit : Int) : HostSide :=
  if h.bar.link then
    let cmd : FieldCmd := .testFail code idx measured limit
    h.send .cmdx (cmdxWords cmd) (some cmd)
  else { h with fails := (h.fails.filter fun e => e.1 ≠ code || e.2.1 ≠ idx) ++ [(code, idx, measured, limit)] }

/-- One host slice with its outcome (R503, R511, R513). -/
def HostSide.runTest (h : HostSide) (pos : Nat) (forced applicable pass : Bool) (measured limit : Int) : HostSide × Nat :=
  let x := hostTests[pos]?.getD (0x10, 0)
  let verdict := if !(h.testRuns x.1 forced && applicable) then 2 else if pass then 0 else 1
  let r := h.rot.verdict pos x.1 x.2 verdict
  let h := { h with rot := r.1 }
  let h := if verdict = 1 then h.setBit sbTestFail else h
  (if r.2 then h.sendFail x.1 x.2 measured limit else h, verdict)

/-- TEST_SLICE on the host side (R506, R507, R514 to R516): of the job, else of the rotation; one per frame. -/
def State.hostTest (s : State) (applicable pass : Bool) (measured limit : Int) : State :=
  let h := s.h
  match h.testJobs with
  | i :: _ => match (h.jobOf i).info with
    | .test forced (p :: rest) fl _ _ _ =>
      if h.rot.since = 0 then s
      else
        let x := hostTests[p]?.getD (0x10, 0)
        let r := h.runTest p forced applicable pass measured limit
        let g : HostSide := { r.1 with rot := { r.1.rot with since := 0 } }
        let line := testLine x.1 x.2 r.2 measured limit
        { s with h := g.putJob i fun j => j.tested (some line) r.2 rest fl }.testEnd i
    | _ => s
  | [] =>
    if bitOf h.rot.cfg 0 && h.awake && decide (fieldOf h.rot.cfg 16 16 ≤ h.rot.since) then
      let r := h.runTest h.rot.done false applicable pass measured limit
      { s with h := { r.1 with rot := { r.1.rot.finish 13 with since := if r.2 = 2 then h.rot.since else 0 } } }
    else s

/-- TEST_SLICE (R506). -/
def execTestSlice (side : Side) (applicable pass : Bool) (measured limit : Int) (s : State) : Host.Outcome State Fault Refusal :=
  .next (match side with
    | .field => s.withField (doFieldTest applicable pass measured limit s.f)
    | .host => if s.h.run then s.hostTest applicable pass measured limit else s)

/-! ### Host job slices (R182, R430 to R436, R592, R630) -/

/-- The request for the next slot of an export or verify: one slot at a time, so that each carries its own `ECCST`
(DESIGN CHOICE, unsafe: notes/assumptions/41.md). -/
def nextReq (bsns : List Word) (got : Nat) (ring n : Nat) : Option (Word × Word) :=
  match bsns with
  | b :: _ => some (BitVec.ofNat 32 (1 * 2 ^ 28 + got * 2 ^ 21), b)
  | [] => if n < ring then some (0x20000000#32, BitVec.ofNat 32 n) else none

/-- R432, R434, R436: every slot has come: the certificate, and the end on both sides. -/
def State.endJrn (s : State) (i : Nat) (verify : Bool) (unc : Nat) (bad : Bool) : State :=
  let line := match s.f.jrn.job with
    | some x => if verify then [] else [s.f.certificate x]
    | none => []
  let st := if 0 < unc || (verify && bad) then 4 else 3
  { s with
    f := s.f.endJrnJob,
    h := (s.h.putJob i fun j => { j with lines := j.lines ++ line }).endJob i st 0 }

/-- DESC.DUMP: the next 1 KiB of the table (R182, R610, DESIGN CHOICE, unsafe: notes/assumptions/41.md). -/
def State.descSlice (s : State) (i o : Nat) : State :=
  let t := s.h.table
  let len := min 1024 (t.len - o)
  let h := s.h.putJob i fun j =>
    ({ j with lines := j.lines ++ t.lines s.f.fuse 32 o len, info := .desc (o + len) }).shows (o + len) t.len
  { s with h := if t.len ≤ o + len then h.endJob i 3 0 else h }

/-- HOST_JOB_SLICE (R630): of the jobs with host work, the one accepted first. -/
def execHostJobSlice (s : State) : Host.Outcome State Fault Refusal :=
  let hit := fun (i : JobInfo) => match i with
    | .journal _ _ _ _ none _ _ _ _ => true
    | .desc _ => true
    | _ => false
  .next (if !s.h.run then s
  else match s.h.firstOf hit with
    | none => s
    | some i => match (s.h.jobOf i).info with
      | .journal bsns slots ring n _ prev unc blk bad => match nextReq bsns slots.length ring n with
        | some (w0, w1) => s.host fun h =>
            (h.putJob i fun j => { j with info := .journal bsns slots ring n (some (w0, w1)) prev unc blk bad }).send .jreq [w0, w1]
              none
        | none => s.endJrn i (decide ((s.h.jobOf i).kind = 2)) unc bad
      | .desc o => s.descSlice i o
      | _ => s)

/-! ### Register writes as events of their own (R335, R561 to R568, DESIGN CHOICE, unsafe: notes/assumptions/42.md) -/

/-- KEEP_BYTE_WRITE (R335). -/
def execKeepByteWrite (n : Fin 64) (b : Byte) (s : State) : Host.Outcome State Fault Refusal :=
  .next (if s.f.runs then s.withField (s.f.pend (.reg (0x1300 + 4 * n.val) (b.setWidth 32))) else s)

/-- The staged registers of the field side and of the radio (Table 20-7). -/
def stagedField (a : Nat) : Bool :=
  (regIdx 0x1040 8 a).isSome || a = 0x109C || a = 0x1240 || (regIdx 0x1200 3 a).isSome || (regIdx 0x1210 3 a).isSome ||
    (regIdx 0x1510 4 a).isSome
def stagedHost (a : Nat) : Bool := a = 0x0404 || a = 0x0408 || a = 0x040C || a = 0x0410

/-- STAGED_WRITE (R561, R562): the value goes to staging, and nothing applies. -/
def execStagedWrite (addr : BitVec 16) (value : Word) (s : State) : Host.Outcome State Fault Refusal :=
  let a := addr.toNat
  let w := if (regIdx 0x1040 8 a).isSome || a = 0x109C then value else withBit value 31 false
  .next (if stagedField a then (if s.f.runs then s.withField (s.f.writeReg s.f.clk a w).1 else s)
  else if stagedHost a && s.h.run then (match s.h.writeReg a w with | .now h => { s with h := h } | _ => s)
  else s)

/-- A group applies on the field side. -/
def State.fieldApply (s : State) (g : Field → Field × Nat) : State := if s.f.runs then s.withField (g s.f).1 else s

/-- TSET_GO (R221). -/
def execTsetGo (s : State) : Host.Outcome State Fault Refusal := .next (s.fieldApply Field.tsetGo)
/-- AL_APPLY (R316). -/
def execAlApply (n : Fin 2) (s : State) : Host.Outcome State Fault Refusal := .next (s.fieldApply fun f => f.alApply n.val)
/-- PERB_APPLY (R349). -/
def execPerbApply (s : State) : Host.Outcome State Fault Refusal := .next (s.fieldApply Field.perbApply)
/-- PRB_APPLY (R383). -/
def execPrbApply (n : Fin 4) (s : State) : Host.Outcome State Fault Refusal := .next (s.fieldApply fun f => f.prbApply n.val)
/-- RFCH_APPLY (R646). -/
def execRfchApply (s : State) : Host.Outcome State Fault Refusal :=
  .next (if s.h.run then s.host fun h => h.groupNow 9 else s)
/-- RFPHY_APPLY (R640). -/
def execRfphyApply (s : State) : Host.Outcome State Fault Refusal :=
  .next (if s.h.run then s.host fun h => h.groupNow 10 else s)
/-- RFPA_APPLY (R659). -/
def execRfpaApply (s : State) : Host.Outcome State Fault Refusal :=
  .next (if s.h.run then s.host fun h => h.groupNow 11 else s)

/-! ### The radio (18_radio.md) -/

/-- A step of the radio, whose host side runs. -/
def State.radioStep (s : State) (g : HostSide → HostSide) : State := if s.h.run then s.host g else s

/-- `RF.STATE` is answered (R648, R673). -/
def State.radioAnswer (s : State) (r : CmdRes) : State := if s.waiting = some .radio then s.resume r else s

/-- RF_TRANSITION_DONE (R648). -/
def execRfTransitionDone (lockUs : Byte) (s : State) : Host.Outcome State Fault Refusal :=
  .next (if !s.h.run then s
  else
    let x := s.h.rfDone lockUs
    let s := { s with h := x.1 }
    if x.2 then s.radioAnswer .ok else s)

/-- RF_SFD_DETECT (R669). -/
def execRfSfdDetect (offset : Nat) (s : State) : Host.Outcome State Fault Refusal := .next (s.radioStep fun h => h.rfSfd offset)
/-- RF_PACKET_END (R667). -/
def execRfPacketEnd (p : RxFrame) (s : State) : Host.Outcome State Fault Refusal := .next (s.radioStep fun h => h.rfPacketEnd p)
/-- RF_SERVICE_SLICE (R655). -/
def execRfServiceSlice (htemp : Byte) (vpaMv : Nat) (s : State) : Host.Outcome State Fault Refusal :=
  .next (s.radioStep fun h => h.rfService htemp vpaMv)

/-- CX_GRANT_SAMPLE (R673). -/
def execCxGrantSample (level : Bool) (htemp : Byte) (vpaMv : Nat) (s : State) : Host.Outcome State Fault Refusal :=
  .next (if !s.h.run then s
  else
    let x := s.h.cxSample level htemp vpaMv
    let s := { s with h := x.1 }
    match x.2 with
    | some e => s.radioAnswer (.err e)
    | none => s)

/-- CX_GRANT_RISE (R674). -/
def execCxGrantRise (htemp : Byte) (vpaMv : Nat) (s : State) : Host.Outcome State Fault Refusal :=
  .next (s.radioStep fun h => h.cxRise htemp vpaMv)
/-- CX_GRANT_FALL (R676). -/
def execCxGrantFall (s : State) : Host.Outcome State Fault Refusal := .next (s.radioStep HostSide.cxFall)
/-- CX_TIMEOUT (R675). -/
def execCxTimeout (s : State) : Host.Outcome State Fault Refusal := .next (s.radioStep HostSide.cxTimeout)
/-- RF_TX_END (R658). -/
def execRfTxEnd (offset : Nat) (errTenthDb : Int) (s : State) : Host.Outcome State Fault Refusal :=
  .next (s.radioStep fun h => h.rfTxDone offset errTenthDb)
/-- SYNTH_UNLOCK (R652). -/
def execSynthUnlock (lockUs : Byte) (s : State) : Host.Outcome State Fault Refusal := .next (s.radioStep fun h => h.rfUnlock lockUs)
/-- RF_CAL_SLICE (R476). -/
def execRfCalSlice (item : CalItem) (run : Int) (second : Bool) (s : State) : Host.Outcome State Fault Refusal :=
  .next (s.radioStep fun h => h.rfCalSlice item run second)

end Sys2Proof.Machine
end

