-- ==== Sys2Proof/Machine/TextSteps.lean ====
section
/-! DEFINITION. Sys2Proof/Machine/TextSteps.lean: the text commands and the register accesses as steps. Each is the command
of that name in a line of its own, executed at its host frame boundary (16_commands.md, DESIGN CHOICE, unsafe: notes/assumptions/2.md). -/

namespace Sys2Proof.Machine

/-- REGISTER_WRITE (R612). -/
def execRegisterWrite (addr : BitVec 16) (value : Word) (s : State) : Host.Outcome State Fault Refusal :=
  .next (s.textCmd (.registerWrite addr value))

/-- REGISTER_READ (R611). -/
def execRegisterRead (addr : BitVec 16) (n : Nat) (s : State) : Host.Outcome State Fault Refusal :=
  .next (s.textCmd (.registerRead addr n))

/-- ID_QUERY (R586). -/
def execIdQuery (s : State) : Host.Outcome State Fault Refusal :=
  .next (s.textCmd .idQuery)

/-- MODE (R541). -/
def execMode (m : UMode) (s : State) : Host.Outcome State Fault Refusal :=
  .next (s.textCmd (.mode m))

/-- MODE_QUERY (R541). -/
def execModeQuery (s : State) : Host.Outcome State Fault Refusal :=
  .next (s.textCmd .modeQuery)

/-- UART_BAUD (R531). -/
def execUartBaud (b : Nat) (s : State) : Host.Outcome State Fault Refusal :=
  .next (s.textCmd (.uartBaud b))

/-- UART_BAUD_QUERY (R583). -/
def execUartBaudQuery (s : State) : Host.Outcome State Fault Refusal :=
  .next (s.textCmd .uartBaudQuery)

/-- RESET_HOST (R587). -/
def execResetHost (s : State) : Host.Outcome State Fault Refusal :=
  .next (s.textCmd .resetHost)

/-- ST_QUERY (R613). -/
def execStQuery (s : State) : Host.Outcome State Fault Refusal :=
  .next (s.textCmd .stQuery)

/-- ST_CLR (R588). -/
def execStClr (m : Word) (s : State) : Host.Outcome State Fault Refusal :=
  .next (s.textCmd (.stClr m))

/-- JOB_QUERY (R589). -/
def execJobQuery (n : Option Nat) (s : State) : Host.Outcome State Fault Refusal :=
  .next (s.textCmd (.jobQuery n))

/-- JOB_PART_QUERY (R590). -/
def execJobPartQuery (n : Nat) (offset : Nat) (count : Nat) (s : State) : Host.Outcome State Fault Refusal :=
  .next (s.textCmd (.jobPartQuery n offset count))

/-- JOB_CANCEL (R591). -/
def execJobCancel (n : Nat) (s : State) : Host.Outcome State Fault Refusal :=
  .next (s.textCmd (.jobCancel n))

/-- TEST (R514). -/
def execTest (s : State) : Host.Outcome State Fault Refusal :=
  .next (s.textCmd .test)

/-- TEST_FORCE (R516). -/
def execTestForce (s : State) : Host.Outcome State Fault Refusal :=
  .next (s.textCmd .testForce)

/-- TEST_QUERY (R510). -/
def execTestQuery (s : State) : Host.Outcome State Fault Refusal :=
  .next (s.textCmd .testQuery)

/-- TEL_QUERY (R524). -/
def execTelQuery (g : Option TelGroup) (s : State) : Host.Outcome State Fault Refusal :=
  .next (s.textCmd (.telQuery g))

/-- TEL_CLR (R525). -/
def execTelClr (g : Option TelGroup) (s : State) : Host.Outcome State Fault Refusal :=
  .next (s.textCmd (.telClr g))

/-- TIME_QUERY (R213). -/
def execTimeQuery (s : State) : Host.Outcome State Fault Refusal :=
  .next (s.textCmd .timeQuery)

/-- TIME (R227). -/
def execTime (year : Nat) (month : Nat) (date : Nat) (hour : Nat) (min : Nat) (sec : Nat) (s : State) : Host.Outcome State Fault Refusal :=
  .next (s.textCmd (.time year month date hour min sec))

/-- STAMP_QUERY (R214). -/
def execStampQuery (s : State) : Host.Outcome State Fault Refusal :=
  .next (s.textCmd .stampQuery)

/-- LOCAL (R228). -/
def execLocalOfs (n : Int) (s : State) : Host.Outcome State Fault Refusal :=
  .next (s.textCmd (.localOfs n))

/-- LOCAL_QUERY (R583). -/
def execLocalQuery (s : State) : Host.Outcome State Fault Refusal :=
  .next (s.textCmd .localQuery)

/-- TMARK (R237). -/
def execTmark (a : TmarkArg) (s : State) : Host.Outcome State Fault Refusal :=
  .next (s.textCmd (.tmark a))

/-- PPS (R593). -/
def execPps (en : Nat) (s : State) : Host.Outcome State Fault Refusal :=
  .next (s.textCmd (.pps en))

/-- PPS_QUERY (R593). -/
def execPpsQuery (s : State) : Host.Outcome State Fault Refusal :=
  .next (s.textCmd .ppsQuery)

/-- REF_QUERY (R594). -/
def execRefQuery (s : State) : Host.Outcome State Fault Refusal :=
  .next (s.textCmd .refQuery)

/-- REF_SET (R280). -/
def execRefSet (key : Option RefKey) (value : Nat) (s : State) : Host.Outcome State Fault Refusal :=
  .next (s.textCmd (.refSet key value))

/-- REF_SET_QUERY (R583). -/
def execRefSetQuery (key : Option RefKey) (s : State) : Host.Outcome State Fault Refusal :=
  .next (s.textCmd (.refSetQuery key))

/-- RATE_QUERY (R595). -/
def execRateQuery (s : State) : Host.Outcome State Fault Refusal :=
  .next (s.textCmd .rateQuery)

/-- TRIM (R303). -/
def execTrim (n : Int) (w : Nat) (s : State) : Host.Outcome State Fault Refusal :=
  .next (s.textCmd (.trim n w))

/-- TRIM_QUERY (R583). -/
def execTrimQuery (s : State) : Host.Outcome State Fault Refusal :=
  .next (s.textCmd .trimQuery)

/-- RATE_EN (R293). -/
def execRateEn (comp : Nat) (learn : Nat) (s : State) : Host.Outcome State Fault Refusal :=
  .next (s.textCmd (.rateEn comp learn))

/-- RATE_EN_QUERY (R583). -/
def execRateEnQuery (s : State) : Host.Outcome State Fault Refusal :=
  .next (s.textCmd .rateEnQuery)

/-- AL (R596). -/
def execAl (a : AlArg) (s : State) : Host.Outcome State Fault Refusal :=
  .next (s.textCmd (.al a))

/-- AL_QUERY (R597). -/
def execAlQuery (n : Nat) (s : State) : Host.Outcome State Fault Refusal :=
  .next (s.textCmd (.alQuery n))

/-- PER_EVT (R323). -/
def execPerEvt (events : BitVec 4) (acts : BitVec 5) (s : State) : Host.Outcome State Fault Refusal :=
  .next (s.textCmd (.perEvt events acts))

/-- TICKER (R325). -/
def execTicker (a : TickerArg) (s : State) : Host.Outcome State Fault Refusal :=
  .next (s.textCmd (.ticker a))

/-- PON (R329). -/
def execPon (o : WakeOut) (pulse : Bool) (len : Option Nat) (high : Option Bool) (s : State) : Host.Outcome State Fault Refusal :=
  .next (s.textCmd (.pon o pulse len high))

/-- PON_REL (R329). -/
def execPonRel (o : WakeOut) (s : State) : Host.Outcome State Fault Refusal :=
  .next (s.textCmd (.ponRel o))

/-- PON_QUERY (R583). -/
def execPonQuery (s : State) : Host.Outcome State Fault Refusal :=
  .next (s.textCmd .ponQuery)

/-- PER_CFG (R349). -/
def execPerCfg (day : Nat) (evin : Nat) (s : State) : Host.Outcome State Fault Refusal :=
  .next (s.textCmd (.perCfg day evin))

/-- PER_TH (R340). -/
def execPerTh (n : Nat) (hi : Int) (lo : Int) (s : State) : Host.Outcome State Fault Refusal :=
  .next (s.textCmd (.perTh n hi lo))

/-- PER_QUERY (R598). -/
def execPerQuery (set : PerSet) (a : PerArg) (s : State) : Host.Outcome State Fault Refusal :=
  .next (s.textCmd (.perQuery set a))

/-- TRIP_OPEN (R346). -/
def execTripOpen (id : Word) (s : State) : Host.Outcome State Fault Refusal :=
  .next (s.textCmd (.tripOpen id))

/-- TRIP_CLOSE (R346). -/
def execTripClose (s : State) : Host.Outcome State Fault Refusal :=
  .next (s.textCmd .tripClose)

/-- KEEP (R599). -/
def execKeep (n : Nat) (bytes : List Byte) (s : State) : Host.Outcome State Fault Refusal :=
  .next (s.textCmd (.keep n bytes))

/-- KEEP_QUERY (R599). -/
def execKeepQuery (n : Nat) (c : Nat) (s : State) : Host.Outcome State Fault Refusal :=
  .next (s.textCmd (.keepQuery n c))

/-- KEEP_SAVE (R600). -/
def execKeepSave (s : State) : Host.Outcome State Fault Refusal :=
  .next (s.textCmd .keepSave)

/-- KEEP_LOAD (R600). -/
def execKeepLoad (s : State) : Host.Outcome State Fault Refusal :=
  .next (s.textCmd .keepLoad)

/-- EV_CFG (R353). -/
def execEvCfg (i : Nat) (edge : Nat) (filt : Nat) (jrn : Nat) (s : State) : Host.Outcome State Fault Refusal :=
  .next (s.textCmd (.evCfg i edge filt jrn))

/-- EV_CFG_QUERY (R583). -/
def execEvCfgQuery (i : Nat) (s : State) : Host.Outcome State Fault Refusal :=
  .next (s.textCmd (.evCfgQuery i))

/-- EV_OFF (R355). -/
def execEvOff (i : Nat) (s : State) : Host.Outcome State Fault Refusal :=
  .next (s.textCmd (.evOff i))

/-- EV_QUERY (R374). -/
def execEvQuery (n : Nat) (s : State) : Host.Outcome State Fault Refusal :=
  .next (s.textCmd (.evQuery n))

/-- T_CFG (R383). -/
def execTCfg (n : Nat) (type : Nat) (exc : Nat) (s : State) : Host.Outcome State Fault Refusal :=
  .next (s.textCmd (.tCfg n type exc))

/-- T_PLAN (R389). -/
def execTPlan (n : Nat) (k : Option Nat) (s : State) : Host.Outcome State Fault Refusal :=
  .next (s.textCmd (.tPlan n k))

/-- T_OFS (R410). -/
def execTOfs (n : Nat) (milli : Int) (s : State) : Host.Outcome State Fault Refusal :=
  .next (s.textCmd (.tOfs n milli))

/-- T_LEAD (R410). -/
def execTLead (n : Nat) (mohm : Nat) (s : State) : Host.Outcome State Fault Refusal :=
  .next (s.textCmd (.tLead n mohm))

/-- T_QUERY (R405). -/
def execTQuery (n : Nat) (s : State) : Host.Outcome State Fault Refusal :=
  .next (s.textCmd (.tQuery n))

/-- T_SNAP (R601). -/
def execTSnap (s : State) : Host.Outcome State Fault Refusal :=
  .next (s.textCmd .tSnap)

/-- J_QUERY (R602). -/
def execJQuery (s : State) : Host.Outcome State Fault Refusal :=
  .next (s.textCmd .jQuery)

/-- J_POLICY (R437). -/
def execJPolicy (wrap : Bool) (s : State) : Host.Outcome State Fault Refusal :=
  .next (s.textCmd (.jPolicy wrap))

/-- NOTE (R19). -/
def execNote (t : Text) (s : State) : Host.Outcome State Fault Refusal :=
  .next (s.textCmd (.note t))

/-- J_EXPORT (R430). -/
def execJExport (range : Option (Nat × Nat)) (s : State) : Host.Outcome State Fault Refusal :=
  .next (s.textCmd (.jExport range))

/-- J_VERIFY (R436). -/
def execJVerify (range : Option (Nat × Nat)) (s : State) : Host.Outcome State Fault Refusal :=
  .next (s.textCmd (.jVerify range))

/-- J_ERASE (R439). -/
def execJErase (s : State) : Host.Outcome State Fault Refusal :=
  .next (s.textCmd .jErase)

/-- SEAL_KEY (R426). -/
def execSealKey (p : Nat) (t : Text) (s : State) : Host.Outcome State Fault Refusal :=
  .next (s.textCmd (.sealKey p t))

/-- SEAL_QUERY (R604). -/
def execSealQuery (s : State) : Host.Outcome State Fault Refusal :=
  .next (s.textCmd .sealQuery)

/-- CAL_RUN (R481). -/
def execCalRun (item : Option CalItem) (index : Option Nat) (s : State) : Host.Outcome State Fault Refusal :=
  .next (s.textCmd (.calRun item index))

/-- CAL_QUERY (R605). -/
def execCalQuery (s : State) : Host.Outcome State Fault Refusal :=
  .next (s.textCmd .calQuery)

/-- CAL_SAVE_QUERY (R493). -/
def execCalSaveQuery (s : State) : Host.Outcome State Fault Refusal :=
  .next (s.textCmd .calSaveQuery)

/-- CAL_LOAD (R494). -/
def execCalLoad (line : Nat) (bytes : List Byte) (s : State) : Host.Outcome State Fault Refusal :=
  .next (s.textCmd (.calLoad line bytes))

/-- CAL_LOAD_GO (R495). -/
def execCalLoadGo (s : State) : Host.Outcome State Fault Refusal :=
  .next (s.textCmd .calLoadGo)

/-- CAL_COMMIT (R498). -/
def execCalCommit (s : State) : Host.Outcome State Fault Refusal :=
  .next (s.textCmd .calCommit)

/-- SUP_QUERY (R606). -/
def execSupQuery (s : State) : Host.Outcome State Fault Refusal :=
  .next (s.textCmd .supQuery)

/-- SUP_VSW (R69). -/
def execSupVsw (deciV : Nat) (s : State) : Host.Outcome State Fault Refusal :=
  .next (s.textCmd (.supVsw deciV))

/-- SUP_BATLOW (R87). -/
def execSupBatlow (deciV : Nat) (s : State) : Host.Outcome State Fault Refusal :=
  .next (s.textCmd (.supBatlow deciV))

/-- BAT_PLAN (R84). -/
def execBatPlan (a : BatPlanArg) (s : State) : Host.Outcome State Fault Refusal :=
  .next (s.textCmd (.batPlan a))

/-- RF_QUERY (R607). -/
def execRfQuery (s : State) : Host.Outcome State Fault Refusal :=
  .next (s.textCmd .rfQuery)

/-- RF_STATE (R648). -/
def execRfState (target : RfTarget) (s : State) : Host.Outcome State Fault Refusal :=
  .next (s.textCmd (.rfState target))

/-- RF_CH (R645). -/
def execRfCh (hz : Nat) (s : State) : Host.Outcome State Fault Refusal :=
  .next (s.textCmd (.rfCh hz))

/-- RF_MODE (R639). -/
def execRfMode (fsk : Nat) (rate : Nat) (hOne : Bool) (bt : Bool) (fec : Nat) (s : State) : Host.Outcome State Fault Refusal :=
  .next (s.textCmd (.rfMode fsk rate hOne bt fec))

/-- RF_FRAME (R639). -/
def execRfFrame (preamble : Nat) (coded : Bool) (whiten : Bool) (s : State) : Host.Outcome State Fault Refusal :=
  .next (s.textCmd (.rfFrame preamble coded whiten))

/-- RF_PWR (R663). -/
def execRfPwr (idx : Nat) (comp : Nat) (s : State) : Host.Outcome State Fault Refusal :=
  .next (s.textCmd (.rfPwr idx comp))

/-- RF_CX (R680). -/
def execRfCx (lead : Nat) (pri : Nat) (listen : Nat) (timeout : Nat) (s : State) : Host.Outcome State Fault Refusal :=
  .next (s.textCmd (.rfCx lead pri listen timeout))

/-- RF_TX (R654). -/
def execRfTx (psdu : List Byte) (s : State) : Host.Outcome State Fault Refusal :=
  .next (s.textCmd (.rfTx psdu))

/-- RFTX_QUERY (R662). -/
def execRftxQuery (n : Nat) (s : State) : Host.Outcome State Fault Refusal :=
  .next (s.textCmd (.rftxQuery n))

/-- RF_BUF (R608). -/
def execRfBuf (offset : Nat) (bytes : List Byte) (s : State) : Host.Outcome State Fault Refusal :=
  .next (s.textCmd (.rfBuf offset bytes))

/-- RF_TXJ (R655). -/
def execRfTxj (len : Nat) (s : State) : Host.Outcome State Fault Refusal :=
  .next (s.textCmd (.rfTxj len))

/-- RFQ_QUERY (R609). -/
def execRfqQuery (s : State) : Host.Outcome State Fault Refusal :=
  .next (s.textCmd .rfqQuery)

/-- RFQ_POP (R609). -/
def execRfqPop (id : Nat) (s : State) : Host.Outcome State Fault Refusal :=
  .next (s.textCmd (.rfqPop id))

/-- DESC_QUERY (R610). -/
def execDescQuery (offset : Nat) (len : Nat) (s : State) : Host.Outcome State Fault Refusal :=
  .next (s.textCmd (.descQuery offset len))

/-- DESC_LIST_QUERY (R701). -/
def execDescListQuery (type : Option Nat) (s : State) : Host.Outcome State Fault Refusal :=
  .next (s.textCmd (.descListQuery type))

/-- DESC_DUMP (R182). -/
def execDescDump (s : State) : Host.Outcome State Fault Refusal :=
  .next (s.textCmd .descDump)

end Sys2Proof.Machine
end

