-- ==== Sys2Proof/Machine/Dispatch.lean ====
section
/-! DEFINITION. Sys2Proof/Machine/Dispatch.lean: one arm per command, each a direct call of its meaning. -/

namespace Sys2Proof.Machine

/-- The effect of a command on everything but the queue. -/
def exec (i : Instr) (s : State) : Host.Outcome State Fault Refusal :=
  match i with
  | .frameBoundary => Sys2Proof.Machine.execFrameBoundary s
  | .tickerFire => Sys2Proof.Machine.execTickerFire s
  | .ponPulseEnd o => Sys2Proof.Machine.execPonPulseEnd o s
  | .alarmActionSlice => Sys2Proof.Machine.execAlarmActionSlice s
  | .watchdogRestart => Sys2Proof.Machine.execWatchdogRestart s
  | .fieldWriteCommit => Sys2Proof.Machine.execFieldWriteCommit s
  | .markEvaluate => Sys2Proof.Machine.execMarkEvaluate s
  | .markMiss r => Sys2Proof.Machine.execMarkMiss r s
  | .referenceIdle r => Sys2Proof.Machine.execReferenceIdle r s
  | .handoverComplete => Sys2Proof.Machine.execHandoverComplete s
  | .slewEnd => Sys2Proof.Machine.execSlewEnd s
  | .holdoverLongSet => Sys2Proof.Machine.execHoldoverLongSet s
  | .dieTempRead t => Sys2Proof.Machine.execDieTempRead t s
  | .learningHalfEnd => Sys2Proof.Machine.execLearningHalfEnd s
  | .learningWindowClose => Sys2Proof.Machine.execLearningWindowClose s
  | .learnedTableSummary => Sys2Proof.Machine.execLearnedTableSummary s
  | .crystalHandover => Sys2Proof.Machine.execCrystalHandover s
  | .crystalStartFail => Sys2Proof.Machine.execCrystalStartFail s
  | .crystalRestart => Sys2Proof.Machine.execCrystalRestart s
  | .sourceFall => Sys2Proof.Machine.execSourceFall s
  | .demotionDecide tick back => Sys2Proof.Machine.execDemotionDecide tick back s
  | .sourceQualify src tick srcMv vbatMv => Sys2Proof.Machine.execSourceQualify src tick srcMv vbatMv s
  | .vbkPor => Sys2Proof.Machine.execVbkPor s
  | .fieldColdStart => Sys2Proof.Machine.execFieldColdStart s
  | .calRestoreDone aOk bOk => Sys2Proof.Machine.execCalRestoreDone aOk bOk s
  | .journalMount mapOk keyAOk keyBOk => Sys2Proof.Machine.execJournalMount mapOk keyAOk keyBOk s
  | .vbatMeasure mv => Sys2Proof.Machine.execVbatMeasure mv s
  | .batplanDue => Sys2Proof.Machine.execBatplanDue s
  | .pwrqSend => Sys2Proof.Machine.execPwrqSend s
  | .vhostFall => Sys2Proof.Machine.execVhostFall s
  | .evEdge k rising tick ps n1 moving => Sys2Proof.Machine.execEvEdge k rising tick ps n1 moving s
  | .filterHoldComplete k tick => Sys2Proof.Machine.execFilterHoldComplete k tick s
  | .eventQueue k tick n2 => Sys2Proof.Machine.execEventQueue k tick n2 s
  | .stagingRoomReturn => Sys2Proof.Machine.execStagingRoomReturn s
  | .conversionStart => Sys2Proof.Machine.execConversionStart s
  | .continuityCheck core padsOk => Sys2Proof.Machine.execContinuityCheck core padsOk s
  | .conversionLatchBusy core => Sys2Proof.Machine.execConversionLatchBusy core s
  | .conversionEnd core milliOhm padsOk => Sys2Proof.Machine.execConversionEnd core milliOhm padsOk s
  | .conversionCompletion core => Sys2Proof.Machine.execConversionCompletion core s
  | .flushRequest => Sys2Proof.Machine.execFlushRequest s
  | .flushPriorityRaise => Sys2Proof.Machine.execFlushPriorityRaise s
  | .flushSlice corr => Sys2Proof.Machine.execFlushSlice corr s
  | .scrubSlice corr uncorr sealOk => Sys2Proof.Machine.execScrubSlice corr uncorr sealOk s
  | .wrapErase => Sys2Proof.Machine.execWrapErase s
  | .journalServiceSlice reads => Sys2Proof.Machine.execJournalServiceSlice reads s
  | .calItemDue item lane => Sys2Proof.Machine.execCalItemDue item lane s
  | .calSlice m => Sys2Proof.Machine.execCalSlice m s
  | .adcCalFrame core0run1 core1run1 core0run2 core1run2 => Sys2Proof.Machine.execAdcCalFrame core0run1 core1run1 core0run2 core1run2 s
  | .adcCalCompute => Sys2Proof.Machine.execAdcCalCompute s
  | .calStoreDue => Sys2Proof.Machine.execCalStoreDue s
  | .calStoreSlice readBackOk => Sys2Proof.Machine.execCalStoreSlice readBackOk s
  | .overlayRewrite readBackOk => Sys2Proof.Machine.execOverlayRewrite readBackOk s
  | .testSlice side applicable pass measured limit => Sys2Proof.Machine.execTestSlice side applicable pass measured limit s
  | .telemetrySlice => Sys2Proof.Machine.execTelemetrySlice s
  | .tickReceive seq ovr dly => Sys2Proof.Machine.execTickReceive seq ovr dly s
  | .linkLoss => Sys2Proof.Machine.execLinkLoss s
  | .fieldUnlink => Sys2Proof.Machine.execFieldUnlink s
  | .echoReceive seq train crcf rtt => Sys2Proof.Machine.execEchoReceive seq train crcf rtt s
  | .idleReceive lane => Sys2Proof.Machine.execIdleReceive lane s
  | .statReceive seq bits => Sys2Proof.Machine.execStatReceive seq bits s
  | .evtReceive seq w0 w1 w2 => Sys2Proof.Machine.execEvtReceive seq w0 w1 w2 s
  | .sampReceive seq w0 w1 w2 w3 => Sys2Proof.Machine.execSampReceive seq w0 w1 w2 w3 s
  | .jdatReceive seq w0 w1 data => Sys2Proof.Machine.execJdatReceive seq w0 w1 data s
  | .rspxReceive seq w0 data => Sys2Proof.Machine.execRspxReceive seq w0 data s
  | .pwraReceive seq w0 => Sys2Proof.Machine.execPwraReceive seq w0 s
  | .wakeReceive seq w0 => Sys2Proof.Machine.execWakeReceive seq w0 s
  | .regdatReceive seq value => Sys2Proof.Machine.execRegdatReceive seq value s
  | .ackReceive lane seq atype => Sys2Proof.Machine.execAckReceive lane seq atype s
  | .nakReceive lane seq atype reason => Sys2Proof.Machine.execNakReceive lane seq atype reason s
  | .loopReceive lane idx ret pattern => Sys2Proof.Machine.execLoopReceive lane idx ret pattern s
  | .markReceive seq w0 w1 w2 w3 w4 => Sys2Proof.Machine.execMarkReceive seq w0 w1 w2 w3 w4 s
  | .regrdReceive seq line addr housekeeping => Sys2Proof.Machine.execRegrdReceive seq line addr housekeeping s
  | .regwrReceive seq line addr value housekeeping => Sys2Proof.Machine.execRegwrReceive seq line addr value housekeeping s
  | .cmdxReceive seq w0 cmd => Sys2Proof.Machine.execCmdxReceive seq w0 cmd s
  | .jreqReceive seq w0 w1 => Sys2Proof.Machine.execJreqReceive seq w0 w1 s
  | .pwrqReceive seq w0 => Sys2Proof.Machine.execPwrqReceive seq w0 s
  | .messageCrcFail lane => Sys2Proof.Machine.execMessageCrcFail lane s
  | .reservedTypeReceive lane code seq => Sys2Proof.Machine.execReservedTypeReceive lane code seq s
  | .transactionWordLate lane atype seq => Sys2Proof.Machine.execTransactionWordLate lane atype seq s
  | .answerTimeout side => Sys2Proof.Machine.execAnswerTimeout side s
  | .holdWaitTimeout side => Sys2Proof.Machine.execHoldWaitTimeout side s
  | .fieldStreamResend => Sys2Proof.Machine.execFieldStreamResend s
  | .rspxTimeout => Sys2Proof.Machine.execRspxTimeout s
  | .hostStart vhost3V => Sys2Proof.Machine.execHostStart vhost3V s
  | .nrstLow ns => Sys2Proof.Machine.execNrstLow ns s
  | .banner => Sys2Proof.Machine.execBanner s
  | .uartByteReceive b framingError => Sys2Proof.Machine.execUartByteReceive b framingError s
  | .lineReceive terminator late => Sys2Proof.Machine.execLineReceive terminator late s
  | .hostFrameBoundary full => Sys2Proof.Machine.execHostFrameBoundary full s
  | .uartBreak => Sys2Proof.Machine.execUartBreak s
  | .lineStuck => Sys2Proof.Machine.execLineStuck s
  | .receiverReenable => Sys2Proof.Machine.execReceiverReenable s
  | .uartIdleOff => Sys2Proof.Machine.execUartIdleOff s
  | .baudSwitch => Sys2Proof.Machine.execBaudSwitch s
  | .baudRevert => Sys2Proof.Machine.execBaudRevert s
  | .overlayMerge s2Ok s3Ok => Sys2Proof.Machine.execOverlayMerge s2Ok s3Ok s
  | .ponPolarityRead => Sys2Proof.Machine.execPonPolarityRead s
  | .ppsEdge offset highNs => Sys2Proof.Machine.execPpsEdge offset highNs s
  | .rfTransitionDone lockUs => Sys2Proof.Machine.execRfTransitionDone lockUs s
  | .rfSfdDetect offset => Sys2Proof.Machine.execRfSfdDetect offset s
  | .rfPacketEnd p => Sys2Proof.Machine.execRfPacketEnd p s
  | .rfServiceSlice htemp vpaMv => Sys2Proof.Machine.execRfServiceSlice htemp vpaMv s
  | .cxGrantSample level htemp vpaMv => Sys2Proof.Machine.execCxGrantSample level htemp vpaMv s
  | .cxGrantRise htemp vpaMv => Sys2Proof.Machine.execCxGrantRise htemp vpaMv s
  | .cxGrantFall => Sys2Proof.Machine.execCxGrantFall s
  | .cxTimeout => Sys2Proof.Machine.execCxTimeout s
  | .rfTxEnd offset errTenthDb => Sys2Proof.Machine.execRfTxEnd offset errTenthDb s
  | .synthUnlock lockUs => Sys2Proof.Machine.execSynthUnlock lockUs s
  | .rfCalSlice item run second => Sys2Proof.Machine.execRfCalSlice item run second s
  | .stagedWrite addr value => Sys2Proof.Machine.execStagedWrite addr value s
  | .tsetGo => Sys2Proof.Machine.execTsetGo s
  | .alApply n => Sys2Proof.Machine.execAlApply n s
  | .perbApply => Sys2Proof.Machine.execPerbApply s
  | .prbApply n => Sys2Proof.Machine.execPrbApply n s
  | .rfchApply => Sys2Proof.Machine.execRfchApply s
  | .rfphyApply => Sys2Proof.Machine.execRfphyApply s
  | .rfpaApply => Sys2Proof.Machine.execRfpaApply s
  | .keepByteWrite n b => Sys2Proof.Machine.execKeepByteWrite n b s
  | .registerWrite addr value => Sys2Proof.Machine.execRegisterWrite addr value s
  | .registerRead addr n => Sys2Proof.Machine.execRegisterRead addr n s
  | .idQuery => Sys2Proof.Machine.execIdQuery s
  | .mode m => Sys2Proof.Machine.execMode m s
  | .modeQuery => Sys2Proof.Machine.execModeQuery s
  | .uartBaud b => Sys2Proof.Machine.execUartBaud b s
  | .uartBaudQuery => Sys2Proof.Machine.execUartBaudQuery s
  | .resetHost => Sys2Proof.Machine.execResetHost s
  | .stQuery => Sys2Proof.Machine.execStQuery s
  | .stClr m => Sys2Proof.Machine.execStClr m s
  | .jobQuery n => Sys2Proof.Machine.execJobQuery n s
  | .jobPartQuery n offset count => Sys2Proof.Machine.execJobPartQuery n offset count s
  | .jobCancel n => Sys2Proof.Machine.execJobCancel n s
  | .test => Sys2Proof.Machine.execTest s
  | .testForce => Sys2Proof.Machine.execTestForce s
  | .testQuery => Sys2Proof.Machine.execTestQuery s
  | .telQuery g => Sys2Proof.Machine.execTelQuery g s
  | .telClr g => Sys2Proof.Machine.execTelClr g s
  | .timeQuery => Sys2Proof.Machine.execTimeQuery s
  | .time year month date hour min sec => Sys2Proof.Machine.execTime year month date hour min sec s
  | .stampQuery => Sys2Proof.Machine.execStampQuery s
  | .localOfs n => Sys2Proof.Machine.execLocalOfs n s
  | .localQuery => Sys2Proof.Machine.execLocalQuery s
  | .tmark a => Sys2Proof.Machine.execTmark a s
  | .pps en => Sys2Proof.Machine.execPps en s
  | .ppsQuery => Sys2Proof.Machine.execPpsQuery s
  | .refQuery => Sys2Proof.Machine.execRefQuery s
  | .refSet key value => Sys2Proof.Machine.execRefSet key value s
  | .refSetQuery key => Sys2Proof.Machine.execRefSetQuery key s
  | .rateQuery => Sys2Proof.Machine.execRateQuery s
  | .trim n w => Sys2Proof.Machine.execTrim n w s
  | .trimQuery => Sys2Proof.Machine.execTrimQuery s
  | .rateEn comp learn => Sys2Proof.Machine.execRateEn comp learn s
  | .rateEnQuery => Sys2Proof.Machine.execRateEnQuery s
  | .al a => Sys2Proof.Machine.execAl a s
  | .alQuery n => Sys2Proof.Machine.execAlQuery n s
  | .perEvt events acts => Sys2Proof.Machine.execPerEvt events acts s
  | .ticker a => Sys2Proof.Machine.execTicker a s
  | .pon o pulse len high => Sys2Proof.Machine.execPon o pulse len high s
  | .ponRel o => Sys2Proof.Machine.execPonRel o s
  | .ponQuery => Sys2Proof.Machine.execPonQuery s
  | .perCfg day evin => Sys2Proof.Machine.execPerCfg day evin s
  | .perTh n hi lo => Sys2Proof.Machine.execPerTh n hi lo s
  | .perQuery set a => Sys2Proof.Machine.execPerQuery set a s
  | .tripOpen id => Sys2Proof.Machine.execTripOpen id s
  | .tripClose => Sys2Proof.Machine.execTripClose s
  | .keep n bytes => Sys2Proof.Machine.execKeep n bytes s
  | .keepQuery n c => Sys2Proof.Machine.execKeepQuery n c s
  | .keepSave => Sys2Proof.Machine.execKeepSave s
  | .keepLoad => Sys2Proof.Machine.execKeepLoad s
  | .evCfg k edge filt jrn => Sys2Proof.Machine.execEvCfg k edge filt jrn s
  | .evCfgQuery k => Sys2Proof.Machine.execEvCfgQuery k s
  | .evOff k => Sys2Proof.Machine.execEvOff k s
  | .evQuery n => Sys2Proof.Machine.execEvQuery n s
  | .tCfg n type exc => Sys2Proof.Machine.execTCfg n type exc s
  | .tPlan n k => Sys2Proof.Machine.execTPlan n k s
  | .tOfs n milli => Sys2Proof.Machine.execTOfs n milli s
  | .tLead n mohm => Sys2Proof.Machine.execTLead n mohm s
  | .tQuery n => Sys2Proof.Machine.execTQuery n s
  | .tSnap => Sys2Proof.Machine.execTSnap s
  | .jQuery => Sys2Proof.Machine.execJQuery s
  | .jPolicy wrap => Sys2Proof.Machine.execJPolicy wrap s
  | .note t => Sys2Proof.Machine.execNote t s
  | .jExport range => Sys2Proof.Machine.execJExport range s
  | .jVerify range => Sys2Proof.Machine.execJVerify range s
  | .jErase => Sys2Proof.Machine.execJErase s
  | .sealKey p t => Sys2Proof.Machine.execSealKey p t s
  | .sealQuery => Sys2Proof.Machine.execSealQuery s
  | .calRun item index => Sys2Proof.Machine.execCalRun item index s
  | .calQuery => Sys2Proof.Machine.execCalQuery s
  | .calSaveQuery => Sys2Proof.Machine.execCalSaveQuery s
  | .calLoad line bytes => Sys2Proof.Machine.execCalLoad line bytes s
  | .calLoadGo => Sys2Proof.Machine.execCalLoadGo s
  | .calCommit => Sys2Proof.Machine.execCalCommit s
  | .supQuery => Sys2Proof.Machine.execSupQuery s
  | .supVsw deciV => Sys2Proof.Machine.execSupVsw deciV s
  | .supBatlow deciV => Sys2Proof.Machine.execSupBatlow deciV s
  | .batPlan a => Sys2Proof.Machine.execBatPlan a s
  | .rfQuery => Sys2Proof.Machine.execRfQuery s
  | .rfState target => Sys2Proof.Machine.execRfState target s
  | .rfCh hz => Sys2Proof.Machine.execRfCh hz s
  | .rfMode fsk rate hOne bt fec => Sys2Proof.Machine.execRfMode fsk rate hOne bt fec s
  | .rfFrame preamble coded whiten => Sys2Proof.Machine.execRfFrame preamble coded whiten s
  | .rfPwr idx comp => Sys2Proof.Machine.execRfPwr idx comp s
  | .rfCx lead pri listen timeout => Sys2Proof.Machine.execRfCx lead pri listen timeout s
  | .rfTx psdu => Sys2Proof.Machine.execRfTx psdu s
  | .rftxQuery n => Sys2Proof.Machine.execRftxQuery n s
  | .rfBuf offset bytes => Sys2Proof.Machine.execRfBuf offset bytes s
  | .rfTxj len => Sys2Proof.Machine.execRfTxj len s
  | .rfqQuery => Sys2Proof.Machine.execRfqQuery s
  | .rfqPop id => Sys2Proof.Machine.execRfqPop id s
  | .descQuery offset len => Sys2Proof.Machine.execDescQuery offset len s
  | .descListQuery type => Sys2Proof.Machine.execDescListQuery type s
  | .descDump => Sys2Proof.Machine.execDescDump s
  | .standbySourceFall src => Sys2Proof.Machine.execStandbySourceFall src s
  | .vhostRise => Sys2Proof.Machine.execVhostRise s
  | .hostPowerOff => Sys2Proof.Machine.execHostPowerOff s
  | .fieldCommandSlice => Sys2Proof.Machine.execFieldCommandSlice s
  | .hostJobSlice => Sys2Proof.Machine.execHostJobSlice s
  | .eraseJobSlice => Sys2Proof.Machine.execEraseJobSlice s
  | .keepSaveSlice => Sys2Proof.Machine.execKeepSaveSlice s
  | .breakEnd => Sys2Proof.Machine.execBreakEnd s
  | .responseSent => Sys2Proof.Machine.execResponseSent s

end Sys2Proof.Machine
end

