-- ==== Sys2Proof/WellFormed.lean ====
section
/-! DEFINITION. Sys2Proof/WellFormed.lean: the operands that a command can carry: instants within a frame of at most 513
ticks (02_frame.md), words of a message's length (04_barrier.md Table 4-5), arguments that their written form admits
(15_command_line.md Table 15-2). Ranges that a rule refuses are no matter of form: the meanings refuse them. -/

namespace Sys2Proof

/-- A text argument (R539): printable characters, no semicolon, at most a line of them. -/
def plainText (t : Text) : Bool :=
  decide (t ≠ []) && decide (t.length ≤ 240) && t.all fun c => decide (0x20 ≤ c.toNat) && decide (c.toNat ≤ 0x7E) && decide (c ≠ ';')

/-- An item of `AL` is two digits or masked; the day of week is one digit or masked (R596). -/
def AlArg.wellFormed : AlArg → Bool
  | .set _ h m s d y mo da _ =>
    ([h, m, s, y, mo, da].all fun o => match o with | some v => decide (v < 100) | none => true) &&
      (match d with | some v => decide (v < 10) | none => true)
  | .off _ => true

/-- The arguments that a `CMDX` carries. -/
def FieldCmd.wellFormed : FieldCmd → Bool
  | .note t => plainText t
  | .sealKey _ t => plainText t
  | .calLoad _ bs => decide (bs.length = 16)
  | _ => true

/-- The operands of a command have a form that the part can meet. -/
def Instr.wellFormed : Instr → Bool
  | .frameBoundary => true
  | .tickerFire => true
  | .ponPulseEnd _ => true
  | .alarmActionSlice => true
  | .watchdogRestart => true
  | .fieldWriteCommit => true
  | .markEvaluate => true
  | .markMiss _ => true
  | .referenceIdle _ => true
  | .handoverComplete => true
  | .slewEnd => true
  | .holdoverLongSet => true
  | .dieTempRead _ => true
  | .learningHalfEnd => true
  | .learningWindowClose => true
  | .learnedTableSummary => true
  | .crystalHandover => true
  | .crystalStartFail => true
  | .crystalRestart => true
  | .sourceFall => true
  | .demotionDecide tick _ => decide (tick < 513)
  | .sourceQualify src tick _ _ => decide (src ≠ .vbk) && decide (tick < 513)
  | .vbkPor => true
  | .fieldColdStart => true
  | .calRestoreDone _ _ => true
  | .journalMount _ _ _ => true
  | .vbatMeasure mv => decide (mv < 4096)
  | .batplanDue => true
  | .pwrqSend => true
  | .vhostFall => true
  | .evEdge _ _ tick ps _ _ => decide (tick < 513) && decide (ps < 30517579)
  | .filterHoldComplete _ tick => decide (tick < 513)
  | .eventQueue _ tick _ => decide (tick < 513)
  | .stagingRoomReturn => true
  | .conversionStart => true
  | .continuityCheck _ _ => true
  | .conversionLatchBusy _ => true
  | .conversionEnd _ _ _ => true
  | .conversionCompletion _ => true
  | .flushRequest => true
  | .flushPriorityRaise => true
  | .flushSlice _ => true
  | .scrubSlice _ _ _ => true
  | .wrapErase => true
  | .journalServiceSlice reads => reads.all fun r => decide (r.pos < 8)
  | .calItemDue _ _ => true
  | .calSlice m => decide (m.vals.length ≤ 32)
  | .adcCalFrame a b c d => [a, b, c, d].all fun r => decide (r.ratio.length = 4)
  | .adcCalCompute => true
  | .calStoreDue => true
  | .calStoreSlice _ => true
  | .overlayRewrite _ => true
  | .testSlice _ _ _ _ _ => true
  | .telemetrySlice => true
  | .tickReceive _ _ _ => true
  | .linkLoss => true
  | .fieldUnlink => true
  | .echoReceive _ _ _ _ => true
  | .idleReceive _ => true
  | .statReceive _ _ => true
  | .evtReceive _ _ _ _ => true
  | .sampReceive _ _ _ _ _ => true
  | .jdatReceive _ _ _ data => decide (8 ≤ data.length) && decide (data.length ≤ 64) && decide (data.length % 8 = 0)
  | .rspxReceive _ _ data => decide (data.length ≤ 64)
  | .pwraReceive _ _ => true
  | .wakeReceive _ _ => true
  | .regdatReceive _ _ => true
  | .ackReceive _ _ _ => true
  | .nakReceive _ _ _ _ => true
  | .loopReceive _ _ _ _ => true
  | .markReceive _ _ _ _ _ _ => true
  | .regrdReceive _ _ _ _ => true
  | .regwrReceive _ _ _ _ _ => true
  | .cmdxReceive _ _ c => c.wellFormed
  | .jreqReceive _ _ _ => true
  | .pwrqReceive _ _ => true
  | .messageCrcFail _ => true
  | .reservedTypeReceive lane code _ => match lane with | .fh => decide (0xD ≤ code.toNat) | .hf => decide (0xB ≤ code.toNat)
  | .transactionWordLate _ _ _ => true
  | .answerTimeout _ => true
  | .holdWaitTimeout _ => true
  | .fieldStreamResend => true
  | .rspxTimeout => true
  | .hostStart _ => true
  | .nrstLow _ => true
  | .banner => true
  | .uartByteReceive _ _ => true
  | .lineReceive t _ => decide (t = 0x0D#8) || decide (t = 0x0A#8)
  | .hostFrameBoundary _ => true
  | .uartBreak => true
  | .lineStuck => true
  | .receiverReenable => true
  | .uartIdleOff => true
  | .baudSwitch => true
  | .baudRevert => true
  | .overlayMerge _ _ => true
  | .ponPolarityRead => true
  | .ppsEdge offset _ => decide (offset < 2 ^ 27)
  | .rfTransitionDone _ => true
  | .rfSfdDetect offset => decide (offset < 2 ^ 27)
  | .rfPacketEnd p => decide (p.psdu.length ≤ 2047) && decide (-120 ≤ p.rssi) && decide (p.rssi ≤ -10)
  | .rfServiceSlice _ vpa => decide (vpa < 4096)
  | .cxGrantSample _ _ vpa => decide (vpa < 4096)
  | .cxGrantRise _ vpa => decide (vpa < 4096)
  | .cxGrantFall => true
  | .cxTimeout => true
  | .rfTxEnd offset _ => decide (offset < 2 ^ 27)
  | .synthUnlock _ => true
  | .rfCalSlice item _ _ => decide (item = .iq) || decide (item = .pa)
  | .stagedWrite _ _ => true
  | .tsetGo => true
  | .alApply _ => true
  | .perbApply => true
  | .prbApply _ => true
  | .rfchApply => true
  | .rfphyApply => true
  | .rfpaApply => true
  | .keepByteWrite _ _ => true
  | .registerWrite _ _ => true
  | .registerRead _ _ => true
  | .idQuery => true
  | .mode _ => true
  | .modeQuery => true
  | .uartBaud _ => true
  | .uartBaudQuery => true
  | .resetHost => true
  | .stQuery => true
  | .stClr _ => true
  | .jobQuery _ => true
  | .jobPartQuery _ _ _ => true
  | .jobCancel _ => true
  | .test => true
  | .testForce => true
  | .testQuery => true
  | .telQuery _ => true
  | .telClr _ => true
  | .timeQuery => true
  | .time y mo d h mi s => decide (y < 10000) && [mo, d, h, mi, s].all fun v => decide (v < 100)
  | .stampQuery => true
  | .localOfs _ => true
  | .localQuery => true
  | .tmark a => match a with | .pps _ => true | .rf _ _ nano => decide (nano < 1000000000)
  | .pps _ => true
  | .ppsQuery => true
  | .refQuery => true
  | .refSet _ _ => true
  | .refSetQuery _ => true
  | .rateQuery => true
  | .trim _ _ => true
  | .trimQuery => true
  | .rateEn _ _ => true
  | .rateEnQuery => true
  | .al a => a.wellFormed
  | .alQuery _ => true
  | .perEvt _ _ => true
  | .ticker _ => true
  | .pon _ _ _ _ => true
  | .ponRel _ => true
  | .ponQuery => true
  | .perCfg _ _ => true
  | .perTh _ _ _ => true
  | .perQuery _ _ => true
  | .tripOpen _ => true
  | .tripClose => true
  | .keep _ bs => decide (bs ≠ [])
  | .keepQuery _ _ => true
  | .keepSave => true
  | .keepLoad => true
  | .evCfg _ _ _ _ => true
  | .evCfgQuery _ => true
  | .evOff _ => true
  | .evQuery _ => true
  | .tCfg _ _ _ => true
  | .tPlan _ _ => true
  | .tOfs _ _ => true
  | .tLead _ _ => true
  | .tQuery _ => true
  | .tSnap => true
  | .jQuery => true
  | .jPolicy _ => true
  | .note t => plainText t
  | .jExport _ => true
  | .jVerify _ => true
  | .jErase => true
  | .sealKey _ t => plainText t
  | .sealQuery => true
  | .calRun _ _ => true
  | .calQuery => true
  | .calSaveQuery => true
  | .calLoad _ bs => decide (bs.length = 16)
  | .calLoadGo => true
  | .calCommit => true
  | .supQuery => true
  | .supVsw _ => true
  | .supBatlow _ => true
  | .batPlan _ => true
  | .rfQuery => true
  | .rfState _ => true
  | .rfCh _ => true
  | .rfMode _ _ _ _ _ => true
  | .rfFrame _ _ _ => true
  | .rfPwr _ _ => true
  | .rfCx _ _ _ _ => true
  | .rfTx bs => decide (bs ≠ [])
  | .rftxQuery _ => true
  | .rfBuf _ bs => decide (bs ≠ [])
  | .rfTxj _ => true
  | .rfqQuery => true
  | .rfqPop _ => true
  | .descQuery _ _ => true
  | .descListQuery _ => true
  | .descDump => true
  | .standbySourceFall src => decide (src ≠ .vbk)
  | .vhostRise => true
  | .hostPowerOff => true
  | .fieldCommandSlice => true
  | .hostJobSlice => true
  | .eraseJobSlice => true
  | .keepSaveSlice => true
  | .breakEnd => true
  | .responseSent => true

end Sys2Proof
end

