-- ==== Sys2Proof/Safety.lean ====
section
/-! DEFINITION. Sys2Proof/Safety.lean: what counts as a safe run of the part, and the situations and comparisons of states
that the statements name. -/

namespace Sys2Proof

open Sys2Proof.Machine

/-- A step goes on: it neither faults nor refuses. -/
def Safe (s : State) : Prop := ∃ t, step s = .next t

/-- Every command that waits is well formed. -/
def QueueWf (s : State) : Prop := ∀ c ∈ s.pending, c.wellFormed = true

/-! ### Limits -/

/-- What the spec lets the host side hold at most: 8 lines that wait (R553), 32 tags (R547), 240 characters of a line (R534), 4
PPS stamps (R593), 8 packets of together 4096 octets in the RX queue (R668), 16 transmit results (R662), and the octets of the
transmit buffer in their canonical form, below 2047 (R608). -/
def Bounded (h : HostSide) : Prop :=
  h.line.lines.length ≤ 8 ∧ h.line.cache.length ≤ 32 ∧ h.uart.buf.length ≤ 240 ∧ h.pps.stamps.length ≤ 4 ∧
    h.radio.rxq.length ≤ 8 ∧ h.radio.octets ≤ 4096 ∧ h.radio.results.length ≤ 16 ∧ bufWf h.radio.buf = true

/-- The invariant of the part: the host side holds what it may hold, and no news of the field side's work is left untold. -/
def Inv (s : State) : Prop := Bounded s.h ∧ s.f.jobEv = []

/-! ### The sides that a row acts on -/

/-- The rows in which the host side acts alone: its supply, its UART, its radio, and the text commands that need no field side. -/
def hostRow : Instr → Bool
  | .pwrqSend | .vhostFall | .vhostRise | .hostPowerOff | .hostStart _ | .nrstLow _ | .banner | .uartByteReceive _ _
  | .lineReceive _ _ | .uartBreak | .breakEnd | .lineStuck | .receiverReenable | .uartIdleOff | .baudSwitch
  | .baudRevert | .responseSent | .ponPolarityRead | .ppsEdge _ _ | .rfTransitionDone _
  | .rfSfdDetect _ | .rfPacketEnd _ | .rfServiceSlice _ _ | .cxGrantSample _ _ _ | .cxGrantRise _ _ | .cxGrantFall
  | .cxTimeout | .rfTxEnd _ _ | .synthUnlock _ | .rfCalSlice _ _ _ | .rfchApply | .rfphyApply | .rfpaApply | .idQuery
  | .mode _ | .modeQuery | .uartBaud _ | .uartBaudQuery | .resetHost | .stQuery | .jobQuery _ | .jobPartQuery _ _ _
  | .tmark _ | .pps _ | .ppsQuery | .rfQuery | .rfState _ | .rfCh _ | .rfMode _ _ _ _ _ | .rfFrame _ _ _ | .rfPwr _ _
  | .rfCx _ _ _ _ | .rfTx _ | .rftxQuery _ | .rfBuf _ _ | .rfTxj _ | .rfqQuery | .rfqPop _ | .descQuery _ _
  | .descListQuery _ | .descDump => true
  | _ => false

/-- The rows in which the host side starts or stops. -/
def hostStops : Instr → Bool
  | .hostStart _ | .nrstLow _ | .hostPowerOff => true
  | _ => false

/-- The rows in which the field side acts alone. -/
def fieldRow : Instr → Bool
  | .frameBoundary | .tickerFire | .ponPulseEnd _ | .alarmActionSlice | .watchdogRestart | .fieldWriteCommit
  | .markEvaluate | .markMiss _ | .referenceIdle _ | .handoverComplete | .slewEnd | .holdoverLongSet | .dieTempRead _
  | .learningHalfEnd | .learningWindowClose | .learnedTableSummary | .crystalHandover | .crystalStartFail
  | .crystalRestart | .sourceFall | .demotionDecide _ _ | .sourceQualify _ _ _ _ | .vbkPor | .fieldColdStart
  | .calRestoreDone _ _ | .journalMount _ _ _ | .vbatMeasure _ | .batplanDue | .standbySourceFall _
  | .evEdge _ _ _ _ _ _ | .filterHoldComplete _ _ | .eventQueue _ _ _ | .stagingRoomReturn | .conversionStart
  | .continuityCheck _ _ | .conversionLatchBusy _ | .conversionEnd _ _ _ | .conversionCompletion _ | .flushRequest
  | .flushPriorityRaise | .flushSlice _ | .scrubSlice _ _ _ | .wrapErase | .eraseJobSlice | .journalServiceSlice _
  | .calItemDue _ _ | .calSlice _ | .adcCalFrame _ _ _ _ | .adcCalCompute | .calStoreDue | .calStoreSlice _
  | .overlayRewrite _ | .telemetrySlice | .fieldUnlink | .fieldStreamResend | .tsetGo | .alApply _ | .perbApply
  | .prbApply _ | .keepByteWrite _ _ | .fieldCommandSlice | .keepSaveSlice => true
  | _ => false

/-! ### Situations -/

/-- The host side runs, and a line that arrives now executes at once: none executes or waits (R52, R53). -/
abbrev HostIdle (s : State) : Prop :=
  s.h.run = true ∧ s.h.line.cur = none ∧ s.h.line.lines = [] ∧ s.h.line.resetReq = false

/-- The host side is idle, `LINK` is set, the field side runs, and nothing stands on the lanes or waits for them: an access of a line is
answered within the step (notes/assumptions/34.md). -/
abbrev Linked (s : State) : Prop := HostIdle s ∧ s.h.bar.link = true ∧ s.f.runs = true ∧ s.quiet = true

/-- The field side runs, and has nothing to tell the job slots. -/
abbrev FieldUp (s : State) : Prop := s.f.runs = true ∧ s.f.jobEv = []

/-- No job slot is QUEUED or RUNNING (Table 17-4). -/
def NoJobs (s : State) : Prop := ∀ i, (s.h.jobOf i).live = false

/-! ### Comparisons -/

/-- `t` has the host side `h` and the field side `f` but for the `SEQ` bookkeeping of the host stream's transactions (R112 to
R115) and the host domains of their messages (R91), and the queue of `s`. -/
def Exchanged (s t : State) (h : HostSide) (f : Field) : Prop :=
  t.h = { h with bar := { h.bar with nextSeq := t.h.bar.nextSeq }, domNow := t.h.domNow } ∧
    (t.h.domNow = h.domNow ∨ t.h.domNow = h.msgDomains.domNow) ∧
    t.f = { f with bar := { f.bar with lastSeq := t.f.bar.lastSeq, lastAns := t.f.bar.lastAns } } ∧ t.pending = s.pending

/-- `t` differs from `s` on the field side alone, which is `f`. -/
def OnlyField (s t : State) (f : Field) : Prop := t.f = f ∧ t.h = s.h ∧ t.pending = s.pending

/-- `t` differs from `s` on the host side alone, which is `h`. -/
def OnlyHost (s t : State) (h : HostSide) : Prop := t.h = h ∧ t.f = s.f ∧ t.pending = s.pending

/-- A line without a tag has executed in this host frame (R92), and its response lines `ls` are handed to TXD. -/
def sent (h : HostSide) (ls : List Text) : HostSide := h.ran.respond none false ls TxAfter.none

/-- The lines of a value and of a block (R558). -/
def valueLines (t : Text) : List Text := ['=' :: t]
def blockLines (ls : List Text) : List Text := ls ++ [txt "OK"]
def okLines : List Text := [txt "OK"]

end Sys2Proof
end

