-- ==== Sys2Proof/Certificates/Slice0/Obligations.lean ====
section
/-! DEFINITION. Sys2Proof/Certificates/Slice0/Obligations.lean: the statements for the provers, and the tables of what the
spec says each group of commands answers or leaves. -/

namespace Sys2Proof.Machine

/-! ### Text commands: queries -/

/-- The record of the line of one command while it executes. -/
def oneLine : Cur := ⟨none, [], 1, 1, [], [], false, false, none, [], none, [], TxAfter.none, 0, [], 0, none, none⟩

/-- The host side while a line of one command executes. -/
def HostSide.inLine (h : HostSide) : HostSide := { h.ran with line := { h.line with cur := some oneLine } }

/-- The host registers whose value is open at each read (R670). -/
def openReg (a : Nat) : Bool := a = 0x0400 || a = 0x0418

/-- How many of the first `n` registers from `a` have an open value. -/
def openReads (a n : Nat) : Nat := ((List.range n).filter fun i => openReg (a + 4 * i)).length

/-- What `n` registers from `a` show, register by register; none where one of them is not mapped. -/
def regTexts (val : Nat → Option Word) (a n : Nat) : Option (List Text) :=
  if (List.range n).all fun i => (val i).isSome then
    some ((List.range n).map fun i => commas ['+' :: hexText 4 (a + 4 * i), hexText 8 ((val i).getD 0#32).toNat])
  else none

/-- The answer of `R` (R611): one register as a value, several as a block. -/
def readAnswer (val : Nat → Option Word) (a n : Nat) : Option (List Text) :=
  if n < 1 || 16 < n then none
  else if n = 1 then (val 0).map fun w => valueLines (hexText 8 w.toNat)
  else (regTexts val a n).map blockLines

/-- What the queries that the host side answers by itself show (Tables 16-1 to 16-13). -/
def hostAnswer (s : State) : Instr → Option (List Text)
  | .idQuery => some (valueLines (commas [txt "VT-7120", txt "A1", hexText 16 s.f.fuse.serial.toNat, txt "01"]))
  | .modeQuery => some (valueLines (match s.h.uart.mode with | .human => txt "H" | .machine => txt "M" | .machineChk => txt "M,C"))
  | .uartBaudQuery => some (valueLines (decText s.h.uart.baud))
  | .stQuery => some (valueLines (hexText 8 s.h.status.toNat))
  | .jobQuery none => some (blockLines ((List.range 4).map fun i => '+' :: (s.h.jobOf i).text i))
  | .jobQuery (some n) => if n ≤ 3 then some (valueLines ((s.h.jobOf n).text n)) else none
  | .jobPartQuery n o c =>
    if n ≤ 3 ∧ 1 ≤ c ∧ c ≤ 64 ∧ (s.h.jobOf n).st ≠ 0 ∧ o ≤ (s.h.jobOf n).lines.length then
      some (blockLines (((s.h.jobOf n).lines.drop o).take c))
    else none
  | .testQuery => if s.h.bar.link then none else some (blockLines [txt "+F,-", testText "+H" s.h.rot 13])
  | .telQuery (some g) => if telBad g || telField g then none else some (blockLines (s.telLines g))
  | .ppsQuery => some (blockLines s.h.pps.lines)
  | .rfQuery => some (valueLines s.h.radio.text)
  | .rftxQuery n => (s.h.radio.results.find? fun e => e.1.toNat = n).map fun e =>
      valueLines (commas ['T' :: decText e.1.toNat, e.2.1.name, match e.2.2 with | some x => natStamp x.stamp | none => txt "-"])
  | .rfqQuery => some (blockLines ((s.h.radio.rxq.head?.map RxPkt.lines).getD []))
  | .descQuery o len =>
    if 1 ≤ len ∧ len ≤ 1024 ∧ s.h.table.served = true ∧ o + len ≤ s.h.table.len then
      some (blockLines (s.h.table.lines s.f.fuse 32 o len))
    else none
  | .descListQuery (some n) =>
    if 1 ≤ n ∧ n ≤ 12 ∧ s.h.table.served = true then
      some (blockLines (s.h.table.headLine s.f.fuse.serial :: s.h.table.typeLines s.f.fuse n))
    else none
  | .descListQuery none =>
    if s.h.table.served then
      some (blockLines (s.h.table.headLine s.f.fuse.serial ::
        ((List.range 12).map fun n => s.h.table.typeLines s.f.fuse (n + 1)).flatten))
    else none
  | _ => none

/-- What the queries of the field side show while it is linked (Tables 16-2 to 16-11). -/
def fieldAnswer (s : State) : Instr → Option (List Text)
  | .testQuery => some (blockLines [testText "+F" s.f.tst.rot 30, testText "+H" s.h.rot 13])
  | .telQuery (some g) => if telField g && !telBad g then some (blockLines (s.telLines g)) else none
  | .timeQuery => some (valueLines s.f.clk.timeText)
  | .stampQuery => some (valueLines s.f.clk.stampText)
  | .localQuery => some (valueLines (intText s.f.per.localOfs.toInt))
  | .refQuery => some (valueLines s.f.refText)
  | .refSetQuery (some k) => some (valueLines (s.f.refKeyText k))
  | .rateQuery => some (valueLines s.f.rateText)
  | .trimQuery => some (valueLines (commas [intText (sField s.f.rate.cfg 0 9), decText (fieldOf s.f.rate.cfg 9 4)]))
  | .rateEnQuery => some (valueLines (commas [bitText (bitOf s.f.rate.cfg 13), bitText (bitOf s.f.rate.cfg 14)]))
  | .alQuery n => if n < 1 then none else (s.f.al[n - 1]?).map fun a => valueLines (a.text n)
  | .ponQuery => some (valueLines s.f.wake.ponText)
  | .perQuery set a =>
    if (match a with | .chan n => decide (3 < n) | .ev => false) then none
    else match s.f.perText set a with
      | .val t => some (valueLines t)
      | _ => none
  | .evCfgQuery i => if i ≤ 7 then some (valueLines (evCfgText (s.f.evCfg i))) else none
  | .jQuery => some (valueLines s.f.jText)
  | .sealQuery => some (valueLines s.f.sealText)
  | .calQuery => some (valueLines s.f.calText)
  | .calSaveQuery => some (blockLines (imageLines (calImage s.f.cal.ws s.f.uid s.f.cal.csn (stampSec s.f.clk.stamp))))
  | .supQuery => some (valueLines s.f.supText)
  | _ => none

/-! ### Text commands: settings of the field side -/

/-- The word that an RW register will have once what waits has committed. -/
def nowAt (s : State) (a : Nat) : Word := s.f.pendValue a

/-- The register writes of a setting (16_commands.md Tables 16-5 to 16-11), its arguments being in range. -/
def settingWrites (s : State) : Instr → Option (List (Nat × Word))
  | .refSet (some .ppsen) v => if v ≤ 1 then some [(0x10C0, withBit (nowAt s 0x10C0) 0 (decide (v = 1)))] else none
  | .refSet (some .rfen) v => if v ≤ 1 then some [(0x10C0, withBit (nowAt s 0x10C0) 1 (decide (v = 1)))] else none
  | .refSet (some .rank) v => if v ≤ 1 then some [(0x10C0, withBit (nowAt s 0x10C0) 2 (decide (v = 1)))] else none
  | .refSet (some .leap) v => if v ≤ 1 then some [(0x10C0, withBit (nowAt s 0x10C0) 3 (decide (v = 1)))] else none
  | .refSet (some .bw) v => if v ≤ 15 then some [(0x10C0, withField (nowAt s 0x10C0) 4 4 v)] else none
  | .refSet (some .rfint) v => if v ≤ 255 then some [(0x10C0, withField (nowAt s 0x10C0) 8 8 v)] else none
  | .refSet (some .step) v => if v ≤ 10000 then some [(0x10C4, BitVec.ofNat 32 v)] else none
  | .trim n w =>
    if -255 ≤ n ∧ n ≤ 255 ∧ 5 ≤ w ∧ w ≤ 10 then
      some [(0x1100, withField (withField (nowAt s 0x1100) 0 9 (n % 512).toNat) 9 4 w)]
    else none
  | .rateEn c e => if c ≤ 1 ∧ e ≤ 1 then some [(0x1100, withField (withField (nowAt s 0x1100) 13 1 c) 14 1 e)] else none
  | .perEvt ev acts => if acts.getLsbD 0 then none else some [(0x1220, BitVec.ofNat 32 (ev.toNat + acts.toNat * 2 ^ 8))]
  | .ticker .off => some [(0x1224, withBit (nowAt s 0x1224) 24 false)]
  | .ticker (.run n acts) =>
    if 1 ≤ n ∧ n ≤ 2 ^ 24 ∧ acts.getLsbD 0 = false then some [(0x1224, BitVec.ofNat 32 (n - 1 + 2 ^ 24 + acts.toNat * 2 ^ 25))]
    else none
  | .ponRel .ponH => some [(0x1230, 1#32)]
  | .ponRel .ponF => some [(0x1230, 2#32)]
  | .perTh n hi lo =>
    if n ≤ 3 ∧ -8192000 ≤ lo ∧ lo ≤ hi ∧ hi ≤ 8191999 then
      some [(0x1250 + 4 * n, BitVec.ofInt 32 (roundDiv (hi * 1024) 1000)), (0x1260 + 4 * n, BitVec.ofInt 32 (roundDiv (lo * 1024) 1000))]
    else none
  | .keep n bs =>
    if bs ≠ [] ∧ bs.length ≤ 16 ∧ n + bs.length ≤ 64 then
      some (bs.zipIdx.map fun e => (0x1300 + 4 * (n + e.2), e.1.setWidth 32))
    else none
  | .evCfg i edge filt jrn =>
    if i ≤ 7 ∧ edge ≤ 2 ∧ filt ≤ 4 ∧ jrn ≤ 1 then some [(0x1400 + 4 * i, BitVec.ofNat 32 (1 + 2 * edge + 8 * filt + 64 * jrn))]
    else none
  | .evOff i => if i ≤ 7 then some [(0x1400 + 4 * i, withBit (nowAt s (0x1400 + 4 * i)) 0 false)] else none
  | .tPlan n (some k) =>
    if n ≤ 3 ∧ k ≤ 18 then some [(0x1500, withBit (withField (nowAt s 0x1500) (8 * n) 5 k) (8 * n + 7) true)] else none
  | .tPlan n none => if n ≤ 3 then some [(0x1500, withBit (nowAt s 0x1500) (8 * n + 7) false)] else none
  | .tOfs n v =>
    if n ≤ 3 ∧ -32000 ≤ v ∧ v ≤ 31999 then
      some [(0x1520 + 4 * n, (BitVec.ofInt 16 (roundDiv (v * 1024) 1000)).setWidth 32)]
    else none
  | .tLead n m => if n ≤ 3 ∧ m ≤ 65535 then some [(0x1530 + 4 * n, BitVec.ofNat 32 m)] else none
  | .jPolicy wrap => some [(0x1600, BitVec.ofNat 32 wrap.toNat)]
  | .supVsw v => if 24 ≤ v ∧ v ≤ 30 then some [(0x1680, withField (nowAt s 0x1680) 0 4 (v - 24))] else none
  | .supBatlow v => if 22 ≤ v ∧ v ≤ 28 then some [(0x1680, withField (nowAt s 0x1680) 4 4 (v - 22))] else none
  | .batPlan .on => some [(0x1680, withBit (nowAt s 0x1680) 12 true)]
  | .batPlan .off => some [(0x1680, withBit (nowAt s 0x1680) 12 false)]
  | .batPlan (.plan m p) =>
    if 1 ≤ m ∧ m ≤ 15 ∧ 10 ≤ p ∧ p ≤ 65535 then
      some [(0x1680, withBit (withField (withField (nowAt s 0x1680) 8 4 m) 16 16 p) 12 true)]
    else none
  | _ => none

/-- The word of `PON` (R329, R330). -/
def ponWord (s : State) : WakeOut → Bool → Option Nat → Option Bool → Option Word
  | .ponH, pulse, len, high =>
    let w := withBit (nowAt s 0x122C) 0 pulse
    let w := match len with | some n => withField w 8 8 n | none => w
    if (match len with | some n => decide (1 ≤ n ∧ n ≤ 255) | none => true) then
      some (match high with | some b => withBit w 1 b | none => w)
    else none
  | .ponF, pulse, len, none =>
    let w := withBit (nowAt s 0x122C) 16 pulse
    match len with
    | some n => if 1 ≤ n ∧ n ≤ 255 then some (withField w 24 8 n) else none
    | none => some w
  | .ponF, _, _, some _ => none

/-- The bits of an RW register that a write reaches, where its value is within the register's ranges (R10, Table 0-3). -/
def accepted (a : Nat) (w : Word) : Option Word :=
  (rwRule a).bind fun r => if r.bad (w &&& r.mask) then none else some (w &&& r.mask)

/-- The writes that wait for the commit after a setting, where every register accepts its value (R55). -/
def pendAll : List (Nat × Word) → Option (List PendW)
  | [] => some []
  | (a, w) :: rest => (accepted a w).bind fun v => (pendAll rest).map fun ps => .reg a v :: ps

/-- A read of a field register checks the parity of a KEEP byte (R335): the field side after the first `n` reads from `a`. -/
def checked (f : Field) (a n : Nat) : Field := (List.range n).foldl (fun f i => f.readChecks (a + 4 * i)) f

/-! ### Text commands: field commands and lines that wait -/

/-- The field command that a text command sends (Table 4-6), its arguments being in range and a job slot free where it starts
a job (R585). -/
def fieldCmdOf (s : State) : Instr → Option FieldCmd
  | .evQuery n => if 1 ≤ n ∧ n ≤ 32 then some (.evq n) else none
  | .tQuery n => if n ≤ 3 then some (.tq n) else none
  | .tSnap => some .snap
  | .tripOpen i => some (.tripOpen i)
  | .tripClose => some .tripClose
  | .keepSave => some .keepSave
  | .keepLoad => some .keepLoad
  | .note t => if t ≠ [] ∧ t.length ≤ 20 then some (.note t) else none
  | .sealKey p t => if p ≤ 3 then some (.sealKey p t) else none
  | .calLoad n bs => some (.calLoad n bs)
  | .calLoadGo => some .calLoadGo
  | .calCommit => some .calCommit
  | .jExport r => if s.h.freeSlot.isSome then some (.jExport r) else none
  | .jVerify r => if s.h.freeSlot.isSome then some (.jVerify r) else none
  | .jErase => if s.h.freeSlot.isSome then some .jErase else none
  | .calRun (some .tdc) k => if s.h.freeSlot.isSome then some (.calRun .tdc k) else none
  | .calRun (some .adc) k => if s.h.freeSlot.isSome then some (.calRun .adc k) else none
  | .calRun (some .xl) k => if s.h.freeSlot.isSome then some (.calRun .xl k) else none
  | .calRun (some .bar) k => if s.h.freeSlot.isSome then some (.calRun .bar k) else none
  | .test => if s.h.freeSlot.isSome ∧ s.h.testJobs = [] then some (.test false) else none
  | .testForce => if s.h.freeSlot.isSome ∧ s.h.testJobs = [] then some (.test true) else none
  | _ => none

/-- The host side with a line of one command that waits. -/
def HostSide.lineWaits (h : HostSide) (w : Wait') : HostSide :=
  { h with line := { h.line with cur := some { oneLine with wait := some w } } }

/-- The host side with a line of the one command `i`, which waits for the answer of the access `x`. -/
def HostSide.lineAsks (h : HostSide) (i : Instr) (x : Acc) : HostSide :=
  { h with line := { h.line with cur := some { oneLine with k := 0, rest := [.cmd i], wait := some (.access x) } } }

/-! ### Pair groups (Table 20-7) -/

/-- The field side with nothing staged in a group, and its set waiting for the commit in place of an earlier one (R564). -/
def perbTaken (f : Field) (ofs : Byte) (cfg : Word) : Field :=
  { f with
    per := { f.per with stg := none },
    pendW := (f.pendW.filter fun p => match p with | .perb _ _ => false | _ => true) ++ [.perb ofs cfg] }
def prbTaken (f : Field) (n : Nat) (w : Word) : Field :=
  { f with
    temp := { f.temp with stg := f.temp.stg.setIfInBounds n none },
    pendW := (f.pendW.filter fun p => match p with | .prb k _ => decide (k ≠ n) | _ => true) ++ [.prb n w] }
def alarmTaken (f : Field) (k : Nat) (a : Alarm) (t d c : Word) : Field :=
  { f with
    al := f.al.setIfInBounds k { a with stg := none },
    pendW := (f.pendW.filter fun p => match p with | .alarm j _ _ _ => decide (j ≠ k) | _ => true) ++ [.alarm k t d c] }
def tsetTaken (f : Field) (b : Vector Byte 8) : Field :=
  { f with
    tset := ⟨Vector.replicate 8 0#8, false, 0#8, false⟩,
    pendW := (f.pendW.filter fun p => match p with | .tset _ => false | _ => true) ++ [.tset b] }

/-- The words that `AL` stages over the words `x` (R596): time, date, control. -/
def alWords (x : Word × Word × Word) : AlArg → Word × Word × Word
  | .off _ => (x.1, x.2.1, withBit x.2.2 15 false)
  | .set _ h m s d y mo da acts =>
    let t := alItem 3 3 d (alItem 2 2 h (alItem 1 1 m (alItem 0 0 s (x.2.2, x.1))))
    let u := alItem 6 2 y (alItem 5 1 mo (alItem 4 0 da (t.1, x.2.1)))
    (t.2, u.2, withBit (withField u.1 8 5 acts.toNat) 15 true)

/-- The alarm that `AL` names. -/
def alNumber : AlArg → Nat
  | .off n => n
  | .set n _ _ _ _ _ _ _ _ => n

/-- The staged bytes after `TIME` (R218, R227): the seven fields it gives, the day of week as it was staged or shown. -/
def timeBytes (f : Field) (y mo d h mi s : Nat) : Vector Byte 8 :=
  let b := if f.tset.filled then f.tset.fields else tsetFill f.clk
  ((((((b.setIfInBounds 0 (toBcd s)).setIfInBounds 1 (toBcd mi)).setIfInBounds 2 (toBcd h)).setIfInBounds 4 (toBcd d)).setIfInBounds
    5 (toBcd mo)).setIfInBounds 6 (toBcd (y % 100))).setIfInBounds 7 (toBcd (y / 100))

/-- A day of week was staged before. -/
def dowStaged (f : Field) : Bool := f.tset.filled && f.tset.wmask.getLsbD 3

/-- The evaluated form of a mark (R240, R245). -/
def evaluated (f : Field) (m : Mark) : OMark :=
  ⟨m.stamp.toNat, markOffset f.clk m, f.refs.corrAt m.stamp.toNat, (f.refs.movedAt m.stamp.toNat).set, m.label⟩

/-- Nothing of a closed period waits first in a plan: a slice that leaves `rest` is the whole step (R344). -/
def noPeriod (rest : List Req) : Prop := ∀ r, rest.head? = some r → r.kind.isPeriod = false

/-- The kinds of slice that a plan still holds are no ticker's. -/
def noTicker (rs : List Req) : Prop := ∀ r ∈ rs, r.kind.isTicker = false

/-- The channels of the coin-cell plan that are requested now (R83, R382). -/
def batChans (f : Field) : List Nat :=
  (List.range 4).filter fun n =>
    bitOf f.sup.cfg (8 + n) && f.probeType n != 0

/-- What a field command that is taken leaves on the field side, and its result words (16_commands.md Tables 16-3 to 16-10). -/
def commandTaken (f : Field) : FieldCmd → Option (Field × List Word)
  | .snap => if (List.range 4).all fun n => f.probeType n = 0 then none else some (f.snap, [])
  | .tripOpen id => if f.per.trip.isSome then none else some (f.tripOpen id, [])
  | .tripClose => f.per.trip.map fun i => (f.tripClose i, [])
  | .keepSave =>
    if f.sup.sel = .vfld ∨ f.sup.sel = .iso then
      if f.jrn.mirrorSave.isSome then none
      else some ({ f with jrn := { f.jrn with mirrorSave := some (f.keep.bytes.toList, 0) } }, [])
    else none
  | .note t =>
    if 1 ≤ t.length ∧ t.length ≤ 20 ∧ t.all (fun c => decide (0x20 ≤ c.toNat ∧ c.toNat ≤ 0x7E)) then
      some (f.stage (recNote t f.clk.stamp), [])
    else none
  | .jErase =>
    if f.jrn.roWorn || f.jrn.job.isSome || f.jrn.eraseJob || f.erasable.isNone then none
    else some ({ f with jrn := { f.jrn with eraseJob := true } }, [BitVec.ofNat 32 f.jrn.exported])
  | .calCommit => some ({ f with cal := { f.cal with storeReq := f.cal.storeReq || f.cal.dirty } }, [])
  | .calLoad n bs =>
    if bs.length = 16 ∧ n ≤ 33 then
      some ({ f with cal := { f.cal with load := f.cal.load.filter (fun e => e.1 ≠ n) ++ [(n, bs)] } }, [])
    else none
  | .testFail c i m l => some ((f.setBit sbTestFail).stage (recTest 1 c i f.clk.stamp m l), [])
  | _ => none

/-- The field end answers the host stream: the field side runs, its calibration is restored, and it sends `TICK`. -/
abbrev FieldReady (s : State) : Prop :=
  FieldUp s ∧ s.f.start.restored = true ∧ 2 ≤ s.f.start.frames ∧ s.f.bar.sendTick = true

/-- The host side after a message of its lane has arrived: the message has left the lane, its domains are on (R91). -/
def HostSide.gone (h : HostSide) (ty : MsgType) (seq : BitVec 4) : HostSide := (h.took ty seq).msgDomains

/-- A transaction is answered on the field side with `a`, which is kept for a repetition (R113 to R115). -/
def Field.answers (g : Field) (seq : BitVec 4) (a : Txn) : Field :=
  { g with bar := { g.bar with lastSeq := some seq, lastAns := some a, lane := g.bar.lane ++ [a] } }

/-- A transaction is answered `ACK` on the host side. -/
def HostSide.acks (h : HostSide) (ty : MsgType) (seq : BitVec 4) : HostSide :=
  HostSide.launch { h with bar := { h.bar with lastSeq := some seq, lastAns := some (ackOf ty seq) } } (ackOf ty seq)

/-- The state after a transaction of the host stream: the host side has sent it, the field side has taken it as `g` and answers
`a`. -/
def HostTxn (s t : State) (ty : MsgType) (seq : BitVec 4) (g : Field) (a : Txn) : Prop :=
  t.h = s.h.gone ty seq ∧ t.f = g.answers seq a ∧ t.pending = s.pending

/-- The state after a transaction of the field stream: the host side has taken it as `h` and answers `ACK`. -/
def FieldTxn (s t : State) (ty : MsgType) (seq : BitVec 4) (h : HostSide) : Prop :=
  t.f = s.f.took ty seq ∧ t.h = h.acks ty seq ∧ t.pending = s.pending

/-- The host side hands an echo, a prompt or a notice to TXD. -/
def HostSide.adds (h : HostSide) (k : TxKind) (ls : List Text) : HostSide :=
  { h with line := { h.line with tx := h.line.tx ++ [⟨k, ls, TxAfter.none⟩] } }

/-- The receiver takes bytes of a line: it is enabled, the banner has been sent, no line is being discarded. -/
abbrev Receiving (s : State) : Prop :=
  s.h.run = true ∧ s.h.uart.rxEn = true ∧ s.h.uart.open' = true ∧ s.h.uart.skip = false

/-- The line of a single `ID?`. -/
def idLine (late : Bool) : HLine := ⟨none, [], [.cmd .idQuery], 1, none, false, late⟩

/-- No line waits for the radio. -/
abbrev NoRadioLine (s : State) : Prop := s.waiting ≠ some .radio

/-! ### The register map (20_register_map.md) -/

/-- The addresses of the mapped registers of A1, by first and last (Tables 20-2, 20-3, 20-4). -/
def mapRanges : List (Nat × Nat) :=
  [(0x0000, 0x0004), (0x0010, 0x0048), (0x0050, 0x0058), (0x0060, 0x0068), (0x0070, 0x0074), (0x0100, 0x010C),
    (0x0200, 0x02DC), (0x0400, 0x0428), (0x0440, 0x0454), (0x1000, 0x1028), (0x1040, 0x1064), (0x1080, 0x109C),
    (0x10C0, 0x10E0), (0x1100, 0x111C), (0x1140, 0x11C0), (0x1200, 0x1230), (0x1240, 0x1244), (0x1250, 0x126C),
    (0x1300, 0x13FC), (0x1400, 0x1428), (0x1430, 0x144C), (0x1500, 0x153C), (0x1540, 0x154C), (0x1560, 0x158C),
    (0x1600, 0x162C), (0x1680, 0x1688), (0x1690, 0x1694), (0x1700, 0x1730), (0x1740, 0x175C), (0x1780, 0x1790),
    (0x1800, 0x18FC), (0x1A00, 0x1B6C)]

/-- A register is mapped at an address. -/
def mappedAt (a : Nat) : Bool := a % 4 = 0 && mapRanges.any fun e => decide (e.1 ≤ a) && decide (a ≤ e.2)

/-- The values after a host start (Tables 20-2 and 20-3): first address, last address, value. `TBL_PTR` holds a length that the
spec does not give; `RF_ST` and `RSSI_NOW` show live conditions. -/
def hostStartTable : List (Nat × Nat × Word) :=
  [(0x0000, 0x0000, 0x56A17120#32), (0x0010, 0x0010, 0x80000000#32), (0x0014, 0x0014, 0x00000000#32),
    (0x0018, 0x0018, 0x00000000#32), (0x001C, 0x001C, 0x00000000#32), (0x0020, 0x002C, 0x00000000#32),
    (0x0030, 0x003C, 0x00000000#32), (0x0040, 0x0040, 0x0001C200#32), (0x0044, 0x0044, 0x00000000#32),
    (0x0048, 0x0048, 0x00000100#32), (0x0050, 0x0058, 0x00000000#32), (0x0060, 0x0068, 0x00000000#32),
    (0x0070, 0x0070, 0x00000000#32), (0x0074, 0x0074, 0x0000FF00#32), (0x0100, 0x0100, 0x08000001#32),
    (0x0104, 0x0104, 0x00000D00#32), (0x0108, 0x0108, 0x00000000#32), (0x010C, 0x010C, 0x00000000#32),
    (0x0200, 0x02DC, 0x00000000#32), (0x0404, 0x0404, 0x00000000#32), (0x0408, 0x0408, 0x00000008#32),
    (0x040C, 0x040C, 0x00000808#32), (0x0410, 0x0410, 0x00000200#32), (0x0414, 0x0414, 0x00640284#32),
    (0x041C, 0x041C, 0x00000000#32), (0x0420, 0x0420, 0x00000000#32), (0x0424, 0x0424, 0x00000000#32),
    (0x0428, 0x0428, 0x00000000#32), (0x0440, 0x0454, 0x00000000#32)]

/-- The cold-start values of the field window that are numbers (Tables 20-4 and 6-3), but for `SUP_STAT`, which shows the sources
as they are. -/
def coldStartTable : List (Nat × Nat × Word) :=
  [(0x1000, 0x1000, 0x00000000#32), (0x1004, 0x1004, 0x00000000#32), (0x1008, 0x1008, 0x00000000#32),
    (0x100C, 0x100C, 0x00000006#32), (0x1010, 0x1010, 0x00000001#32), (0x1014, 0x1014, 0x00000001#32),
    (0x1018, 0x1018, 0x00000000#32), (0x101C, 0x101C, 0x00000020#32), (0x1020, 0x1020, 0x00000000#32),
    (0x1024, 0x1024, 0x00000000#32), (0x1028, 0x1028, 0x00000000#32), (0x1040, 0x105C, 0x00000000#32),
    (0x1060, 0x1060, 0x00000000#32), (0x1064, 0x1064, 0x00000000#32), (0x1080, 0x1098, 0x00000000#32),
    (0x109C, 0x109C, 0x00000000#32), (0x10C0, 0x10C0, 0x0000106B#32), (0x10C4, 0x10C4, 0x000001F4#32),
    (0x10C8, 0x10C8, 0x00000000#32), (0x10CC, 0x10CC, 0x00000000#32), (0x10D0, 0x10D4, 0x00000000#32),
    (0x10D8, 0x10D8, 0x00000000#32), (0x10DC, 0x10DC, 0x00000000#32), (0x10E0, 0x10E0, 0x00000000#32),
    (0x1100, 0x1100, 0x00007400#32), (0x110C, 0x1114, 0x00000000#32), (0x1118, 0x1118, 0x00000000#32),
    (0x111C, 0x111C, 0x0000FFFF#32), (0x1140, 0x11C0, 0x00000000#32), (0x1200, 0x1200, 0x00000000#32),
    (0x1210, 0x1210, 0x00000000#32), (0x1204, 0x1204, 0x00000101#32), (0x1214, 0x1214, 0x00000101#32),
    (0x1208, 0x1208, 0x0000007F#32), (0x1218, 0x1218, 0x0000007F#32), (0x120C, 0x120C, 0x00000000#32),
    (0x121C, 0x121C, 0x00000000#32), (0x1220, 0x1220, 0x00000000#32), (0x1224, 0x1224, 0x0000003F#32),
    (0x1228, 0x1228, 0x00000000#32), (0x122C, 0x122C, 0x01000102#32), (0x1230, 0x1230, 0x00000000#32),
    (0x1240, 0x1240, 0x00000001#32), (0x1244, 0x1244, 0x00000000#32), (0x1250, 0x125C, 0x00002000#32),
    (0x1260, 0x126C, 0x00000800#32), (0x1300, 0x13FC, 0x00000000#32), (0x1400, 0x141C, 0x00000040#32),
    (0x1420, 0x1420, 0x00000000#32), (0x1424, 0x1424, 0x00000000#32), (0x1428, 0x1428, 0x00000000#32),
    (0x1500, 0x1500, 0x0C0C0C0C#32), (0x1504, 0x1504, 0x00000000#32), (0x1508, 0x1508, 0x00000000#32),
    (0x150C, 0x150C, 0x00000000#32), (0x1510, 0x151C, 0x00000000#32), (0x1520, 0x153C, 0x00000000#32),
    (0x1540, 0x154C, 0x80000000#32), (0x1600, 0x1600, 0x00000000#32), (0x1614, 0x1614, 0x00000000#32),
    (0x1618, 0x162C, 0x00000000#32), (0x1680, 0x1680, 0x012C1F33#32), (0x1688, 0x1688, 0x00000000#32),
    (0x1690, 0x1690, 0x00000000#32), (0x1694, 0x1694, 0x00000000#32), (0x1700, 0x1700, 0x0000000F#32),
    (0x1704, 0x1704, 0xFFFF0000#32), (0x1708, 0x1708, 0x00000000#32), (0x170C, 0x170C, 0x00000000#32),
    (0x1710, 0x1710, 0x00000000#32), (0x172C, 0x172C, 0x00000000#32), (0x1730, 0x1730, 0x00000000#32),
    (0x1780, 0x1780, 0x04000001#32), (0x1784, 0x1784, 0x00001E00#32), (0x1788, 0x1788, 0x00000000#32),
    (0x178C, 0x178C, 0x00000000#32), (0x1790, 0x1790, 0x00000000#32), (0x1A00, 0x1B6C, 0x00000000#32),
    (0x1604, 0x160C, 0x00000000#32), (0x1610, 0x1610, 0xFFFFFFFF#32)]

/-- Every register of a table shows its value. -/
def Shows (val : Nat → Option Word) (tab : List (Nat × Nat × Word)) : Prop :=
  ∀ e ∈ tab, ∀ i, e.1 + 4 * i ≤ e.2.1 → val (e.1 + 4 * i) = some e.2.2

end Sys2Proof.Machine

open Sys2Proof Sys2Proof.Machine

/-- A query that the host side answers by itself shows what its table says and changes nothing else: the response is handed
to TXD at the boundary at which the line executes (R51, R558). -/
def Obligations.HostQueriesAnswer : Prop :=
  ∀ (s : State) (i : Instr) (ls : List Text), HostIdle s → hostAnswer s i = some ls →
    ∃ t, exec i s = .next t ∧ OnlyHost s t (sent s.h ls)

/-- A query of the field side shows the value of its registers as they stand (R54), and changes nothing else but the `SEQ`
bookkeeping of the read. -/
def Obligations.FieldQueriesAnswer : Prop :=
  ∀ (s : State) (i : Instr) (ls : List Text), Linked s → fieldAnswer s i = some ls →
    ∃ t, exec i s = .next t ∧ Exchanged s t (sent s.h ls) s.f

/-- `R` of mapped registers (R611), for both windows: the host registers as the executing line sees them, an open value
being drawn afresh at each read (R670); the field registers with the parity check of the KEEP bytes read (R335); `KEEP?`
reads its bytes in the same way (R599). Where the lanes are busy or a transaction is not answered, the `REGRD` of a field register
joins the host stream and the line waits for its answer (R108, R111). -/
def Obligations.RegisterReadsShow : Prop :=
  (∀ (s : State) (a : BitVec 16) (n : Nat) (ls : List Text), HostIdle s → a.toNat + 4 * n ≤ 0x1000 →
    readAnswer (fun i => HostSide.regValue { s.h.inLine with freeCtr := s.h.freeCtr + openReads a.toNat i } (a.toNat + 4 * i))
      a.toNat n = some ls →
    ∃ t, exec (.registerRead a n) s = .next t ∧
      OnlyHost s t (sent { s.h with freeCtr := s.h.freeCtr + openReads a.toNat n } ls)) ∧
  (∀ (s : State) (a : BitVec 16) (n : Nat) (ls : List Text), Linked s → 0x1000 ≤ a.toNat →
    readAnswer (fun i => (checked s.f a.toNat (i + 1)).regValue s.f.clk (a.toNat + 4 * i)) a.toNat n = some ls →
    ∃ t, exec (.registerRead a n) s = .next t ∧ Exchanged s t (sent s.h ls) (checked s.f a.toNat n)) ∧
  (∀ (s : State) (n c : Nat), Linked s → 1 ≤ c → c ≤ 16 → n + c ≤ 64 →
    ∃ t, exec (.keepQuery n c) s = .next t ∧
      Exchanged s t (sent s.h (valueLines ((checked s.f (0x1300 + 4 * n) c).keep.text n c))) (checked s.f (0x1300 + 4 * n) c)) ∧
  (∀ (s : State) (a : BitVec 16), HostIdle s → s.h.bar.link = true → s.quiet = false → 0x1000 ≤ a.toNat →
    s.mapped a.toNat = true → inSnapshot a.toNat = false →
    ∃ t, exec (.registerRead a 1) s = .next t ∧
      OnlyHost s t ((s.h.ran.send .regrd [regWord 0 a.toNat] none).lineAsks (.registerRead a 1) (.read a.toNat)))

/-- A setting of the field side, and `W` of an RW or W1C register of its window, answers OK and waits for the commit
boundary; nothing else changes (R55, R584, R612). Where the lanes are busy or a transaction is not answered, the `REGWR` of `W` joins
the host stream and the line waits for its answer (R108, R111). -/
def Obligations.FieldSettingsWait : Prop :=
  (∀ (s : State) (i : Instr) (ws : List (Nat × Word)) (ps : List PendW), Linked s → settingWrites s i = some ws →
    pendAll ws = some ps →
    ∃ t, exec i s = .next t ∧ Exchanged s t (sent s.h okLines) { s.f with pendW := s.f.pendW ++ ps }) ∧
  (∀ (s : State) (o : WakeOut) (pulse : Bool) (len : Option Nat) (high : Option Bool) (w v : Word), Linked s →
    ponWord s o pulse len high = some w → accepted 0x122C w = some v →
    ∃ t, exec (.pon o pulse len high) s = .next t ∧
      Exchanged s t (sent (s.h.ponHeld v) okLines) { s.f with pendW := s.f.pendW ++ [.reg 0x122C v] }) ∧
  (∀ (s : State) (a : BitVec 16) (w v : Word), Linked s → 0x1000 ≤ a.toNat → a.toNat ≠ 0x122C → accepted a.toNat w = some v →
    ∃ t, exec (.registerWrite a w) s = .next t ∧
      Exchanged s t (sent s.h okLines) { s.f with pendW := s.f.pendW ++ [.reg a.toNat v] }) ∧
  (∀ (s : State) (a : BitVec 16) (w v : Word), HostIdle s → s.h.bar.link = true → s.quiet = false → 0x1000 ≤ a.toNat →
    accepted a.toNat w = some v →
    ∃ t, exec (.registerWrite a w) s = .next t ∧
      OnlyHost s t ((s.h.ran.send .regwr [regWord 0 a.toNat, w] none).lineAsks (.registerWrite a w) (.write a.toNat w)))

/-- A text command that the field side executes goes out as `CMDX`, and its line waits for the `RSPX` (R557, R585). -/
def Obligations.FieldCommandsGoOut : Prop :=
  ∀ (s : State) (i : Instr) (c : FieldCmd), HostIdle s → s.h.bar.link = true → fieldCmdOf s i = some c →
    ∃ t, exec i s = .next t ∧
      OnlyHost s t ((s.h.send .cmdx (cmdxWords c) (some c)).ran.lineWaits (.field c s.h.bar.nextSeq 0))

/-- `TMARK`: the stamp goes out as a `MARK` with its label, and the line waits for the answer (R234 to R237). -/
def Obligations.TmarkSendsMark : Prop :=
  (∀ (s : State) (sec : Nat) (e : HStamp × Bool), HostIdle s → s.h.bar.link = true → sec < Config.cycleSec →
    (s.h.pps.stamps.find? fun e => !e.2 && decide (s.h.hf ≤ e.1.at' + 64)) = some e → (e.1.unl && !e.1.trn) = false →
    ∃ t, exec (.tmark (.pps sec)) s = .next t ∧
      OnlyHost s t ((HostSide.send { s.h with pps := { s.h.pps with
        stamps := labelFirst (fun e => !e.2 && decide (s.h.hf ≤ e.1.at' + 64)) s.h.pps.stamps } } .mark (markWords 1 e.1 sec 0)
        none).ran.lineWaits .mark)) ∧
  (∀ (s : State) (id sec nano : Nat) (e : Byte × HStamp), HostIdle s → s.h.bar.link = true → sec < Config.cycleSec → id ≤ 255 →
    nano ≤ 999999999 →
    (s.h.radio.marks.find? fun e => e.1.toNat = id && decide (s.h.hf ≤ e.2.at' + 4096)) = some e →
    (e.2.unl && !e.2.trn) = false →
    ∃ t, exec (.tmark (.rf id sec nano)) s = .next t ∧
      OnlyHost s t ((s.h.send .mark
        (markWords 2 e.2 sec (roundDiv ((nano * 2 ^ 32 : Nat) : Int) 1000000000).toNat) none).ran.lineWaits .mark))

/-- `LOCAL`, `PER.CFG`, `T.CFG` and `AL` stage their group and apply it at the end of the line: the set waits for the commit in
place of an earlier one, and nothing stays staged (R564, R584, R596, R716). -/
def Obligations.PairGroupCommands : Prop :=
  (∀ (s : State) (n : Int), Linked s → -48 ≤ n → n ≤ 56 →
    ∃ t, exec (.localOfs n) s = .next t ∧ Exchanged s t (sent s.h okLines) (perbTaken s.f (BitVec.ofInt 8 n) (s.f.per.shown.2 &&& 0xFF01#32))) ∧
  (∀ (s : State) (day evin : Nat), Linked s → day ≤ 1 → evin ≤ 255 →
    ∃ t, exec (.perCfg day evin) s = .next t ∧
      Exchanged s t (sent s.h okLines) (perbTaken s.f s.f.per.shown.1 (BitVec.ofNat 32 (day + evin * 2 ^ 8) &&& 0xFF01#32))) ∧
  (∀ (s : State) (n ty exc : Nat), Linked s → n ≤ 3 → ty ≤ 4 → exc ≤ 2 → prbBad (BitVec.ofNat 32 (ty + 16 * exc)) = false →
    ∃ t, exec (.tCfg n ty exc) s = .next t ∧
      Exchanged s t (sent s.h okLines) (prbTaken s.f n (BitVec.ofNat 32 (ty + 16 * exc)))) ∧
  (∀ (s : State) (a : AlArg) (al : Alarm), Linked s → 1 ≤ alNumber a → s.f.al[alNumber a - 1]? = some al →
    bitOf al.shown.2.2 31 = false →
    alarmBad (alWords al.shown a).1 ((alWords al.shown a).2.1 &&& 0xFFFFFF#32) ((alWords al.shown a).2.2 &&& 0x9F7F#32) = false →
    ∃ t, exec (.al a) s = .next t ∧
      Exchanged s t (sent s.h okLines) (alarmTaken s.f (alNumber a - 1) al (alWords al.shown a).1
        ((alWords al.shown a).2.1 &&& 0xFFFFFF#32) ((alWords al.shown a).2.2 &&& 0x9F7F#32)))

/-- `TIME` stages its seven fields over the day of week, and the set waits for the frame-0 boundary's commit; while the
references discipline time, or with a date that Table 6-5 refuses, it is refused and the staging stays (R221 to R227). -/
def Obligations.TimeSetsOrRefuses : Prop :=
  ∀ (s : State) (y mo d h mi se : Nat), Linked s → 2000 ≤ y → y ≤ 2399 → mo ≤ 99 → d ≤ 99 → h ≤ 99 → mi ≤ 99 → se ≤ 99 →
    (s.f.refs.tracking = false → tsetBad (timeBytes s.f y mo d h mi se) (dowStaged s.f) = false →
      ∃ t, exec (.time y mo d h mi se) s = .next t ∧
        Exchanged s t (sent s.h okLines) (tsetTaken s.f (timeBytes s.f y mo d h mi se))) ∧
    ((s.f.refs.tracking || tsetBad (timeBytes s.f y mo d h mi se) (dowStaged s.f)) = true →
      ∃ t, exec (.time y mo d h mi se) s = .next t ∧ t.f.pendW = s.f.pendW ∧ t.f.tset.filled = true ∧
        t.f.tset.lastRej = true ∧ t.f.tset.fields = timeBytes s.f y mo d h mi se ∧
        t.h.line.tx = (sent s.h [errLine (if s.f.refs.tracking then 22 else 21) none]).line.tx)

/-- `MODE` empties the tag cache and `MODE`, `UART.BAUD` and `RESET HOST` take effect when their response has been sent; `PPS`
at the end of its line (R531, R541, R551, R587, R593). -/
def Obligations.LineEndCommands : Prop :=
  (∀ (s : State) (m : UMode), HostIdle s →
    ∃ t, exec (.mode m) s = .next t ∧
      OnlyHost s t (HostSide.respond { s.h.ran with line := { s.h.line with cache := [] } } none false okLines
        ⟨some m, none, false⟩)) ∧
  (∀ (s : State) (b : Nat), HostIdle s → 9600 ≤ b → b ≤ 3000000 →
    ∃ t, exec (.uartBaud b) s = .next t ∧ OnlyHost s t (s.h.ran.respond none false okLines ⟨none, some b, false⟩)) ∧
  (∀ (s : State), HostIdle s →
    ∃ t, exec .resetHost s = .next t ∧
      t.h.line.resetReq = true ∧ t.f = s.f ∧ t.pending = s.pending ∧
      { t.h with line := { t.h.line with resetReq := false } } = s.h.ran.respond none false okLines ⟨none, none, true⟩) ∧
  (∀ (s : State) (en : Nat), HostIdle s → en ≤ 1 →
    ∃ t, exec (.pps en) s = .next t ∧ OnlyHost s t (sent (s.h.setPps (decide (en = 1))) okLines))

/-- `ST.CLR` clears the host half at once and the field half at the commit; `TEL.CLR` likewise (R525, R588, R619). -/
def Obligations.ClearsByHalves : Prop :=
  (∀ (s : State) (m : Word), Linked s → m &&& fieldMask ≠ 0#32 →
    ∃ t, exec (.stClr m) s = .next t ∧
      Exchanged s t (sent (s.h.clearBits m) okLines) { s.f with pendW := s.f.pendW ++ [.stClr (m &&& fieldMask)] }) ∧
  (∀ (s : State) (m : Word), HostIdle s → m &&& fieldMask = 0#32 →
    ∃ t, exec (.stClr m) s = .next t ∧ OnlyHost s t (sent (s.h.clearBits m) okLines)) ∧
  (∀ (s : State) (g : TelGroup) (ps : List PendW), Linked s → telBad g = false → telField g = true →
    pendAll (telWrites g) = some ps →
    ∃ t, exec (.telClr (some g)) s = .next t ∧
      Exchanged s t (sent (s.h.telClr g) okLines) { s.f with pendW := s.f.pendW ++ ps }) ∧
  (∀ (s : State) (g : TelGroup), HostIdle s → telBad g = false → telField g = false →
    ∃ t, exec (.telClr (some g)) s = .next t ∧ OnlyHost s t (sent (s.h.telClr g) okLines))

/-- Jobs of the host side: `DESC.DUMP` and `CAL.RUN` of a radio item take the lowest free slot, and `JOB.CANCEL` ends a live job
CANCELLED with its work on the field side (R435, R486, R521, R585, R591, R628). -/
def Obligations.HostJobsStartAndCancel : Prop :=
  (∀ (s : State) (h : HostSide) (i : Nat), HostIdle s → s.h.table.served = true → s.h.startJob 7 [] (.desc 0) = some (h, i) →
    ∃ t, exec .descDump s = .next t ∧ OnlyHost s t (sent h (valueLines ('J' :: decText i)))) ∧
  (∀ (s : State) (it : CalItem) (h : HostSide) (i : Nat), HostIdle s → it = .iq ∨ it = .pa →
    s.h.startJob 4 [] (.rfCal it) = some (h, i) →
    ∃ t, exec (.calRun (some it) none) s = .next t ∧ OnlyHost s t (sent h (valueLines ('J' :: decText i)))) ∧
  (∀ (s : State) (n : Nat), HostIdle s → n ≤ 3 → (s.h.jobOf n).live = true →
    ∃ t, exec (.jobCancel n) s = .next t ∧ t.pending = s.pending ∧
      (match (s.h.jobOf n).info with
        | .journal _ _ _ _ _ _ _ _ _ => t.f = s.f.dropJrnJob ∧ t.h = sent (s.h.endJob n 6 0) okLines
        | .erase _ => t.f = s.f.dropErase ∧ t.h = sent (s.h.endJob n 6 0) okLines
        | .cal item lanes _ _ => t.f = s.f.calCancel item lanes ∧ t.h = sent (s.h.endJob n 6 0) okLines
        | .desc _ => t.f = s.f ∧ t.h = sent (s.h.endJob n 6 0) okLines
        | .none => t.f = s.f ∧ t.h = sent (s.h.endJob n 6 0) okLines
        | .rftx _ => t.f = s.f ∧ t.h = sent ((s.h.rfCancel n).endJob n 6 0) okLines
        | .rfCal item => t.f = s.f ∧ t.h = sent
            (HostSide.endJob { s.h with radio := s.h.radio.setCal item ⟨(s.h.radio.calOf item).due, none⟩ } n 6 0) okLines
        | .test _ _ _ _ _ _ =>
          if s.f.tst.job.isSome then
            t.f = (s.withField s.f.cancelTest).f ∧ t.h = sent (s.withField s.f.cancelTest).h okLines
          else t.f = s.f ∧ t.h = sent (s.h.endJob n 6 0) okLines))

/-- The settings and requests of the radio (Table 16-12): each stages its words and applies its group, or takes effect at once,
or is taken as a transmission; nothing on the field side changes (R645, R639, R663, R680, R648, R654, R655, R608, R609). -/
def Obligations.RadioCommands : Prop :=
  (∀ (s : State) (hz : Nat), HostIdle s → 779000000 ≤ hz → hz ≤ 960000000 → s.h.radio.tx = none →
    ∃ t, exec (.rfCh hz) s = .next t ∧
      OnlyHost s t (sent (HostSide.rfTune { s.h with radio := { s.h.radio with chStg := none } }
        (BitVec.ofNat 32 (fcodeOf hz) &&& 0x1FFFFFF#32)) okLines)) ∧
  (∀ (s : State) (k r fec : Nat) (hOne bt : Bool) (w : Word), HostIdle s → k ∈ [2, 4] → r ∈ [50, 100, 150, 200] → fec ≤ 2 →
    w = BitVec.ofNat 32 (k / 4 + 2 * (r / 50 - 1) + 8 * hOne.toNat + 16 * bt.toNat + 32 * fec) → s.h.radio.tx = none →
    s.h.radio.st ≠ .rx → bitOf s.h.radio.phyShown.2 10 = decide (fec ≠ 0) →
    ∃ t, exec (.rfMode k r hOne bt fec) s = .next t ∧
      OnlyHost s t (sent { s.h with radio := { s.h.radio with phy := w, frm := s.h.radio.phyShown.2, phyStg := none } } okLines)) ∧
  (∀ (s : State) (pre : Nat) (coded wh : Bool) (w : Word), HostIdle s → 4 ≤ pre → pre ≤ 1000 →
    w = withField (withBit (withBit s.h.radio.phyShown.2 10 coded) 11 wh) 0 10 pre &&& 0x1FFF#32 → s.h.radio.tx = none →
    s.h.radio.st ≠ .rx → coded = decide (fieldOf s.h.radio.phyShown.1 5 2 ≠ 0) →
    ∃ t, exec (.rfFrame pre coded wh) s = .next t ∧
      OnlyHost s t (sent { s.h with radio := { s.h.radio with phy := s.h.radio.phyShown.1, frm := w, phyStg := none } } okLines)) ∧
  (∀ (s : State) (idx comp : Nat), HostIdle s → idx ≤ 63 → comp ≤ 2 →
    ∃ t, exec (.rfPwr idx comp) s = .next t ∧
      OnlyHost s t (sent { s.h with radio := { s.h.radio with pa := BitVec.ofNat 32 (idx + 2 ^ 8 * comp), paStg := none } } okLines)) ∧
  (∀ (s : State) (lead pri listen timeout : Nat), HostIdle s → 10 ≤ lead → lead ≤ 500 → pri ≤ 1 → listen ≤ 1 → 1 ≤ timeout →
    timeout ≤ 1000 → s.h.radio.tx = none →
    ∃ t, exec (.rfCx lead pri listen timeout) s = .next t ∧
      OnlyHost s t (sent { s.h with radio := { s.h.radio with
        cx := BitVec.ofNat 32 (1 + 2 * pri + 4 * listen + 16 * lead + 2 ^ 16 * timeout),
        susp := s.h.radio.susp && listen = 0 } } okLines)) ∧
  (∀ (s : State) (tg : RfTarget), HostIdle s → (s.h.rfState tg).2 = .reached →
    ∃ t, exec (.rfState tg) s = .next t ∧ OnlyHost s t (sent (s.h.rfState tg).1 okLines)) ∧
  (∀ (s : State) (tg : RfTarget), HostIdle s → (s.h.rfState tg).2 = .runs →
    ∃ t, exec (.rfState tg) s = .next t ∧ OnlyHost s t ((s.h.rfState tg).1.ran.lineWaits .radio)) ∧
  (∀ (s : State) (p : List Byte), HostIdle s → p ≠ [] → p.length ≤ 110 → s.h.radio.noTx = false → s.h.radio.tx = none →
    ∃ t, exec (.rfTx p) s = .next t ∧
      OnlyHost s t (sent { s.h with radio := s.h.radio.newTx p none } (valueLines ('T' :: decText s.h.radio.nextTx.toNat)))) ∧
  (∀ (s : State) (len i : Nat) (h : HostSide), HostIdle s → 1 ≤ len → len ≤ 2047 → s.h.radio.noTx = false →
    s.h.radio.tx = none → s.h.startJob 6 [] (.rftx len) = some (h, i) →
    ∃ t, exec (.rfTxj len) s = .next t ∧
      OnlyHost s t (sent { h with radio := h.radio.newTx ((List.range len).map fun o => bufGet o s.h.radio.buf) (some i) }
        (valueLines ('J' :: decText i)))) ∧
  (∀ (s : State) (o : Nat) (bs : List Byte), HostIdle s → bs ≠ [] → bs.length ≤ 100 → o + bs.length ≤ 2047 → s.h.rftxJobs = [] →
    bufWf s.h.radio.buf = true →
    ∃ t, exec (.rfBuf o bs) s = .next t ∧
      OnlyHost s t (sent { s.h with radio := { s.h.radio with buf := t.h.radio.buf } } okLines) ∧
      ∀ k, bufGet k t.h.radio.buf = if o ≤ k ∧ k < o + bs.length then bs[k - o]?.getD 0#8 else bufGet k s.h.radio.buf) ∧
  (∀ (s : State) (p : RxPkt) (rest : List RxPkt), HostIdle s → s.h.radio.rxq = p :: rest →
    ∃ t, exec (.rfqPop p.id.toNat) s = .next t ∧
      OnlyHost s t (sent { s.h with radio := { s.h.radio with rxq := rest } } okLines))

/-- `W` of a host register acts as the command of that register where it has one, reaches an RW register at the end of the
line, and is answered ERR 20 where no register is mapped (Table 0-3, R612, R706). -/
def Obligations.HostRegisterWrites : Prop :=
  (∀ (s : State) (w : Word), HostIdle s →
    (∃ t u, exec (.registerWrite 0x0014#16 w) s = .next t ∧ exec (.stClr w) s = .next u ∧ t.f = u.f ∧ t.pending = u.pending ∧
      t.h = { u.h with line := { u.h.line with cur := t.h.line.cur } } ∧ t.h.line.cur.isSome = u.h.line.cur.isSome) ∧
    (w &&& fieldMask = 0#32 ∨ s.h.bar.link = false ∨ s.quiet = true →
      exec (.registerWrite 0x0014#16 w) s = exec (.stClr w) s) ∧
    exec (.registerWrite 0x0040#16 w) s = exec (.uartBaud (fieldOf w 0 22)) s ∧
    exec (.registerWrite 0x0044#16 w) s =
      exec (.mode (if !bitOf w 0 then .human else if bitOf w 1 then .machineChk else .machine)) s) ∧
  (∀ (s : State) (w : Word), HostIdle s → w &&& ~~~attnMaskBits = 0#32 →
    ∃ t, exec (.registerWrite 0x0018#16 w) s = .next t ∧ OnlyHost s t (sent { s.h with attnMask := w } okLines)) ∧
  (∀ (s : State) (w : Word), HostIdle s → w &&& ~~~attnMaskBits ≠ 0#32 →
    ∃ t, exec (.registerWrite 0x0018#16 w) s = .next t ∧ OnlyHost s t (sent s.h [errLine 20 none])) ∧
  (∀ (s : State) (w : Word), HostIdle s → 64 ≤ fieldOf w 16 16 →
    ∃ t, exec (.registerWrite 0x0100#16 w) s = .next t ∧
      OnlyHost s t (sent { s.h with rot := { s.h.rot with cfg := w &&& 0xFFFF0001#32 } } okLines)) ∧
  (∀ (s : State) (a : BitVec 16) (w : Word), HostIdle s → a.toNat < 0x1000 → s.h.regValue a.toNat = none →
    ∃ t, exec (.registerWrite a w) s = .next t ∧ OnlyHost s t (sent s.h [errLine 20 none]))

/-- While `LINK` is clear, what needs the field side is answered ERR 60 and does nothing (R142, R581). -/
def Obligations.BarrierDownAnswers60 : Prop :=
  ∀ (s : State) (i : Instr), HostIdle s → s.h.bar.link = false → i ≠ .testQuery →
    (fieldAnswer s i).isSome ∨ (settingWrites s i).isSome ∨ (fieldCmdOf s i).isSome →
    ∃ t, exec i s = .next t ∧ OnlyHost s t (sent s.h [errLine 60 none])

/-- The line buffer (R553): a line that finds one executing or waiting waits behind it, with at most 8 waiting; a line that completes
while 8 wait is answered ERR 23 when the response being sent ends (at once, where none is), is not executed and not cached. -/
def Obligations.LineBufferHoldsEight : Prop :=
  (∀ (s : State) (l : Text), s.h.run = true → s.h.line.cur.isSome = true →
    (s.h.line.lines.length < 8 →
      ∃ t, exec .idQuery s = .next t ∧
        OnlyHost s t { s.h with line := { s.h.line with
          lines := s.h.line.lines ++ [⟨none, [], [.cmd .idQuery], 1, none, false, false⟩] } }) ∧
    (8 ≤ s.h.line.lines.length → s.h.line.tx = [] →
      ∃ t, exec .idQuery s = .next t ∧ OnlyHost s t (s.h.respond none false [errLine 23 none] TxAfter.none)) ∧
    (8 ≤ s.h.line.lines.length → ⟨.response, [l], TxAfter.none⟩ ∈ s.h.line.tx →
      ∃ t, exec .idQuery s = .next t ∧
        OnlyHost s t { s.h with line := { s.h.line with
          full := s.h.line.full ++ [frameLines s.h.uart.mode none false [errLine 23 none]] } })) ∧
  (∀ (s : State) (late long bad : Bool) (h : HostSide) (tag : Option Text), Receiving s → s.h.uart.buf ≠ [] →
    s.h.uart.long = long → s.h.uart.bad = bad → 8 ≤ s.h.line.lines.length →
    h = { s.h.uartActive with
      uart := { s.h.uartActive.uart with lastCr := true, buf := [], long := false, bad := false },
      line := { s.h.line with
        tx := if s.h.uart.mode = .human then s.h.line.tx ++ [⟨.echo, [[chCr, chLf]], TxAfter.none⟩] else s.h.line.tx } } →
    tag = (checkLine s.h.uart.mode s.h.uart.buf long bad).2.1 →
    ((∀ x ∈ s.h.line.tx, x.kind ≠ .response) →
      ∃ t, exec (.lineReceive 0x0D#8 late) s = .next t ∧ OnlyHost s t (h.respond tag false [errLine 23 none] TxAfter.none)) ∧
    ((∃ x ∈ s.h.line.tx, x.kind = .response) →
      ∃ t, exec (.lineReceive 0x0D#8 late) s = .next t ∧ OnlyHost s t { h with line := { h.line with
        full := s.h.line.full ++ [frameLines s.h.uart.mode tag false [errLine 23 none]] } })) ∧
  (∀ (s : State) (ls f : List Text) (rest : List TxItem), s.h.line.tx = ⟨.response, ls, TxAfter.none⟩ :: rest →
    s.h.line.full = [f] →
    ∃ t, exec .responseSent s = .next t ∧ t.f = s.f ∧ t.h.line.full = [] ∧
      t.h.line.tx = ⟨.response, if s.h.uart.mode = .human then f ++ [txt "> "] else f, TxAfter.none⟩ :: rest)

/-! ### The field side: frames, alarms, references, rate -/

/-- Time advances by the frame that ends: the stamp by the ticks of its frame at its increment, the frame count by one, whatever
commits at the boundary (R32, R193 to R195). -/
def Obligations.FrameBoundaryAdvancesTime : Prop :=
  ∀ s : State, FieldUp s → s.f.clk.item1 = false →
    ∃ t, exec .frameBoundary s = .next t ∧
      t.f.clk.stamp = BitVec.ofNat 72 ((s.f.clk.acc + s.f.clk.frameLen * s.f.clk.incr) / 2 ^ 32) ∧
      t.f.clk.phase = BitVec.ofNat 32 (s.f.clk.acc + s.f.clk.frameLen * s.f.clk.incr) ∧
      t.f.clk.ticks = s.f.clk.ticks + s.f.clk.frameLen ∧ t.f.clk.fno = s.f.clk.fno + 1 ∧ t.f.clk.item1 = false ∧
      t.f.pendW = [] ∧ t.f.refs.marksNow = []

/-- The writes that wait commit together at item 1 of the boundary, none stays, and FRAME_BOUNDARY goes on from item 2 (R55): a
KEEP byte is stored with its parity, a half-word of status bits is cleared, the period set is taken (R335, R588, R349). -/
def Obligations.WaitingWritesCommit : Prop :=
  (∀ s : State, FieldUp s → s.f.pendW ≠ [] → s.f.clk.item1 = false →
    ∃ t, exec .fieldWriteCommit s = .next t ∧ t.f.pendW = [] ∧ t.f.clk.item1 = true ∧ t.f.clk.fno = s.f.clk.fno + 1) ∧
  (∀ (s : State) (n : Nat) (w : Word), FieldUp s → s.f.pendW = [.reg (0x1300 + 4 * n) w] → n < 64 → s.f.clk.item1 = false →
    ∃ t, exec .fieldWriteCommit s = .next t ∧ t.f.keep = s.f.keep.write n (w.setWidth 8)) ∧
  (∀ (s : State) (ofs : Byte) (cfg : Word), FieldUp s → s.f.pendW = [.perb ofs cfg] → s.f.clk.item1 = false →
    ∃ t, exec .fieldWriteCommit s = .next t ∧ t.f.per.localOfs = ofs ∧ t.f.per.cfg = cfg) ∧
  (∀ (s : State) (w : Word), FieldUp s → s.f.pendW = [.reg 0x1600 w] → s.f.clk.item1 = false →
    ∃ t, exec .fieldWriteCommit s = .next t ∧ t.f.jrn.policy = bitOf w 0) ∧
  (∀ (s : State) (w : Word), FieldUp s → s.f.pendW = [.reg 0x10C4 w] → s.f.clk.item1 = false →
    ∃ t, exec .fieldWriteCommit s = .next t ∧ t.f.refs.stepLim = w ∧ t.f.pendW = [] ∧ t.f.clk.item1 = true ∧ t.pending = s.pending) ∧
  (∀ s : State, FieldUp s → s.f.pendW = [] ∨ s.f.clk.item1 = true →
    ∃ t, exec .fieldWriteCommit s = .next t ∧ OnlyField s t s.f)

/-- A pulse that has run out releases its output; PON_H by a `WAKE`, which a field side that is not linked does not send (R330,
R331). -/
def Obligations.PulseEndReleases : Prop :=
  (∀ s : State, FieldUp s → s.f.wake.ponFDue = true →
    ∃ t, exec (.ponPulseEnd .ponF) s = .next t ∧
      OnlyField s t { s.f with wake := { s.f.wake with ponF := false, ponFLeft := 0, ponFDue := false } }) ∧
  (∀ s : State, FieldUp s → s.f.wake.ponHDue = true → s.f.bar.linked = true →
    ∃ t, exec (.ponPulseEnd .ponH) s = .next t ∧
      OnlyField s t (Field.send { s.f with wake := { s.f.wake with
        ponH := false, ponHLeft := 0, ponHDue := false, sent := s.f.wake.sent ++ [none] } } .wake [0#32])) ∧
  (∀ s : State, FieldUp s → s.f.wake.ponHDue = true → s.f.bar.linked = false →
    ∃ t, exec (.ponPulseEnd .ponH) s = .next t ∧
      OnlyField s t { s.f with wake := { s.f.wake with ponHDue := false } })

/-- The slice of a firing performs its action set (R314, R315, R325, R330, R331, Table 2-4): that of the ticker, of an alarm, of periodic
events; PON_F is driven, `SNAP` requested at the firing's boundary, `WAKE` sent where the field side is linked. An alarm leaves the
ALARM record under `ACT` bit 4 or a flag, and with the DROPPED flag where a `WAKE` is due and the field side is not linked; the ticker
and periodic events leave one under bit 4 alone, with a `SRC` and `SUB` that the spec does not state (the model's choice,
notes/assumptions/18.md). The clauses are about a plan in which no closed period waits for its records right behind the action. -/
def Obligations.FiringsPerformActions : Prop :=
  (∀ (s : State) (a : Firing) (p k : Nat) (rest : List Req), FieldUp s → s.f.start.wdog = false →
    s.f.sched.plan = ⟨p, k, .action a⟩ :: rest → a.src = 4 → noPeriod rest →
    ∃ t, exec .tickerFire s = .next t ∧
      t.f = { s.f with
        sched := { s.f.sched with plan := rest }, wake := t.f.wake, bar := t.f.bar, temp := t.f.temp, jrn := t.f.jrn,
        freeCtr := s.f.freeCtr + 1 } ∧ t.h = s.h ∧ t.pending = s.pending ∧
      (noTicker (rest ++ s.f.sched.deferred ++ s.f.sched.arrived) → t.f.wake.tkrDue = false) ∧
      t.f.wake.ponF = (if a.acts.getLsbD 2 then
        (s.f.wake.driveF (if a.flags.getLsbD 2 then 0 else stampFrames s.f.clk.stamp - stampFrames a.stamp)).ponF
        else s.f.wake.ponF) ∧
      t.f.temp = (if a.acts.getLsbD 3 then (if a.flags.getLsbD 2 then s.f.snap else s.f.snapAt a.stamp a.epn).temp else s.f.temp) ∧
      (a.acts.getLsbD 1 = false → t.f.bar = s.f.bar) ∧
      (a.acts.getLsbD 1 = true → s.f.bar.linked = true → ∃ w, bitOf w 27 = true ∧ bitOf w 26 = false ∧
        t.f.bar = (s.f.send .wake [w]).bar) ∧
      (a.acts.getLsbD 4 = false → t.f.jrn = s.f.jrn) ∧
      (a.acts.getLsbD 4 = true → ∃ r, t.f.jrn = (s.f.stage r).jrn)) ∧
  (∀ (s : State) (a : Firing) (p k : Nat) (rest : List Req), FieldUp s → s.f.start.wdog = false → a.src = 1 ∨ a.src = 2 →
    s.f.sched.plan = ⟨p, k, .action a⟩ :: rest → noPeriod rest →
    ∃ t, exec .alarmActionSlice s = .next t ∧
      t.f = { s.f with
        sched := { s.f.sched with plan := rest }, wake := t.f.wake, bar := t.f.bar, temp := t.f.temp, jrn := t.f.jrn,
        al := t.f.al } ∧ t.h = s.h ∧ t.pending = s.pending ∧
      t.f.wake.ponF = (if a.acts.getLsbD 2 then
        (s.f.wake.driveF (if a.flags.getLsbD 2 then 0 else stampFrames s.f.clk.stamp - stampFrames a.stamp)).ponF
        else s.f.wake.ponF) ∧
      t.f.temp = (if a.acts.getLsbD 3 then (if a.flags.getLsbD 2 then s.f.snap else s.f.snapAt a.stamp a.epn).temp else s.f.temp) ∧
      (((a.acts.getLsbD 0 || a.acts.getLsbD 1) && !s.f.bar.linked) = false →
        t.f.al = s.f.al ∧
        t.f.jrn = if a.acts.getLsbD 4 = true ∨ a.flags ≠ 0#4 then (s.f.stage (recAlarm a)).jrn else s.f.jrn)) ∧
  (∀ (s : State) (a : Firing) (p k : Nat) (rest : List Req), FieldUp s → s.f.start.wdog = false → a.src = 3 →
    s.f.sched.plan = ⟨p, k, .action a⟩ :: rest → noPeriod rest →
    ∃ t, exec .alarmActionSlice s = .next t ∧
      t.f = { s.f with
        sched := { s.f.sched with plan := rest }, wake := t.f.wake, bar := t.f.bar, temp := t.f.temp, jrn := t.f.jrn,
        freeCtr := s.f.freeCtr + 1 } ∧ t.h = s.h ∧ t.pending = s.pending ∧
      (a.acts.getLsbD 4 = false → t.f.jrn = s.f.jrn) ∧ (a.acts.getLsbD 4 = true → ∃ r, t.f.jrn = (s.f.stage r).jrn)) ∧
  (∀ (s : State) (a : Firing) (p k : Nat) (rest : List Req), FieldUp s → s.f.start.wdog = false → a.src = 1 ∨ a.src = 2 →
    s.f.sched.plan = ⟨p, k, .action a⟩ :: rest → noPeriod rest →
    (a.acts.getLsbD 0 || a.acts.getLsbD 1) = true → s.f.bar.linked = false →
    ∃ t, exec .alarmActionSlice s = .next t ∧ t.f.bar = s.f.bar ∧ t.f.wake.ponH = s.f.wake.ponH ∧
      t.f.jrn = (s.f.stage (recAlarm { a with acts := a.acts &&& 0x1C#5, flags := a.flags ||| 8#4 })).jrn)

/-- An overrun of a window: the watchdog stops the slices, counts, and restarts the scheduler at the next boundary; running
calibrations are abandoned (R47, R464). -/
def Obligations.WatchdogStopsSlices : Prop :=
  ∀ s : State, FieldUp s →
    ∃ t, exec .watchdogRestart s = .next t ∧ t.f.sched = { s.f.sched with plan := [], wdog := satAdd s.f.sched.wdog 1 } ∧
      t.f.start = { s.f.start with wdog := true } ∧ t.f.cal.act = none ∧ t.f.cal.adc = none ∧
      t.f.clk = s.f.clk ∧ t.f.refs = s.f.refs ∧ t.f.sup = s.f.sup ∧ t.f.wake = { s.f.wake with tkrDue := t.f.wake.tkrDue } ∧
      t.f.keep = s.f.keep ∧ t.f.ev = s.f.ev

/-- MARK_EVALUATE (R232, R239, R243, R244): a mark of a disabled reference, or one not later than the last, is dropped and counted;
a mark of an idle reference counts and opens a run. -/
def Obligations.MarksAreEvaluated : Prop :=
  (∀ (s : State) (m : Mark), FieldUp s → s.f.refs.marksDue = [m] →
    s.f.refs.enabled m.src = false ∨ (∃ e, (s.f.refs.get m.src).lastEval = some e ∧ m.stamp.toNat ≤ e) →
    ∃ t, exec .markEvaluate s = .next t ∧
      OnlyField s t { s.f with refs := { s.f.refs with marksDue := [], markDrop := satAdd s.f.refs.markDrop 1 } }) ∧
  (∀ (s : State) (m : Mark), FieldUp s → s.f.refs.marksDue = [m] → s.f.refs.enabled m.src = true →
    (s.f.refs.get m.src).lastEval = none → (s.f.refs.get m.src).st = .idle → (s.f.refs.get m.src).run = none → m.unl = false →
    ∃ t, exec .markEvaluate s = .next t ∧
      OnlyField s t { s.f with refs := { s.f.refs.put m.src { s.f.refs.get m.src with
        st := .qualifying, run := some (RefRun.opened (evaluated s.f m)), lastEval := some m.stamp.toNat,
        missFrom := max (s.f.refs.get m.src).missFrom m.stamp.toNat } with marksDue := [], markOk := satAdd s.f.refs.markOk 1 } }) ∧
  (∀ (s : State), FieldUp s → s.f.refs.marksDue = [] →
    ∃ t, exec .markEvaluate s = .next t ∧ OnlyField s t s.f)

/-- MARK_MISS (R242, R244, R248): after 1.5 T without a mark a qualifying reference is Idle again, a qualified one has one miss
more and is Lost at the third. -/
def Obligations.MissedMarks : Prop :=
  ∀ (s : State) (r : RefSrc) (x : Ref) (span : Nat), FieldUp s → x = s.f.refs.get r → span = s.f.refs.interval r * 3 / 2 →
    s.f.refs.enabled r = true → x.lastEval.isSome = true → x.missFrom + span ≤ s.f.clk.stamp.toNat →
    (x.st = .qualifying →
      ∃ t, exec (.markMiss r) s = .next t ∧ OnlyField s t { s.f with refs := s.f.refs.put r { x with
        st := .idle, run := none, missFrom := x.missFrom + span } }) ∧
    (x.st = .idle ∨ x.st = .lost →
      ∃ t, exec (.markMiss r) s = .next t ∧ OnlyField s t { s.f with refs := s.f.refs.put r { x with missFrom := x.missFrom + span } }) ∧
    (x.st = .qualified → x.misses < 2 →
      ∃ t, exec (.markMiss r) s = .next t ∧ OnlyField s t { s.f with refs := { s.f.refs.put r { x with
        missFrom := x.missFrom + span, misses := x.misses + 1 } with
        jump := if s.f.refs.tref = trefOf r then none else s.f.refs.jump } }) ∧
    (x.st = .qualified → 2 ≤ x.misses →
      ∃ t, exec (.markMiss r) s = .next t ∧ (t.f.refs.get r).st = .lost ∧ (t.f.refs.get r).run = none ∧
        (t.f.refs.get r).lostAt = s.f.clk.fno + 1 ∧ t.f = { s.f with refs := t.f.refs } ∧ t.h = s.h)

/-- A Lost reference is Idle after 512 frames (R253); a slew with nothing left ends (R264); HOLDOVER_LONG sets when HOLD has lasted
86 400 s (R282); at its 64th frame boundary a hand-over ends, with its step of whole frames (R262) and the rest as a slew, or with
what is left of its blend as a slew (R272); HANDOVER_COMPLETE performs housekeeping item 1 of that boundary (the model's choice,
notes/assumptions/16.md). -/
def Obligations.ReferenceTimersEnd : Prop :=
  (∀ (s : State) (r : RefSrc), FieldUp s → (s.f.refs.get r).st = .lost → (s.f.refs.get r).lostAt + 512 ≤ s.f.clk.fno →
    ∃ t, exec (.referenceIdle r) s = .next t ∧
      OnlyField s t { s.f with refs := s.f.refs.put r { s.f.refs.get r with st := .idle, run := none } }) ∧
  (∀ s : State, FieldUp s → s.f.refs.slewOn = true → s.f.refs.slewRem = 0 →
    ∃ t, exec .slewEnd s = .next t ∧ OnlyField s t { s.f with refs := { s.f.refs with slewOn := false, slewLeap := false } }) ∧
  (∀ s : State, FieldUp s → s.f.refs.tref = .hold → 86400 * 2 ^ 32 ≤ s.f.clk.stamp.toNat - s.f.refs.holdFrom →
    ∃ t, exec .holdoverLongSet s = .next t ∧ OnlyField s t (s.f.setBit sbHoldoverLong)) ∧
  (∀ (s : State) (h : HandOver), FieldUp s → s.f.refs.ho = some h → 63 ≤ h.frames → s.f.clk.item1 = false →
    s.f.refs.planned = [] → s.f.pendW = [] →
    ∃ t, exec .handoverComplete s = .next t ∧ t.f.refs.ho = none ∧ t.f.refs.slewLeap = false ∧ t.f.clk.item1 = true ∧
      t.f.clk.fno = s.f.clk.fno + 1 ∧
      (h.step = false →
        t.f.refs.slewRem = h.blend - s.f.refs.rs * ((s.f.clk.frameLen * 2 ^ 17 : Nat) : Rat) ∧
        t.f.refs.slewOn = decide (t.f.refs.slewRem ≠ 0) ∧ t.f.clk.eofs = s.f.clk.eofs) ∧
      (h.step = true →
        t.f.refs.slewRem = h.d - (roundTiesZero (h.d / 2 ^ 26) : Rat) * 2 ^ 26 ∧
        t.f.refs.slewOn = decide (t.f.refs.slewRem ≠ 0) ∧
        (roundTiesZero (h.d / 2 ^ 26) = 0 → t.f.clk.eofs = s.f.clk.eofs) ∧
        (roundTiesZero (h.d / 2 ^ 26) ≠ 0 →
          t.f.clk.eofs = BitVec.ofInt 54 (s.f.clk.eofs.toInt + roundTiesZero (h.d / 2 ^ 26)) ∧ t.f.bit sbStepped = true))) ∧
  (∀ s : State, FieldUp s → s.f.refs.ho = none ∨ s.f.clk.item1 = true →
    ∃ t, exec .handoverComplete s = .next t ∧ OnlyField s t s.f)

/-- DIE_TEMP_READ (R289 to R293): the read is held, and r_c of the coming boundary is that of COMP at the temperature.
VBAT_MEASURE (R86, R87): the reading to 10 mV is held, and BATLOW follows its threshold with 0.1 V of hysteresis. -/
def Obligations.MeasurementsAreTaken : Prop :=
  (∀ (s : State) (v : BitVec 16), FieldUp s → s.f.readDue = true →
    ∃ t, exec (.dieTempRead v) s = .next t ∧ t.f = { s.f with rate := t.f.rate } ∧ t.h = s.h ∧
      t.f.rate.tdie = v ∧ t.f.rate.tvalid = true ∧ (s.f.rate.tvalid = false → t.f.rate.fast = true) ∧
      t.f.rate.rcNext = some (compRate s.f.rate.cfg s.f.cal.ws.compPar s.f.cal.ws.ltab ((v.toInt : Rat) / 64)) ∧
      t.f.rate.cfg = s.f.rate.cfg ∧ t.f.rate.rc = s.f.rate.rc) ∧
  (∀ (s : State) (mv v th : Nat), FieldUp s → s.f.measDue = true → v = min ((mv + 5) / 10 * 10) 4090 →
    th = 2200 + 100 * fieldOf s.f.sup.cfg 4 4 →
    ∃ t, exec (.vbatMeasure mv) s = .next t ∧ t.f.sup.batMeas = true ∧ t.f.sup.vbatMv = BitVec.ofNat 12 v ∧
      t.f.bit sbBatlow = (if v < th ∨ s.f.sup.vbatOk = false then true else if th + 100 ≤ v then false else s.f.bit sbBatlow) ∧
      t.f = { s.f with
        sup := { s.f.sup with batMeas := true, vbatMv := t.f.sup.vbatMv, measAt := t.f.sup.measAt }, stat := t.f.stat } ∧
      t.h = s.h ∧ t.pending = s.pending)

/-- The learning window (R295, R297 to R300, R311): a half with fewer than 8 consistent marks aborts it; the first half's estimate is
kept for the second, which gathers from its first frame on; at its end the window is accepted or rejected by the difference of its
halves, an accepted one entering the increment of the frame that begins; at a frame 0 the next window opens where R295 lets it; a
summary is recorded once per 86 400 s with an accepted window. -/
def Obligations.LearningWindowRuns : Prop :=
  (∀ (s : State) (w : Learn), FieldUp s → s.f.rate.learn = some w → w.due = true → w.marks.length < 8 →
    ∃ t, exec .learningHalfEnd s = .next t ∧ OnlyField s t (Field.learnOpen { s.f with rate := { s.f.rate with
      learn := none, lrnAbt := satAdd s.f.rate.lrnAbt 1, sumAbt := s.f.rate.sumAbt + 1 } })) ∧
  (∀ (s : State) (w : Learn), FieldUp s → s.f.rate.learn = some w → w.due = true → 8 ≤ w.marks.length → w.half = 1 →
    ∃ t, exec .learningHalfEnd s = .next t ∧ OnlyField s t { s.f with rate := { s.f.rate with
      learn := some { w with
        half := 2, start := w.start + 16384, marks := [], rbSum := s.f.refs.rd + s.f.rate.rc + s.f.rate.trim, rbFrames := 1,
        y1 := some w.estimate, due := false } } }) ∧
  (∀ (s : State) (w : Learn) (y : Rat), FieldUp s → s.f.rate.learn = some w → w.due = true → 8 ≤ w.marks.length → w.half = 2 →
    w.y1 = some y → ratAbs (y - w.estimate) * 10000000000 ≤ 200 →
    ∃ t, exec .learningWindowClose s = .next t ∧ (∀ x, t.f.rate.learn = some x → x.half = 1 ∧ x.marks = [] ∧ x.due = false) ∧
      t.f.rate.lrnOk = satAdd s.f.rate.lrnOk 1 ∧ t.f.rate.rc = t.f.compNow ∧
      t.f.cal.dirty = true ∧ t.f.cal.applied = satAdd s.f.cal.applied 1 ∧ t.f.rate.lrnRej = s.f.rate.lrnRej ∧
      t.f = { s.f with
        rate := t.f.rate, cal := t.f.cal, ovl := t.f.ovl, refs := t.f.refs, freeCtr := s.f.freeCtr + 1,
        clk := { s.f.clk with incr := t.f.clk.incr, frameLen := t.f.clk.frameLen } } ∧ t.h = s.h) ∧
  (∀ (s : State) (w : Learn) (y : Rat), FieldUp s → s.f.rate.learn = some w → w.due = true → 8 ≤ w.marks.length → w.half = 2 →
    w.y1 = some y → 200 < ratAbs (y - w.estimate) * 10000000000 → s.f.cal.rejc[6]?.getD 0 ≠ 2 →
    ∃ t, exec .learningWindowClose s = .next t ∧ (∀ x, t.f.rate.learn = some x → x.half = 1 ∧ x.marks = [] ∧ x.due = false) ∧
      t.f.rate.lrnRej = satAdd s.f.rate.lrnRej 1 ∧
      t.f.cal.ws = s.f.cal.ws ∧ t.f.cal.rejected = satAdd s.f.cal.rejected 1 ∧ t.f.bit sbCalRej = true ∧
      t.f = { s.f with rate := t.f.rate, cal := t.f.cal, stat := t.f.stat } ∧ t.h = s.h) ∧
  (∀ s : State, FieldUp s → s.f.rate.sumStart + 86400 ≤ stampSec s.f.clk.stamp → s.f.rate.sumOk ≠ 0 →
    ∃ t, exec .learnedTableSummary s = .next t ∧ t.f.rate = { s.f.rate with
        sumStart := stampSec s.f.clk.stamp, sumOk := 0, sumRej := 0, sumAbt := 0, sumMax := 0, sumEntry := 0 } ∧
      t.f.jrn = (s.f.stage (recCal 5 s.f.clk.stamp [(11, 2, min s.f.rate.sumOk 0xFFFF), (13, 2, min s.f.rate.sumRej 0xFFFF),
        (15, 2, min s.f.rate.sumAbt 0xFFFF), (17, 1, s.f.rate.sumEntry), (18, 4, twos 4 s.f.rate.sumMax)])).jrn ∧
      t.f = { s.f with rate := t.f.rate, jrn := t.f.jrn } ∧ t.h = s.h)

/-! ### The field side: supplies and starts -/

/-- The tick source (R165, R166, R169, R184, R188): once its cycles are counted, the hand-over to the crystal with its BOOT record, and
`TICK` at once where a message was held; before, none; a crystal that has not started by start frame 128 with its TEST record; then
a restart of the oscillator every 64 frames, after which its cycles count anew (the first one 64 frames after the failure, the model's
choice, notes/assumptions/85.md). -/
def Obligations.CrystalStarts : Prop :=
  (∀ s : State, FieldUp s → s.f.start.rc = true → s.f.xtalRuns = true →
    ∃ t, exec .crystalHandover s = .next t ∧
      OnlyField s t (Field.sendTickMsg (Field.bootRec { s.f with start := { s.f.start with rc := false } } 4 s.f.clk.stamp))) ∧
  (∀ s : State, FieldUp s → s.f.start.rc = false ∨ s.f.xtalRuns = false →
    ∃ t, exec .crystalHandover s = .next t ∧ OnlyField s t s.f) ∧
  (∀ s : State, FieldUp s → s.f.start.rc = true → s.f.start.kind = .cold → s.f.start.xtalFail = false → 128 ≤ s.f.start.frames →
    ∃ t, exec .crystalStartFail s = .next t ∧
      OnlyField s t ((Field.setBit { s.f with start := { s.f.start with xtalFail := true, xtalNext := s.f.clk.fno + 64 } }
        sbTestFail).stage (recTest 1 9 0 s.f.clk.stamp 0 0))) ∧
  (∀ s : State, FieldUp s → s.f.start.rc = true → s.f.start.xtalFail = true → s.f.start.xtalNext ≤ s.f.clk.fno →
    ∃ t, exec .crystalRestart s = .next t ∧ OnlyField s t { s.f with start := { s.f.start with
      xtalFrom := s.f.clk.fno, xtalNext := s.f.clk.fno + 64 } })

/-- The fall of a source and what follows (R56, R61, R63 to R66): the path moves at once, the demotion is decided at the next tick,
and commits or is cancelled; a source that does not power the field side only loses its qualification. -/
def Obligations.SourcesFallAndDemote : Prop :=
  (∀ s : State, FieldUp s → s.f.sup.path = s.f.sup.sel → s.f.sup.sel ≠ .vbk →
    ∃ t, exec .sourceFall s = .next t ∧
      OnlyField s t { s.f with sup := { s.f.sup with pend := true, path := s.f.sup.bestBut s.f.sup.sel } }) ∧
  (∀ (s : State) (src : Source), FieldUp s → src ≠ .vbk → src ≠ s.f.sup.path → src ≠ s.f.sup.sel →
    ∃ t, exec (.standbySourceFall src) s = .next t ∧ OnlyField s t { s.f with sup := s.f.sup.putOk src false }) ∧
  (∀ (s : State) (k : Nat), FieldUp s → s.f.sup.pend = true →
    ∃ t, exec (.demotionDecide k true) s = .next t ∧ OnlyField s t { s.f.atTick k with sup := { s.f.sup with
      pend := false, path := s.f.sup.sel, swCancel := satAdd s.f.sup.swCancel 1,
      cancelsSince := min (s.f.sup.cancelsSince + 1) 0xFFFF } }) ∧
  (∀ (s : State) (k : Nat), FieldUp s → s.f.sup.pend = true → s.f.sup.path ≠ .vbk →
    ∃ t, exec (.demotionDecide k false) s = .next t ∧ t.f.sup.sel = s.f.sup.path ∧ t.f.sup.path = s.f.sup.path ∧
      t.f.sup.pend = false ∧ t.f.sup.swCommit = satAdd s.f.sup.swCommit 1 ∧ t.f.clk = s.f.clk ∧ t.f.refs = s.f.refs ∧
      t.f.start = s.f.start) ∧
  (∀ (s : State) (k : Nat), FieldUp s → s.f.sup.pend = true → s.f.sup.path = .vbk →
    ∃ t, exec (.demotionDecide k false) s = .next t ∧ t.f.sup.sel = .vbk ∧ t.f.sup.pend = false ∧ t.f.start.holdUp = true ∧
      t.f.bar.linked = false ∧ t.f.sched.plan = [] ∧ t.f.cal.act = none ∧
      t.f.sup.swCommit = satAdd s.f.sup.swCommit 1 ∧ t.f.clk = s.f.clk ∧ t.f.keep = s.f.keep)

/-- A source that has stayed above its rise threshold qualifies (R59, R67, R68, R78): it is promoted where it ranks higher, and ends
hold-up with a warm start. -/
def Obligations.SourcesQualify : Prop :=
  (∀ (s : State) (src : Source) (k mv vb : Nat), s.f.jobEv = [] → s.f.start.por = true → src ≠ .vbk →
    s.f.sup.aboveRise src mv vb = true →
    ∃ t, exec (.sourceQualify src k mv vb) s = .next t ∧ OnlyField s t { s.f.atTick k with sup := s.f.sup.putOk src true }) ∧
  (∀ (s : State) (src : Source) (k mv vb : Nat), FieldUp s → s.f.start.por = false → src ≠ .vbk → s.f.sup.pend = false →
    s.f.sup.aboveRise src mv vb = true → sourceCode src < sourceCode s.f.sup.sel →
    ∃ t, exec (.sourceQualify src k mv vb) s = .next t ∧ t.f.sup.sel = src ∧ t.f.sup.path = src ∧ t.f.sup.ok src = true ∧
      t.f.sup.swCommit = satAdd s.f.sup.swCommit 1 ∧ t.f.clk = s.f.clk ∧ t.f.refs = s.f.refs) ∧
  (∀ (s : State) (src : Source) (k mv vb : Nat), FieldUp s → s.f.start.por = false → src ≠ .vbk → s.f.sup.pend = false →
    s.f.sup.aboveRise src mv vb = true → sourceCode s.f.sup.sel ≤ sourceCode src →
    ∃ t, exec (.sourceQualify src k mv vb) s = .next t ∧ OnlyField s t { s.f.atTick k with sup := s.f.sup.putOk src true }) ∧
  (∀ (s : State) (src : Source) (k mv vb : Nat), s.f.start.alive = true → s.f.start.holdUp = true → s.f.start.por = false →
    src ≠ .vbk → s.f.sup.aboveRise src mv vb = true →
    ∃ t, exec (.sourceQualify src k mv vb) s = .next t ∧ t.f.start.holdUp = false ∧ t.f.start.kind = .warm ∧ t.f.start.s0 = true ∧
      t.f.start.restored = false ∧ t.f.start.mounted = false ∧ t.f.sup.sel = src ∧ t.f.sup.path = src ∧
      t.f.clk.stamp = s.f.clk.stamp ∧ t.f.tset.filled = false ∧ t.f.sup.swCommit = satAdd s.f.sup.swCommit 1)

/-- VBK below its threshold stops the field side (R77, R153); at the release of its power-on reset it starts cold, with the stamp,
the epoch offset, the kept fields and the KEEP bytes at their reset values, and stages BOOT 0x01 and EPOCH (R154, R163, R336). -/
def Obligations.ColdStartResets : Prop :=
  (∀ s : State, s.f.jobEv = [] → s.f.start.holdUp = true ∨ (s.f.start.alive = true ∧ s.f.sup.path = .vbk) →
    ∃ t, exec .vbkPor s = .next t ∧ t.f.start.alive = false ∧ t.f.start.holdUp = false ∧ t.f.start.por = true ∧
      t.f.sup.sel = .vbk ∧ t.f.wake.ponF = false ∧ t.f.bar.linked = false ∧ t.f.clk = s.f.clk) ∧
  (∀ s : State, s.f.start.por = true → s.f.sup.best ≠ .vbk → s.f.jrnRo = false →
    ∃ t, exec .fieldColdStart s = .next t ∧ t.h = s.h ∧ t.pending = s.pending ∧
      t.f.clk.stamp = 0#72 ∧ t.f.clk.eofs = 0#54 ∧ t.f.clk.epn = 0#16 ∧ t.f.clk.fno = 0 ∧
      t.f.stat.latched = 0x60#32 ∧ t.f.keep.bytes = Vector.replicate 64 0#8 ∧ t.f.refs.tref = .none ∧
      t.f.start.alive = true ∧ t.f.start.por = false ∧ t.f.start.rc = true ∧ t.f.sup.sel = s.f.sup.best ∧
      t.f.start.bootn = satAdd s.f.start.bootStored 1 ∧ t.f.pendW = [] ∧
      t.f.jrn.staging = [⟨recBoot 1 0#72 (satAdd s.f.start.bootStored 1) true true, [], 0⟩,
        ⟨recEpoch 0 0#72 0#16 0#16 0 0#54, [], 0⟩] ∧
      t.f.jrn.blocks = s.f.jrn.blocks ∧ t.f.cal.copyA = s.f.cal.copyA ∧ t.f.fuse = s.f.fuse)

/-! ### The field side: start, events, journal -/

/-- CAL_RESTORE_DONE (R171 to R176): the working set comes from copy A, else from copy B, which is then rewritten to copy A, else
from the fuses; the CAL record names the source and the copies that failed.
JOURNAL_MOUNT (R160, R163, R422, R423, R427, R429): from start frame 6 on the journal is mounted and the count of this start stored; a
cold start leaves no open block, and so does an urgent flush asked for before; a stored key with no copy that checks is no key, and
NVM_ERR sets; so it does for a wear map of which no log checks. Before start frame 6 nothing is mounted. -/
def Obligations.FieldStartCompletes : Prop :=
  ((∀ (s : State) (bOk : Bool) (img : List Byte), FieldUp s → s.f.start.s0 = false → s.f.start.restored = false →
    s.f.cal.copyA = some img →
    ∃ t, exec (.calRestoreDone true bOk) s = .next t ∧ t.f = { s.f with
        start := { s.f.start with restored := true, calSource := 1 }, cal := t.f.cal, rate := t.f.rate, jrn := t.f.jrn } ∧
      t.h = s.h ∧ t.f.cal.ws = wsOfImage img ∧ t.f.cal.aOk = true ∧ t.f.cal.bOk = (bOk && s.f.cal.copyB.isSome) ∧
      t.f.cal.csn = imgWord img 0xC ∧ t.f.cal.store = s.f.cal.store ∧
      t.f.jrn = (s.f.stage (recCal 1 s.f.clk.stamp
        [(11, 1, 1), (12, 1, 0), (13, 1, (!(bOk && s.f.cal.copyB.isSome)).toNat)])).jrn) ∧
  (∀ (s : State) (aOk : Bool) (img : List Byte), FieldUp s → s.f.start.s0 = false → s.f.start.restored = false →
    (aOk && s.f.cal.copyA.isSome) = false → s.f.cal.copyB = some img →
    ∃ t, exec (.calRestoreDone aOk true) s = .next t ∧ t.f = { s.f with
        start := { s.f.start with restored := true, calSource := 2 }, cal := t.f.cal, rate := t.f.rate, jrn := t.f.jrn,
        stat := (s.f.setBit sbNvmErr).stat } ∧
      t.h = s.h ∧ t.f.cal.ws = wsOfImage img ∧ t.f.cal.aOk = false ∧ t.f.cal.bOk = true ∧
      t.f.cal.store = some ⟨img, 0, true⟩ ∧
      t.f.jrn = (s.f.stage (recCal 1 s.f.clk.stamp [(11, 1, 2), (12, 1, 1), (13, 1, 0)])).jrn) ∧
  (∀ (s : State) (aOk bOk : Bool), FieldUp s → s.f.start.s0 = false → s.f.start.restored = false → (aOk && s.f.cal.copyA.isSome) = false →
    (bOk && s.f.cal.copyB.isSome) = false →
    ∃ t, exec (.calRestoreDone aOk bOk) s = .next t ∧ t.f = { s.f with
        start := { s.f.start with restored := true, calSource := 3 }, cal := t.f.cal, rate := t.f.rate, jrn := t.f.jrn,
        ev := { s.f.ev with laneCal := 0#4 }, stat := (s.f.setBit sbNvmErr).stat } ∧
      t.h = s.h ∧ t.f.cal = { s.f.cal with ws := s.f.fuse.ws, aOk := false, bOk := false } ∧
      t.f.jrn = (s.f.stage (recCal 1 s.f.clk.stamp [(11, 1, 3), (12, 1, 1), (13, 1, 1)])).jrn)) ∧
  (∀ (s : State) (mapOk aOk bOk : Bool), FieldUp s → s.f.start.wdog = false → s.f.start.mounted = false → s.f.start.s0 = false →
    6 ≤ s.f.start.frames →
    ∃ t, exec (.journalMount mapOk aOk bOk) s = .next t ∧
      t.f = { s.f with
        jrn := t.f.jrn, start := t.f.start, stat := t.f.stat, tst := t.f.tst, sched := t.f.sched, freeCtr := t.f.freeCtr } ∧
      t.h = s.h ∧ t.f.start = { s.f.start with mounted := true, bootStored := s.f.start.bootn } ∧
      t.f.jrn.key = s.f.jrn.key ∧
      t.f.jrn.keyBad = (s.f.jrn.key.isSome && !aOk && !bOk) ∧
      t.f.jrn.kcv = (match s.f.jrn.key with
        | some k => if aOk || bOk then kcvOf k else 0#16
        | none => 0#16) ∧
      (mapOk = false ∨ t.f.jrn.keyBad = true → t.f.bit sbNvmErr = true) ∧
      (mapOk = true → t.f.jrn.keyBad = false → t.f.bit sbNvmErr = s.f.bit sbNvmErr) ∧
      (s.f.start.kind = .cold → s.f.jrn.staging = [] → s.f.jrn.abandoned = none → s.f.jrn.urgentDue = false →
        t.f.jrn.blocks = s.f.jrn.sealOpen.blocks) ∧
      (s.f.start.kind ≠ .cold → s.f.jrn.staging = [] → s.f.jrn.abandoned = none → s.f.jrn.urgentDue = true → s.f.jrnRo = false →
        t.f.jrn.blocks = s.f.jrn.sealOpen.blocks) ∧
      (s.f.start.kind ≠ .cold → s.f.jrn.staging = [] → s.f.jrn.abandoned = none → s.f.jrn.urgentDue = false →
        t.f.jrn.blocks = s.f.jrn.blocks)) ∧
  (∀ (s : State) (mapOk aOk bOk : Bool), FieldUp s → s.f.start.frames < 6 →
    ∃ t, exec (.journalMount mapOk aOk bOk) s = .next t ∧ OnlyField s t s.f)

/-- An edge at a pin (R353 to R359, R365): one at a disabled input, or before the tick at which an input takes its level, is not
captured; one that the filter hands on at once changes the level and, in a selected direction, is captured with the stamp of its
lane's first tick; FILT 2 to 4 begin a hold, and a return to the level ends it; at its tick a hold changes the level and its
capture goes on. -/
def Obligations.EdgesAreCaptured : Prop :=
  (∀ (s : State) (i : Fin 8) (up : Bool) (tick ps n1 : Nat) (mv : Bool), FieldUp s →
    evEnabled (s.f.evCfg i.val) = false ∨ (s.f.ev.arm.getLsbD i.val = true ∧ s.f.clk.ticks + tick < s.f.ev.armAt) →
    ∃ t, exec (.evEdge i up tick ps n1 mv) s = .next t ∧
      OnlyField s t { s.f.atTick tick with ev := { s.f.ev with raw := setBit8 s.f.ev.raw i.val up } }) ∧
  (∀ (s : State) (i : Fin 8) (up : Bool) (tick ps n1 : Nat) (mv : Bool), FieldUp s → evEnabled (s.f.evCfg i.val) = true →
    s.f.ev.arm.getLsbD i.val = false → evFilt (s.f.evCfg i.val) < 2 → edgeSelected (s.f.evCfg i.val) up = false →
    ∃ t, exec (.evEdge i up tick ps n1 mv) s = .next t ∧
      OnlyField s t { s.f.atTick tick with ev := { s.f.ev with
        raw := setBit8 s.f.ev.raw i.val up, level := setBit8 s.f.ev.level i.val up } }) ∧
  (∀ (s : State) (i : Fin 8) (up : Bool) (tick ps n1 : Nat) (mv : Bool), FieldUp s → evEnabled (s.f.evCfg i.val) = true →
    s.f.ev.arm.getLsbD i.val = false → evFilt (s.f.evCfg i.val) < 2 → edgeSelected (s.f.evCfg i.val) up = true →
    ∃ t c, exec (.evEdge i up tick ps n1 mv) s = .next t ∧ t.h = s.h ∧
      t.f = { s.f.atTick tick with ev := t.f.ev, tst := t.f.tst } ∧
      t.f.ev = { s.f.ev with
        raw := setBit8 s.f.ev.raw i.val up, level := setBit8 s.f.ev.level i.val up, caps := t.f.ev.caps,
        dead := t.f.ev.dead, hold := t.f.ev.hold } ∧
      t.f.ev.caps.length = s.f.ev.caps.length + 1 ∧ t.f.ev.caps.getLast? = some c ∧ c.input = i.val ∧ c.rising = up ∧
      c.t1 = s.f.clk.ticks + tick + 1 ∧ c.st1 = s.f.clk.atTick (tick + 1) ∧ c.n1 = n1 ∧
      (mv = true ∨ s.f.start.restored = false → c.coarse = true)) ∧
  (∀ (s : State) (i : Fin 8) (up : Bool) (tick ps n1 : Nat) (mv : Bool), FieldUp s → evEnabled (s.f.evCfg i.val) = true →
    s.f.ev.arm.getLsbD i.val = false → 2 ≤ evFilt (s.f.evCfg i.val) → s.f.ev.level.getLsbD i.val ≠ up →
    ∃ t h, exec (.evEdge i up tick ps n1 mv) s = .next t ∧ t.h = s.h ∧
      t.f = { s.f.atTick tick with ev := t.f.ev, tst := t.f.tst } ∧
      t.f.ev.level = s.f.ev.level ∧ t.f.ev.caps.length = s.f.ev.caps.length ∧ t.f.ev.queue = s.f.ev.queue ∧
      t.f.ev.hold[i.val]? = some (some h) ∧ h.level = up ∧
      h.due = s.f.clk.ticks + tick + holdTicks (evFilt (s.f.evCfg i.val)) ∧
      h.cap.isSome = edgeSelected (s.f.evCfg i.val) up) ∧
  (∀ (s : State) (i : Fin 8) (up : Bool) (tick ps n1 : Nat) (mv : Bool), FieldUp s → evEnabled (s.f.evCfg i.val) = true →
    s.f.ev.arm.getLsbD i.val = false → 2 ≤ evFilt (s.f.evCfg i.val) → s.f.ev.level.getLsbD i.val = up →
    ∃ t, exec (.evEdge i up tick ps n1 mv) s = .next t ∧ t.h = s.h ∧
      t.f = { s.f.atTick tick with ev := t.f.ev, tst := t.f.tst } ∧
      t.f.ev.raw = setBit8 s.f.ev.raw i.val up ∧ t.f.ev.level = s.f.ev.level ∧ t.f.ev.hold[i.val]? = some none ∧
      t.f.ev.caps.length = s.f.ev.caps.length ∧ t.f.ev.queue = s.f.ev.queue ∧
      (edgeSelected (s.f.evCfg i.val) up = false → t.f.tst = s.f.tst ∧ t.f.ev.dead = s.f.ev.dead)) ∧
  (∀ (s : State) (i : Fin 8) (tick : Nat) (h : FHold), FieldUp s → s.f.ev.hold[i.val]? = some (some h) →
    h.due ≤ s.f.clk.ticks + tick →
    ∃ t, exec (.filterHoldComplete i tick) s = .next t ∧
      OnlyField s t { s.f.atTick tick with ev := { s.f.ev with
        hold := s.f.ev.hold.setIfInBounds i.val none, level := setBit8 s.f.ev.level i.val h.level,
        caps := s.f.ev.caps ++ (h.cap.map fun c => { c with ready := max c.ready h.due }).toList } })

/-- EVENT_QUEUE (R363, R364, R372, R375 to R378): the capture that completed first, in stamp order among equals, becomes an entry of
the queue and, under `JRN`, an EVENT record; a full queue refuses it, counts it, and tells of the first refusal; a capture of
another input waits for its own row. -/
def Obligations.EventsAreQueued : Prop :=
  (∀ (s : State) (i : Fin 8) (tick n2 : Nat) (c : Cap) (e : EvEntry), FieldUp s →
    nextCap (s.f.clk.ticks + tick) s.f.ev.caps = some c → c.input = i.val →
    s.f.ev.queue.length < Config.eventQueueDepth →
    e = ⟨c.input, c.rising, c.coarse, c.rc, if c.coarse then c.st1 else s.f.fineStamp c n2⟩ →
    ∃ t, exec (.eventQueue i tick n2) s = .next t ∧ t.h = s.h ∧
      t.f = { s.f.atTick tick with ev := t.f.ev, jrn := t.f.jrn, tst := t.f.tst } ∧
      t.f.ev = { s.f.ev with
        caps := s.f.ev.caps.erase c, queue := s.f.ev.queue ++ [e],
        coarse := if c.coarse then satAdd s.f.ev.coarse 1 else s.f.ev.coarse,
        norec := if evJrn (s.f.evCfg c.input) && !s.f.roomFor 1 then satAdd s.f.ev.norec 1 else s.f.ev.norec } ∧
      t.f.jrn = if evJrn (s.f.evCfg c.input) then
          (s.f.stage (recEvent e.input e.rising e.coarse e.rc e.stamp (epochAt s.f.clk e.stamp).2 c.filt)).jrn
        else s.f.jrn) ∧
  (∀ (s : State) (i : Fin 8) (tick n2 : Nat) (c : Cap), FieldUp s →
    nextCap (s.f.clk.ticks + tick) s.f.ev.caps = some c → c.input = i.val →
    Config.eventQueueDepth ≤ s.f.ev.queue.length →
    ∃ t, exec (.eventQueue i tick n2) s = .next t ∧ t.h = s.h ∧ t.f.ev.queue = s.f.ev.queue ∧
      t.f.ev.lost = satAdd s.f.ev.lost 1 ∧ t.f.bit sbEvovf = true ∧
      t.f.ev.refused = (if s.f.bit sbEvovf then s.f.ev.refused + 1 else 1)) ∧
  (∀ (s : State) (i : Fin 8) (tick n2 : Nat), FieldUp s →
    (∀ c, nextCap (s.f.clk.ticks + tick) s.f.ev.caps = some c → c.input ≠ i.val) →
    ∃ t, exec (.eventQueue i tick n2) s = .next t ∧ OnlyField s t (s.f.atTick tick))

/-- Staging and flushing (R44, R162, R379, R418 to R420): the OVF record when staging has room again; the routine flush at 48 frames
and its priority at 60; a flush slice puts the staged records into the open block's next slots, and seals the block that it
fills. -/
def Obligations.StagedRecordsAreFlushed : Prop :=
  (∀ s : State, FieldUp s → s.f.start.mounted = true → 0 < s.f.jrn.refused → s.f.roomFor 1 = true →
    ∃ t, exec .stagingRoomReturn s = .next t ∧
      OnlyField s t (Field.stage { s.f with jrn := { s.f.jrn with refused := 0 } }
        (recOvf 4 s.f.clk.stamp s.f.jrn.refused s.f.jrn.refusedFirst 0))) ∧
  (∀ (s : State) (n : Nat), FieldUp s → s.f.start.mounted = true → s.f.jrnRo = false → s.f.stagedAge = some n → 48 ≤ n →
    s.f.flushPending = false →
    ∃ t, exec .flushRequest s = .next t ∧
      OnlyField s t { s.f with sched := { s.f.sched with arrived := s.f.sched.arrived ++ [⟨5, 200, .flush⟩] } }) ∧
  (∀ (s : State) (n : Nat), FieldUp s → s.f.stagedAge = some n → 60 ≤ n →
    ∃ t, exec .flushPriorityRaise s = .next t ∧
      OnlyField s t { s.f with sched := { s.f.sched with
        plan := s.f.sched.plan.map fun r => if r.kind = .flush then { r with prio := 1 } else r,
        deferred := s.f.sched.deferred.map fun r => if r.kind = .flush then { r with prio := 1 } else r,
        arrived := s.f.sched.arrived.map fun r => if r.kind = .flush then { r with prio := 1 } else r } }) ∧
  (∀ (s : State) (corr p n : Nat) (rest : List Req) (b : Blk), FieldUp s → s.f.start.wdog = false → s.f.start.mounted = true →
    s.f.jrnRo = false → s.f.sched.plan = ⟨p, n, .flush⟩ :: rest → noPeriod rest → s.f.jrn.abandoned = none → s.f.jrn.ovwPend = 0 →
    s.f.jrn.openBlk = some b → s.f.jrn.staging ≠ [] → b.used + s.f.jrn.stagedSlots ≤ 126 → corr < 2 →
    ∃ t b', exec (.flushSlice corr) s = .next t ∧ t.h = s.h ∧
      t.f = { s.f with sched := { s.f.sched with plan := rest }, jrn := t.f.jrn, tst := t.f.tst } ∧
      t.f.jrn = { s.f.jrn with staging := [], blocks := t.f.jrn.blocks } ∧ t.f.jrn.blk b.bsn = some b' ∧ b'.phys = b.phys ∧
      b'.closed = decide (b.used + s.f.jrn.stagedSlots = 126) ∧
      b'.slots.filter (fun e => decide (e.1 ≠ 127)) = b.slots.filter (fun e => decide (e.1 ≠ 127)) ++
        ((s.f.jrn.staging.map fun r => r.first :: r.more).flatten.zipIdx.map fun e => (b.used + 1 + e.2, e.1)) ∧
      ∀ x ∈ s.f.jrn.blocks, x.bsn ≠ b.bsn → x ∈ t.f.jrn.blocks)

/-- JOURNAL_SERVICE_SLICE (R430, R431, R442, R445): a `JREQ` is answered with the slots it names, as stored, and the worst of their
codes; an uncorrectable one sets NVM_ERR.
Scrub and erasure (R437 to R439, R443, R445, R447): a scrub slice goes on to the next sixteen slots, the last of a pass leaves
its rate of corrected bits; uncorrectable slots count and set NVM_ERR; WRAP_ERASE and ERASE_JOB_SLICE erase the oldest block that
has been exported and keep its seal as the anchor. -/
def Obligations.JournalIsServedAndCleared : Prop :=
  ((∀ (s : State) (p n : Nat) (w0 w1 : Word) (rest : List Req) (b : Blk) (ss : List Slot), FieldUp s → NoJobs s →
    s.f.start.wdog = false → s.f.sched.plan = ⟨p, n, .journal w0 w1⟩ :: rest → reqOp w0 = 1 → s.f.jrn.job = none →
    s.f.jrn.blk w1 = some b → ss = (List.range (reqCnt w0)).map (fun i => b.slot (reqSlot w0 + i)) →
    ∃ t, exec (.journalServiceSlice []) s = .next t ∧ t.h = s.h ∧
      t.f = { s.f with sched := { s.f.sched with plan := rest }, bar := t.f.bar, tst := t.f.tst } ∧
      t.f.bar = (s.f.send .jdat (jdatWords w0 w1 (if erasedSlot ∈ ss then 3 else 0) ss)).bar) ∧
  (∀ (s : State) (p n : Nat) (w0 w1 : Word) (rest : List Req) (b : Blk) (r : SlotRead), FieldUp s → NoJobs s →
    s.f.start.wdog = false → s.f.sched.plan = ⟨p, n, .journal w0 w1⟩ :: rest → reqOp w0 = 1 → s.f.jrn.job = none →
    s.f.jrn.blk w1 = some b → reqCnt w0 = 1 → r.pos = 0 → r.ecc = 2#2 →
    ∃ t, exec (.journalServiceSlice [r]) s = .next t ∧ t.h = s.h ∧ t.f.bit sbNvmErr = true ∧
      t.f.bar = (s.f.send .jdat (jdatWords w0 w1 2 [r.value])).bar) ∧
  (∀ (s : State) (p n : Nat) (w0 w1 : Word) (rest : List Req), FieldUp s → NoJobs s → s.f.start.wdog = false →
    s.f.sched.plan = ⟨p, n, .journal w0 w1⟩ :: rest → reqOp w0 = 2 → s.f.jrn.job = none →
    ∃ t, exec (.journalServiceSlice []) s = .next t ∧ t.h = s.h ∧
      t.f = { s.f with sched := { s.f.sched with plan := rest }, bar := t.f.bar, tst := t.f.tst } ∧
      t.f.bar = (s.f.send .jdat (jdatWords w0 w1 0 ((s.f.jrn.ring.drop w1.toNat).take (reqCnt w0)))).bar)) ∧
  ((∀ (s : State) (corr : List Nat), FieldUp s → s.f.scrubDue = true → s.f.laneFree 2 = true → s.f.jrn.scrubPos % 8 ≠ 7 →
    s.f.jrn.inUse (s.f.jrn.scrubPos / 8) = true → (∀ n ∈ corr, n < 2) →
    ∃ t, exec (.scrubSlice corr [] true) s = .next t ∧ t.h = s.h ∧
      t.f = { s.f with jrn := t.f.jrn, tst := t.f.tst, sched := { s.f.sched with lane := 2 } } ∧
      t.f.jrn = { s.f.jrn with
        scrubPos := s.f.jrn.scrubPos + 1, passBits := s.f.jrn.passBits + (corr.take 16).sum,
        scrubNext := if s.f.jrn.scrubPos = 0 then stampSec s.f.clk.stamp + 86400 else s.f.jrn.scrubNext }) ∧
  (∀ (s : State) (corr : List Nat), FieldUp s → s.f.scrubDue = true → s.f.laneFree 2 = true → s.f.jrn.scrubPos = 8191 →
    s.f.jrn.inUse 1023 = true → (∀ b ∈ s.f.jrn.blocks, b.phys ≠ 1023) → (∀ n ∈ corr, n < 2) →
    ∃ t, exec (.scrubSlice corr [] true) s = .next t ∧ t.h = s.h ∧
      t.f = { s.f with jrn := t.f.jrn, tst := t.f.tst, sched := { s.f.sched with lane := 2 } } ∧
      t.f.jrn = { s.f.jrn with
        scrubPos := 0, passBits := 0, scrubDone := stampSec s.f.clk.stamp,
        cbpk := BitVec.ofNat 16 (min 0xFFFF ((s.f.jrn.passBits + (corr.take 16).sum) * 8000 / 8192)) }) ∧
  (∀ (s : State) (i : Nat), FieldUp s → s.f.scrubDue = true → s.f.laneFree 2 = true →
    s.f.jrn.inUse (s.f.jrn.scrubPos / 8) = true → i < 16 →
    ∃ t, exec (.scrubSlice [] [i] true) s = .next t ∧ t.h = s.h ∧ t.f.bit sbNvmErr = true ∧
      t.f.jrn.uncorr = satAdd s.f.jrn.uncorr 1) ∧
  (∀ (s : State) (corr bad : List Nat) (ok : Bool), FieldUp s → s.f.scrubDue = false ∨ s.f.laneFree 2 = false →
    ∃ t, exec (.scrubSlice corr bad ok) s = .next t ∧ OnlyField s t s.f) ∧
  (∀ (s : State) (b : Blk), FieldUp s → s.f.planRuns = true → s.f.laneFree 3 = true → s.f.start.mounted = true →
    s.f.jrn.policy = true → s.f.jrn.roWorn = false → s.f.jrn.erased.length < 4 → s.f.erasable = some b →
    ∃ t, exec .wrapErase s = .next t ∧ t.h = s.h ∧ t.f.jrn.anchor = b.slot 127 ∧ s.f.jrn.blocks = b :: t.f.jrn.blocks ∧
      t.f.jrn.erased = s.f.jrn.erased ++ [b.phys] ∧ t.f.jrn.roFull = false) ∧
  (∀ (s : State) (b : Blk), FieldUp s → NoJobs s → s.f.laneFree 3 = true → s.f.jrn.eraseJob = true → s.f.jrn.roWorn = false →
    s.f.erasable = some b →
    ∃ t, exec .eraseJobSlice s = .next t ∧ t.h = s.h ∧ t.f.jrn.anchor = b.slot 127 ∧ s.f.jrn.blocks = b :: t.f.jrn.blocks ∧
      t.f.jrn.erased = s.f.jrn.erased ++ [b.phys] ∧ t.f.jrn.eraseJob = t.f.erasable.isSome) ∧
  (∀ s : State, FieldUp s → NoJobs s → s.f.laneFree 3 = true → s.f.jrn.eraseJob = true → s.f.jrn.roWorn = false →
    s.f.erasable = none →
    ∃ t, exec .eraseJobSlice s = .next t ∧ OnlyField s t { s.f with jrn := { s.f.jrn with eraseJob := false } }))

/-! ### The field side: temperature, calibration, test, commands -/

/-- Conversions (R83, R387, R388, R390, R394 to R396): the coin-cell plan requests its channels; a waiting conversion takes core 0
where both are free; its pads are checked; a core whose latch is still taken waits again and counts; two frames later the result
is latched with the boundary's stamp; its completion slice makes it the channel's latest result. -/
def Obligations.ConversionsRun : Prop :=
  (∀ s : State, FieldUp s → s.f.sup.sel = .vbat → bitOf s.f.sup.cfg 12 = true → fieldOf s.f.sup.cfg 16 16 ≠ 0 →
    stampSec s.f.clk.stamp % fieldOf s.f.sup.cfg 16 16 = 0 → stampFrames s.f.clk.stamp % 64 = 0 → batChans s.f ≠ [] →
    ∃ t, exec .batplanDue s = .next t ∧ OnlyField s t { s.f with temp := { s.f.temp with
      waiting := s.f.temp.waiting ++ (batChans s.f).map fun n => ⟨n, .bat, s.f.clk.fno, s.f.clk.fno⟩,
      sets := s.f.temp.sets ++
        [⟨.bat, s.f.clk.fno, s.f.clk.fno, s.f.clk.stamp, s.f.clk.epn, (batChans s.f).map fun n => ⟨n, none⟩⟩] } }) ∧
  (∀ s : State, FieldUp s → s.f.sup.sel ≠ .vbat → ∃ t, exec .batplanDue s = .next t ∧ OnlyField s t s.f) ∧
  (∀ (s : State) (w : Wait), FieldUp s → 8 ≤ s.f.start.frames → s.f.startsBlocked = false → s.f.idleOnVbat = false →
    s.f.contChannel = none → s.f.temp.core = #v[none, none] → s.f.temp.waiting = [w] → w.ripe s.f.clk.fno = true → s.f.probeType w.ch ≠ 0 →
    ∃ t, exec .conversionStart s = .next t ∧ t.h = s.h ∧ t.f = { s.f with
      temp := { s.f.temp with core := #v[some ⟨w, s.f.clk.fno, true, false, none⟩, none], waiting := [] }, tst := t.f.tst }) ∧
  (∀ (s : State) (c : Fin 2) (ok : Bool) (v : Conv), FieldUp s → s.f.temp.core[c.val]? = some (some v) →
    ∃ t, exec (.continuityCheck c ok) s = .next t ∧ OnlyField s t { s.f with temp := { s.f.temp with
      core := s.f.temp.core.setIfInBounds c.val (some { v with padsOk := v.padsOk && ok }) } }) ∧
  (∀ (s : State) (c : Fin 2) (v : Conv) (l : Latch), FieldUp s → s.f.temp.core[c.val]? = some (some v) →
    s.f.temp.latch[c.val]? = some (some l) → v.start = s.f.clk.fno →
    ∃ t, exec (.conversionLatchBusy c) s = .next t ∧ OnlyField s t { s.f with temp := { s.f.temp with
      core := s.f.temp.core.setIfInBounds c.val none, waiting := v.req :: s.f.temp.waiting,
      slip := satAdd s.f.temp.slip 1 } }) ∧
  (∀ (s : State) (c : Fin 2) (r : Nat) (ok : Bool) (v : Conv), FieldUp s → s.f.temp.core[c.val]? = some (some v) →
    s.f.temp.latch[c.val]? = some none → v.start + 2 ≤ s.f.clk.fno →
    ∃ t, exec (.conversionEnd c r ok) s = .next t ∧ OnlyField s t { s.f with temp := { s.f.temp with
      core := s.f.temp.core.setIfInBounds c.val none,
      latch := s.f.temp.latch.setIfInBounds c.val (some ⟨v.req, s.f.clk.fno, s.f.clk.stamp, r, v.padsOk && ok, v.cont,
        v.params.getD (s.f.temp.params v.req.ch)⟩) } }) ∧
  (∀ (s : State) (c : Fin 2) (l : Latch) (v : Word) (open' short : Bool) (p k : Nat) (rest : List Req), FieldUp s →
    s.f.start.wdog = false → s.f.temp.latch[c.val]? = some (some l) →
    s.f.sched.plan = ⟨p, k, .completion c.val⟩ :: rest → noPeriod rest → l.req.ch < 4 →
    linearise l.params l.milliOhm l.padsOk s.f.free = (v, open', short) →
    ∃ t, exec (.conversionCompletion c) s = .next t ∧ t.h = s.h ∧
      t.f = { s.f with
        sched := { s.f.sched with plan := rest }, temp := t.f.temp, per := t.f.per, jrn := t.f.jrn, tst := t.f.tst,
        freeCtr := s.f.freeCtr + 1 } ∧
      t.f.temp.latest = s.f.temp.latest.setIfInBounds l.req.ch
        (some ⟨v, l.sample, false, open', short, decide (l.req.kind = .bat)⟩) ∧
      t.f.temp.latch = s.f.temp.latch.setIfInBounds c.val none ∧ t.f.temp.core = s.f.temp.core) ∧
  (∀ (p : Params) (r : Nat) (x : BitVec 32), linearise p r false x = (0x80000000#32, true, false))

/-- The background calibrations (R453, R466 to R470, R479): the due item of the lowest code and lane starts; each frame runs one
slice, and a run's last slice holds its result; an ADC calibration is booked, measured in its frame and computed after it. -/
def Obligations.CalibrationsRun : Prop :=
  (∀ (s : State) (it : CalItem) (lane : Fin 4), FieldUp s → NoJobs s → s.f.cal.act = none → 8 ≤ s.f.start.frames →
    s.f.nextDue = some (it, lane.val) →
    ∃ t, exec (.calItemDue it lane) s = .next t ∧
      OnlyField s t { s.f with cal := { s.f.cal with act := some ⟨it, lane.val, false, 0, none, none⟩ } }) ∧
  (∀ (s : State) (lane : Fin 4), FieldUp s → NoJobs s → s.f.cal.adc = none → 8 ≤ s.f.start.frames → s.f.calAllowed .adc = true →
    s.f.sup.sel ≠ .vbat → s.f.cal.asked.getLsbD 4 = true →
    ∃ t, exec (.calItemDue .adc lane) s = .next t ∧
      OnlyField s t { s.f with cal := { s.f.cal with adc := some ⟨s.f.clk.fno + s.f.bookMain, none, false⟩ } }) ∧
  (∀ (s : State) (m : CalMeas) (a : CalAct), FieldUp s → s.f.start.wdog = false → s.f.sched.lane = 0 →
    s.f.adcComputeDue = false → s.f.cal.act = some a → s.f.cal.sliceUsed = false → a.res2 = none → s.f.calAllowed a.item = true →
    ∃ t, exec (.calSlice m) s = .next t ∧ t.h = s.h ∧ t.f = { s.f with
      cal := { s.f.cal with
        sliceUsed := true, sliceLane := if a.item = .tdc then some a.lane else none,
        act := some (if a.slices + 1 < runSlices a.item then { a with slices := a.slices + 1 }
          else if a.run2 then { a with slices := a.slices + 1, res2 := some m }
          else { a with slices := 0, run2 := true, run1 := some m }) },
      sched := { s.f.sched with lane := 1 }, tst := t.f.tst }) ∧
  (∀ (s : State) (a b c d : AdcRun) (x : AdcAct), FieldUp s → s.f.cal.adc = some x → x.fc = s.f.clk.fno → x.runs = none →
    ∃ t, exec (.adcCalFrame a b c d) s = .next t ∧ t.h = s.h ∧ t.f = { s.f with
      cal := { s.f.cal with adc := some { x with runs := some (a, b, c, d) } }, tst := t.f.tst }) ∧
  (∀ (s : State) (x : AdcAct), FieldUp s → s.f.cal.adc = some x → x.fc < s.f.clk.fno → x.runs.isSome = true →
    x.computed = false → s.f.start.wdog = false → s.f.sched.lane = 0 → s.f.cal.sliceUsed = false →
    ∃ t, exec .adcCalCompute s = .next t ∧ t.h = s.h ∧ t.f = { s.f with
      cal := { s.f.cal with adc := some { x with computed := true }, sliceUsed := true },
      sched := { s.f.sched with lane := 1 }, tst := t.f.tst })

/-- Stores in system blocks (R489 to R492, R600, R697): the store of a dirty working set starts on a main; its fifth slice writes
copy A and its tenth copy B; a copy that does not read back right is no copy; KEEP goes to S10 and then S11 under one count; the
overlay goes to S2 and, read back right, to S3. -/
def Obligations.CopiesAreStored : Prop :=
  (∀ s : State, FieldUp s → s.f.start.restored = true → s.f.sup.sel = .vfld ∨ s.f.sup.sel = .iso → s.f.cal.dirty = true →
    s.f.cal.storeReq = true → s.f.cal.lastStore = none → s.f.cal.store = none →
    ∃ t, exec .calStoreDue s = .next t ∧ OnlyField s t { s.f with cal := { s.f.cal with
      storeReq := false, csn := s.f.cal.csn + 1, lastStore := some (stampSec s.f.clk.stamp),
      store := some ⟨calImage s.f.cal.ws s.f.uid (s.f.cal.csn + 1) (stampSec s.f.clk.stamp), 0, false⟩ } }) ∧
  (∀ (s : State) (st : CalStore), FieldUp s → s.f.planRuns = true → s.f.laneFree 3 = true → s.f.cal.store = some st →
    s.f.jrn.sysBad = [] → st.slices = 4 → st.aOnly = false →
    ∃ t, exec (.calStoreSlice true) s = .next t ∧ t.h = s.h ∧ t.f = { s.f with
      cal := { s.f.cal with copyA := some st.image, aOk := true, store := some { st with slices := 5 } },
      sched := { s.f.sched with lane := 3 }, tst := t.f.tst }) ∧
  (∀ (s : State) (st : CalStore), FieldUp s → s.f.planRuns = true → s.f.laneFree 3 = true → s.f.cal.store = some st →
    s.f.jrn.sysBad = [] → st.slices = 9 →
    ∃ t, exec (.calStoreSlice true) s = .next t ∧ t.h = s.h ∧ t.f = { s.f with
      cal := { s.f.cal with
        copyB := some st.image, bOk := true, store := none, dirty := decide (s.f.cal.ws ≠ wsOfImage st.image) },
      sched := { s.f.sched with lane := 3 }, tst := t.f.tst }) ∧
  (∀ (s : State) (st : CalStore), FieldUp s → s.f.planRuns = true → s.f.laneFree 3 = true → s.f.cal.store = some st →
    s.f.jrn.sysBad = [] → st.slices = 9 →
    ∃ t, exec (.calStoreSlice false) s = .next t ∧ t.h = s.h ∧ t.f = { s.f with
      cal := { s.f.cal with bOk := false, store := none }, sched := { s.f.sched with lane := 3 }, tst := t.f.tst }) ∧
  (∀ (s : State) (bs : List Byte), FieldUp s → s.f.laneFree 3 = true → s.f.jrn.mirrorSave = some (bs, 0) → s.f.jrn.sysBad = [] →
    ∃ t, exec .keepSaveSlice s = .next t ∧ t.h = s.h ∧ t.f = { s.f with
      jrn := { s.f.jrn with
        mirrorA := some (s.f.jrn.mirrorCount, bs), mirrorSave := some (bs, s.f.jrn.mirrorCount + 1) },
      sched := { s.f.sched with lane := 3 }, tst := t.f.tst }) ∧
  (∀ (s : State) (bs : List Byte) (n : Nat), FieldUp s → s.f.laneFree 3 = true →
    s.f.jrn.mirrorSave = some (bs, n + 1) → s.f.jrn.sysBad = [] →
    ∃ t, exec .keepSaveSlice s = .next t ∧ t.h = s.h ∧ t.f = { s.f with
      jrn := { s.f.jrn with mirrorB := some (n, bs), mirrorSave := none }, sched := { s.f.sched with lane := 3 },
      tst := t.f.tst }) ∧
  (∀ s : State, FieldUp s → s.f.laneFree 3 = true → s.f.sup.sel = .vfld ∨ s.f.sup.sel = .iso → s.f.start.mounted = true →
    s.f.ovl.last = none → s.f.ovl.s2 ≠ some s.f.limits → s.f.jrn.sysBad = [] →
    (∃ t, exec (.overlayRewrite true) s = .next t ∧ t.h = s.h ∧ t.f = { s.f with
      ovl := { s.f.ovl with
        s2 := some s.f.limits, s3 := some s.f.limits, last := some (stampSec s.f.clk.stamp) },
      sched := { s.f.sched with lane := 3 }, tst := t.f.tst }) ∧
    ∃ t, exec (.overlayRewrite false) s = .next t ∧ t.h = s.h ∧ t.f.bit sbNvmErr = true ∧ t.f.ovl.s2 = none ∧
      t.f.ovl.s3 = s.f.ovl.s3)

/-- A rotation's slice (R48, R506 to R513, R525, R35), in slack that holds its length: a slice that passes goes on to the next and starts
the pace anew; one that fails sets TEST_FAIL, counts and leaves its code and index; one not applicable leaves the pace; one that
does not fit does not start; the last of a side ends a rotation. A telemetry slice, last in the background lane, moves the new counts
into the kept ones. -/
def Obligations.TestSlicesRotate : Prop :=
  (∀ (s : State) (m l : Int), FieldUp s → s.f.start.wdog = false → s.f.sched.plan = [] → s.f.sup.sel = .vfld ∨ s.f.sup.sel = .iso →
    s.f.tst.job = none → bitOf s.f.tst.rot.cfg 0 = true → fieldOf s.f.tst.rot.cfg 16 16 ≤ s.f.tst.rot.since →
    (∃ t, exec (.testSlice .field false true m l) s = .next t ∧ t.h = s.h ∧ t.f.tst.rot.since = s.f.tst.rot.since ∧
      t.f.tst.rot.fails = s.f.tst.rot.fails ∧ t.f.stat = s.f.stat ∧ t.f.jrn = s.f.jrn ∧ t.f.sched = s.f.sched ∧
      t.f.tst.rot.done = (if s.f.tst.rot.done < 29 then s.f.tst.rot.done + 1 else 0) ∧
      t.f.tst.rot.rot = (if s.f.tst.rot.done < 29 then s.f.tst.rot.rot else satAdd s.f.tst.rot.rot 1)) ∧
    (s.f.tst.rot.done = 0 → 17 + s.f.sched.used + s.f.sched.slack + 16 + 50 ≤ s.f.clk.frameLen →
      (∃ t, exec (.testSlice .field true true m l) s = .next t ∧ t.h = s.h ∧
        t.f = { s.f with tst := t.f.tst, sched := { s.f.sched with slack := s.f.sched.slack + 16 } } ∧
        t.f.tst.rot = { s.f.tst.rot with done := 1, since := 0, failed := s.f.tst.rot.failed.filter (· ≠ 0) }) ∧
      ∃ t, exec (.testSlice .field true false m l) s = .next t ∧ t.h = s.h ∧
        t.f.bit sbTestFail = true ∧ t.f.tst.rot.fails = satAdd s.f.tst.rot.fails 1 ∧ t.f.tst.rot.lastCode = 1#8 ∧
        t.f.tst.rot.lastIdx = 0#8 ∧ t.f.tst.rot.done = 1 ∧ 0 ∈ t.f.tst.rot.failed ∧
        t.f.sched.slack = s.f.sched.slack + 16 ∧
        t.f.jrn = if 0 ∈ s.f.tst.rot.failed then s.f.jrn else (s.f.stage (recTest 1 1 0 s.f.clk.stamp m l)).jrn) ∧
    (s.f.tst.rot.done = 0 → s.f.clk.frameLen < 17 + s.f.sched.used + s.f.sched.slack + 16 + 50 → ∀ pass : Bool,
      ∃ t, exec (.testSlice .field true pass m l) s = .next t ∧ OnlyField s t s.f)) ∧
  (∀ (s : State) (m l : Int), s.h.run = true → s.h.testJobs = [] → bitOf s.h.rot.cfg 0 = true → s.h.awake = true →
    fieldOf s.h.rot.cfg 16 16 ≤ s.h.rot.since → s.h.rot.done = 1 → s.h.radio.st = .sleep →
    (∃ t, exec (.testSlice .host true true m l) s = .next t ∧ OnlyHost s t { s.h with rot := { s.h.rot with
        done := 2, since := 0, failed := s.h.rot.failed.filter (· ≠ 1) } }) ∧
    ∃ t, exec (.testSlice .host true false m l) s = .next t ∧ t.f = s.f ∧ t.h.rot.fails = satAdd s.h.rot.fails 1 ∧
      t.h.rot.lastCode = 0x11#8 ∧ t.h.rot.lastIdx = 0#8 ∧ bitOf t.h.latched sbTestFail = true) ∧
  (∀ s : State, FieldUp s → s.f.laneFree 4 = true →
    ∃ t, exec .telemetrySlice s = .next t ∧ t.h = s.h ∧
      t.f = { s.f with tst := t.f.tst, sched := { s.f.sched with lane := 4 } } ∧
      t.f.tst.domNew = Vector.replicate 92 0 ∧ t.f.tst.rot = s.f.tst.rot ∧
      ∀ i : Fin 92, t.f.tst.domOn[i] = BitVec.ofNat 32 (min (s.f.tst.domOn[i].toNat + s.f.tst.domNew[i]) 0xFFFFFFFF)) ∧
  (∀ s : State, FieldUp s → s.f.laneFree 4 = false → ∃ t, exec .telemetrySlice s = .next t ∧ OnlyField s t s.f)

/-- FIELD_COMMAND_SLICE (R39, R557, R582): the planned field command executes and its `RSPX` is sent with its result; one that the
state does not permit answers its error and changes nothing. -/
def Obligations.FieldCommandsExecute : Prop :=
  (∀ (s : State) (p n : Nat) (q : BitVec 4) (c : FieldCmd) (rest : List Req) (g : Field) (ws : List Word), FieldUp s →
    s.f.start.wdog = false → s.f.sched.plan = ⟨p, n, .command q c⟩ :: rest → noPeriod rest →
    commandTaken (s.f.planLeft rest) c = some (g, ws) →
    ∃ t, exec .fieldCommandSlice s = .next t ∧ OnlyField s t (g.send .rspx (rspxWord (cmdKind c) ws.length 0 q :: ws))) ∧
  (∀ (s : State) (p n : Nat) (q : BitVec 4) (k : Nat) (rest : List Req), FieldUp s → s.f.start.wdog = false →
    s.f.sched.plan = ⟨p, n, .command q (.evq k)⟩ :: rest → noPeriod rest → 1 ≤ k → k ≤ 32 →
    ∃ t, exec .fieldCommandSlice s = .next t ∧
      OnlyField s t ((evtSends k s.f.ev.queue).foldl (fun g ws => g.send .evt ws)
        ((s.f.planLeft rest).send .rspx [rspxWord 0 1 0 q, BitVec.ofNat 32 (min k s.f.ev.queue.length)]))) ∧
  (∀ (s : State) (p n : Nat) (q : BitVec 4) (rest : List Req), FieldUp s → s.f.start.wdog = false →
    s.f.sched.plan = ⟨p, n, .command q .tripClose⟩ :: rest → noPeriod rest → s.f.per.trip = none →
    ∃ t, exec .fieldCommandSlice s = .next t ∧
      OnlyField s t ((s.f.planLeft rest).send .rspx [rspxWord 4 0 22 q])) ∧
  (∀ (s : State) (r : Req) (rest : List Req), FieldUp s → s.f.sched.plan = r :: rest → r.kind.isCommand = false →
    ∃ t, exec .fieldCommandSlice s = .next t ∧ OnlyField s t s.f)

/-! ### The barrier -/

/-- The host stream at the field side (R37, R71, R107, R113 to R115, R118, R168, R232): a mark is taken for evaluation, or refused
with reason 0x16 before the crystal runs or for a disabled reference; a register read is answered with its value, a write waits
for the commit; a field command and a journal request wait for the next frame's foreground; an offer is taken, and a `PWRA` tells of
it after the answer (R125). -/
def Obligations.HostStreamIsTaken : Prop :=
  (∀ (s : State) (q : BitVec 4) (w0 w1 w2 w3 w4 : Word), FieldReady s → s.f.bar.lastSeq ≠ some q →
    fieldOf w0 28 4 = 1 ∨ fieldOf w0 28 4 = 2 →
    (s.f.start.rc = false → bitOf s.f.refs.cfg (fieldOf w0 28 4 - 1) = true →
      ∃ t, exec (.markReceive q w0 w1 w2 w3 w4) s = .next t ∧ HostTxn s t .mark q { s.f with refs := { s.f.refs with
        marksNow := s.f.refs.marksNow ++ [markOf (if fieldOf w0 28 4 = 1 then .pps else .rf) w0 w1 w2 w3 w4] } } (ackOf .mark q)) ∧
    (s.f.start.rc = true ∨ bitOf s.f.refs.cfg (fieldOf w0 28 4 - 1) = false →
      ∃ t, exec (.markReceive q w0 w1 w2 w3 w4) s = .next t ∧ HostTxn s t .mark q s.f (nakOf .mark q 0x16))) ∧
  (∀ (s : State) (q : BitVec 4) (l : BitVec 2) (a : BitVec 16) (w : Word), FieldReady s → s.f.bar.lastSeq ≠ some q →
    (s.f.readChecks a.toNat).regValue s.f.clk a.toNat = some w →
    (∃ t, exec (.regrdReceive q l a false) s = .next t ∧
      HostTxn s t .regrd q (s.f.readChecks a.toNat) ⟨.regdat, q, [w], none⟩) ∧
    ∃ t, exec (.regrdReceive q l a true) s = .next t ∧
      t.f.bar.lane = s.f.bar.lane ++ [nakOf .regrd q 3, ⟨.regdat, q, [w], none⟩]) ∧
  (∀ (s : State) (q : BitVec 4) (l : BitVec 2) (a : BitVec 16) (w v : Word), FieldReady s → s.f.bar.lastSeq ≠ some q →
    0x1000 ≤ a.toNat → accepted a.toNat w = some v →
    (∃ t, exec (.regwrReceive q l a w false) s = .next t ∧
      HostTxn s t .regwr q { s.f with pendW := s.f.pendW ++ [.reg a.toNat v] } (ackOf .regwr q)) ∧
    ∃ t, exec (.regwrReceive q l a w true) s = .next t ∧
      t.f.bar.lane = s.f.bar.lane ++ [nakOf .regwr q 3, ackOf .regwr q]) ∧
  (∀ (s : State) (q : BitVec 4) (w0 : Word) (c : FieldCmd), FieldReady s → s.f.bar.lastSeq ≠ some q → s.f.sched.commands = 0 →
    ∃ t, exec (.cmdxReceive q w0 c) s = .next t ∧ HostTxn s t .cmdx q { s.f with sched := { s.f.sched with
      arrived := s.f.sched.arrived ++ [⟨3, 64, .command q c⟩] } } (ackOf .cmdx q)) ∧
  (∀ (s : State) (q : BitVec 4) (w0 w1 : Word), FieldReady s → s.f.bar.lastSeq ≠ some q →
    (s.f.jrn.reqBad w0 w1 = false →
      ∃ t, exec (.jreqReceive q w0 w1) s = .next t ∧ HostTxn s t .jreq q { s.f with sched := { s.f.sched with
        arrived := s.f.sched.arrived ++ [⟨6, 64, .journal w0 w1⟩] } } (ackOf .jreq q)) ∧
    (s.f.jrn.reqBad w0 w1 = true →
      ∃ t, exec (.jreqReceive q w0 w1) s = .next t ∧ HostTxn s t .jreq q s.f (nakOf .jreq q 0x14))) ∧
  (∀ (s : State) (q : BitVec 4) (w0 : Word), FieldReady s → s.f.bar.lastSeq ≠ some q →
    ∃ t x, exec (.pwrqReceive q w0) s = .next t ∧ t.h = s.h.gone .pwrq q ∧ t.pending = s.pending ∧
      t.f = { s.f with
        freeCtr := s.f.freeCtr + 1, sup := { s.f.sup with isoOffer := bitOf w0 0 },
        bar := FBar.pump { s.f.bar with
          lastSeq := some q, lastAns := some (ackOf .pwrq q), lane := s.f.bar.lane ++ [ackOf .pwrq q],
          queue := if s.f.bar.linked then s.f.bar.queue ++ [⟨.pwra, 0#4, [x], none⟩] else s.f.bar.queue } } ∧
      fieldOf x 0 2 = sourceCode s.f.sup.sel ∧ bitOf x 2 = s.f.sup.isoOk ∧ fieldOf x 4 28 = 0)

/-- A transaction that arrives again is not executed again: it has the same answer and is counted (R113 to R115). Damaged messages
(R104, R105, R110, R130): one that fails its CRC is dropped and counted, but for an `IDLE`; a reserved type code and a transaction
that is not complete in time are answered `NAK` 0x01 and 0x02. -/
def Obligations.RepeatsAndDamageAreAnswered : Prop :=
  ((∀ (s : State) (q : BitVec 4) (w0 : Word) (c : FieldCmd) (a : Txn), FieldReady s → s.f.bar.lastSeq = some q →
    s.f.bar.lastAns = some a →
    ∃ t, exec (.cmdxReceive q w0 c) s = .next t ∧ t.h = s.h.gone .cmdx q ∧ t.f = { s.f with bar := { s.f.bar with
      dupF := satAdd s.f.bar.dupF 1, lane := s.f.bar.lane ++ [a] } }) ∧
  (∀ (s : State) (q : BitVec 4) (w0 w1 w2 w3 w4 : Word) (a : Txn), FieldReady s → s.f.bar.lastSeq = some q →
    s.f.bar.lastAns = some a →
    ∃ t, exec (.markReceive q w0 w1 w2 w3 w4) s = .next t ∧ t.h = s.h.gone .mark q ∧ t.f = { s.f with bar := { s.f.bar with
      dupF := satAdd s.f.bar.dupF 1, lane := s.f.bar.lane ++ [a] } }) ∧
  (∀ (s : State) (q : BitVec 4) (w0 w1 w2 : Word) (a : Txn), s.h.run = true → s.h.bar.lastSeq = some q →
    s.h.bar.lastAns = some a →
    ∃ t, exec (.evtReceive q w0 w1 w2) s = .next t ∧ t.f = s.f.took .evt q ∧
      t.h = HostSide.launch { s.h.msgDomains with bar := { s.h.bar with dupH := satAdd s.h.bar.dupH 1 } } a)) ∧
  ((∀ s : State, s.h.run = true →
    ∃ t, exec (.messageCrcFail .fh) s = .next t ∧ t.f = { s.f with bar := { s.f.bar with lane := s.f.bar.lane.drop 1 } } ∧
      t.h = { s.h.msgDomains with bar := { s.h.bar with crcFH := satAdd s.h.bar.crcFH 1, crcf := min (s.h.bar.crcf + 1) 255 } }) ∧
  (∀ s : State, FieldUp s →
    ∃ t, exec (.messageCrcFail .hf) s = .next t ∧
      t.h = { s.h.msgDomains with bar := { s.h.bar with lane := s.h.bar.lane.drop 1 } } ∧
      ((s.h.bar.lane.head?.map (·.ty)) ≠ some .idle →
        t.f = { s.f with bar := { s.f.bar with crcHF := satAdd s.f.bar.crcHF 1 } }) ∧
      ((s.h.bar.lane.head?.map (·.ty)) = some .idle → t.f = s.f)) ∧
  (∀ (s : State) (c q : BitVec 4), FieldReady s →
    ∃ t, exec (.reservedTypeReceive .hf c q) s = .next t ∧ t.h = s.h.msgDomains ∧ t.pending = s.pending ∧
      t.f = { s.f with bar := { s.f.bar with
        lane := s.f.bar.lane ++ [⟨.nak, q, [BitVec.ofNat 32 (c.toNat * 2 ^ 28 + 1)], none⟩] } }) ∧
  (∀ (s : State) (c q : BitVec 4), s.h.run = true →
    (∃ t, exec (.reservedTypeReceive .fh c q) s = .next t ∧
      OnlyHost s t (s.h.msgDomains.launch ⟨.nak, q, [BitVec.ofNat 32 (c.toNat * 2 ^ 28 + 1)], none⟩)) ∧
    ∃ t, exec (.transactionWordLate .fh c q) s = .next t ∧
      t.h = s.h.msgDomains.launch ⟨.nak, q, [BitVec.ofNat 32 (c.toNat * 2 ^ 28 + 2)], none⟩ ∧
      t.f = { s.f with bar := { s.f.bar with lane := t.f.bar.lane } }) ∧
  (∀ (s : State) (c q : BitVec 4), FieldReady s →
    ∃ t, exec (.transactionWordLate .hf c q) s = .next t ∧
      t.h = { s.h.msgDomains with bar := { s.h.bar with lane := t.h.bar.lane } } ∧
      t.f = { s.f with bar := { s.f.bar with
        lane := s.f.bar.lane ++ [⟨.nak, q, [BitVec.ofNat 32 (c.toNat * 2 ^ 28 + 2)], none⟩] } }))

/-- The field stream at the host side (R71, R331, R374, R405, R431, R557, R614, R620): each transaction is answered `ACK`; `STAT`
is the copy of the field word, `PWRA` the state of the supplies; an event, a sample or a result completes the line that waits for
it; `WAKE` drives PON_H, or holds the drive until its polarity is known, or releases it; `JDAT` is the next slot of its job. -/
def Obligations.FieldStreamIsTaken : Prop :=
  (∀ (s : State) (q : BitVec 4) (b : Word), s.h.run = true → s.h.bar.lastSeq ≠ some q →
    ∃ t, exec (.statReceive q b) s = .next t ∧
      FieldTxn s t .stat q (HostSide.masked s.h.msgDomains { s.h.msgDomains with fst := b &&& fieldMask })) ∧
  (∀ (s : State) (q : BitVec 4) (w : Word), s.h.run = true → s.h.bar.lastSeq ≠ some q →
    ∃ t, exec (.pwraReceive q w) s = .next t ∧ FieldTxn s t .pwra q { s.h.msgDomains with pwra := w.setWidth 4 }) ∧
  (∀ (s : State) (q : BitVec 4) (w0 w1 w2 : Word), s.h.run = true → s.h.bar.lastSeq ≠ some q → s.h.line.cur = none →
    ∃ t, exec (.evtReceive q w0 w1 w2) s = .next t ∧ FieldTxn s t .evt q s.h.msgDomains) ∧
  (∀ (s : State) (h : HostSide) (q : BitVec 4) (w0 w1 w2 : Word), s.h = h.lineWaits (.evts 1) → h.line.cur = none →
    h.run = true → h.bar.lastSeq ≠ some q →
    ∃ t, exec (.evtReceive q w0 w1 w2) s = .next t ∧
      FieldTxn s t .evt q (sent h.msgDomains (blockLines [evtLine w0 w1 w2]))) ∧
  (∀ (s : State) (h : HostSide) (q : BitVec 4) (w0 w1 w2 w3 : Word), s.h = h.lineWaits .samp → h.line.cur = none →
    h.run = true → h.bar.lastSeq ≠ some q →
    ∃ t, exec (.sampReceive q w0 w1 w2 w3) s = .next t ∧
      FieldTxn s t .samp q (sent h.msgDomains (valueLines (sampText w0 w1 w2 w3)))) ∧
  (∀ (s : State) (h : HostSide) (q k : BitVec 4) (n e : Nat) (w0 : Word), s.h = h.lineWaits (.field .snap k n) →
    h.line.cur = none → h.run = true → h.bar.lastSeq ≠ some q → fieldOf w0 24 8 = (Config.cmdxCode 2).toNat →
    fieldOf w0 0 4 = k.toNat → e = fieldOf w0 8 8 →
    ∃ t, exec (.rspxReceive q w0 []) s = .next t ∧
      FieldTxn s t .rspx q (sent h.msgDomains (if e = 0 then okLines else [errLine e none]))) ∧
  (∀ (s : State) (q : BitVec 4) (w0 : Word), s.h.run = true → s.h.bar.lastSeq ≠ some q → bitOf w0 26 = false →
    ∃ t, exec (.wakeReceive q w0) s = .next t ∧ FieldTxn s t .wake q { s.h.msgDomains with pon := { s.h.pon with
      on := if bitOf w0 27 then s.h.pon.on || s.h.pon.cfg.isSome else false,
      wait := bitOf w0 27 && !s.h.pon.cfg.isSome } }) ∧
  (∀ (s : State) (q : BitVec 4) (w0 : Word), s.h.run = true → s.h.bar.lastSeq ≠ some q → bitOf w0 26 = true →
    ∃ t, exec (.wakeReceive q w0) s = .next t ∧ t.f = s.f.took .wake q ∧ bitOf t.h.latched sbAttn = true ∧
      t.h.attnSrc = s.h.attnSrc ||| (if fieldOf w0 28 4 = 2 then 2#4 else 1#4) ∧
      (bitOf w0 27 = false → t.h.pon = s.h.pon)) ∧
  (∀ (s : State) (q : BitVec 4) (i : Nat) (j : Job) (w0 b : Word) (rest : List Word) (got : List Slot) (out : Option (Word × Word))
    (prev : Slot) (unc blk : Nat) (bad : Bool) (ws : List Word), s.h.run = true → s.h.bar.lastSeq ≠ some q → i < 4 →
    s.h.jobs[i]? = some j → j.live = true → j.kind = 1 → (∀ k, k < 4 → k ≠ i → (s.h.jobOf k).live = false) →
    reqOp w0 = 1 → ws.length = 8 → got.length < 127 → out = some (withField w0 0 18 0, b) →
    j.info = .journal (b :: rest) got 0 0 out prev unc blk bad →
    ∃ t, exec (.jdatReceive q w0 b ws) s = .next t ∧
      FieldTxn s t .jdat q { s.h.msgDomains with jobs := s.h.jobs.setIfInBounds i { j with
        st := 2, lines := j.lines ++ [slotLine b got.length (slotOfWords ws) (fieldOf w0 16 2)],
        info := .journal (b :: rest) (got ++ [slotOfWords ws]) 0 0 none prev
          (unc + if fieldOf w0 16 2 = 2 then 1 else 0) (blk + if fieldOf w0 16 2 = 2 then 1 else 0) bad } })

/-- Answers (R113, R116 to R118, R121, R237, R729): a register value goes where its read asked for it; an `ACK` ends its
transaction, takes the `EVT`'s entry from the queue, and completes a `TMARK`; the line that waits for a register read answers its
value, or the error its `NAK` names; a `NAK` of reasons 1 and 2 has the transaction sent
again, reason 3 has it wait, a command error ends it; a reason below 10 that Table 4-7 does not list does one of these, by a free
value (the model's choice, notes/assumptions/97.md). -/
def Obligations.AnswersEndTransactions : Prop :=
  (∀ (s : State) (q : BitVec 4) (v : Word) (u : Unans), s.h.run = true → s.h.bar.unans = some u → s.h.bar.queue = [] →
    s.h.line.cur = none → u.txn.seq = q → u.txn.ty = .regrd → u.txn.words = [0x122C#32] →
    ∃ t, exec (.regdatReceive q v) s = .next t ∧ t.f = s.f.took .regdat q ∧
      t.h = { s.h.msgDomains with
        bar := { s.h.bar with unans := none },
        pon := { s.h.pon with cfg := some v, on := s.h.pon.on || s.h.pon.wait, wait := false } }) ∧
  (∀ (s : State) (q : BitVec 4) (u : Unans), FieldUp s → s.f.bar.sendTick = true → s.f.bar.unans = some u →
    s.f.bar.queue = [] → u.txn.seq = q → u.txn.ty = .evt →
    ∃ t, exec (.ackReceive .hf q 7#4) s = .next t ∧ t.h = s.h.gone .ack q ∧
      t.f = { s.f with bar := { s.f.bar with unans := none }, ev := { s.f.ev with queue := s.f.ev.queue.drop 1 } }) ∧
  (∀ (s : State) (h : HostSide) (q : BitVec 4) (u : Unans), s.h = h.lineWaits .mark → h.line.cur = none → h.run = true →
    h.bar.unans = some u → h.bar.queue = [] → u.txn.seq = q → u.txn.ty = .mark →
    ∃ t, exec (.ackReceive .fh q 5#4) s = .next t ∧ t.f = s.f.took .ack q ∧
      t.h = sent { h.msgDomains with bar := { h.bar with unans := none } } okLines) ∧
  (∀ (s : State) (q y : BitVec 4) (r : Byte) (u : Unans), FieldUp s → s.f.bar.sendTick = true → s.f.bar.unans = some u →
    s.f.bar.queue = [] → u.txn.seq = q → typeCode u.txn.ty = y.toNat →
    (r = 1#8 ∨ r = 2#8 → u.retries < 3 → ∃ t, exec (.nakReceive .hf q y r) s = .next t ∧ t.h = s.h.gone .nak q ∧
      t.f = { s.f with bar := { s.f.bar with
        unans := some { u with retries := u.retries + 1, hold := false }, lane := s.f.bar.lane ++ [u.txn],
        retryF := satAdd s.f.bar.retryF 1 } }) ∧
    (r = 3#8 → ∃ t, exec (.nakReceive .hf q y r) s = .next t ∧ t.h = s.h.gone .nak q ∧
      t.f = { s.f with bar := { s.f.bar with unans := some { u with hold := true } } }) ∧
    (10 ≤ r.toNat → ∃ t, exec (.nakReceive .hf q y r) s = .next t ∧ t.h = s.h.gone .nak q ∧
      t.f = { s.f with
        bar := { s.f.bar with unans := none }, wake := if u.txn.ty = .wake then s.f.wake.answered else s.f.wake }) ∧
    (r = 0#8 ∨ (4 ≤ r.toNat ∧ r.toNat ≤ 9) → ∃ t, exec (.nakReceive .hf q y r) s = .next t ∧ t.h = s.h.gone .nak q ∧
      t.f = { s.f with bar := t.f.bar, wake := t.f.wake, freeCtr := s.f.freeCtr + 1 } ∧
      (t.f.bar.unans = none ∨ ∃ v, t.f.bar.unans = some v ∧ v.txn = u.txn))) ∧
  (∀ (s : State) (h : HostSide) (q k : BitVec 4) (n : Nat) (r : Byte) (u : Unans), s.h = h.lineWaits (.field .snap k n) →
    h.line.cur = none → h.run = true → h.bar.unans = some u → h.bar.queue = [] → u.txn.seq = q → u.txn.ty = .cmdx →
    u.txn.cmd = some .snap → 10 ≤ r.toNat →
    ∃ t, exec (.nakReceive .fh q 8#4 r) s = .next t ∧ t.f = s.f.took .nak q ∧
      t.h = sent { h.msgDomains with bar := { h.bar with unans := none } } [errLine r.toNat none]) ∧
  (∀ (s : State) (h : HostSide) (q : BitVec 4) (a : BitVec 16) (v : Word) (r : Byte) (u : Unans),
    s.h = h.lineAsks (.registerRead a 1) (.read a.toNat) → h.line.cur = none → h.run = true → h.bar.link = true →
    0x1000 ≤ a.toNat → s.mapped a.toNat = true → inSnapshot a.toNat = false → a.toNat ≠ 0x122C → h.bar.unans = some u →
    h.bar.queue = [] → u.txn = ⟨.regrd, q, [regWord 0 a.toNat], none⟩ →
    (∃ t, exec (.regdatReceive q v) s = .next t ∧ t.f = s.f.took .regdat q ∧
      t.h = sent { h.msgDomains with bar := { h.bar with unans := none } } (valueLines (hexText 8 v.toNat))) ∧
    (10 ≤ r.toNat → ∃ t, exec (.nakReceive .fh q 6#4 r) s = .next t ∧ t.f = s.f.took .nak q ∧
      t.h = sent { h.msgDomains with bar := { h.bar with unans := none } } [errLine r.toNat none]))

/-- Link messages (R130, R133, R135 to R138, R141, R145, R474): a `TICK` is answered with `ECHO`, and the mirror counter takes the
boundary it names while the host side is awake; one that names another frame clears `LINK`; the first one begins a training. An
`ECHO` gives the round trip; with `TRAIN` = 1 it begins a training on the field side, which one with `TRAIN` = 0 ends: the field
side is linked. `IDLE` is heard by a field side that sends no `TICK`; a `LOOP` comes back. -/
def Obligations.LinkMessagesAct : Prop :=
  (∀ (s : State) (q : BitVec 4) (ovr : BitVec 18) (dly : BitVec 14), s.h.run = true → s.h.bar.link = true →
    (s.h.bar.frames + 1) % 16 = q.toNat →
    ∃ t, exec (.tickReceive q ovr dly) s = .next t ∧ t.f = s.f.took .tick q ∧
      t.h = { s.h.msgDomains with bar := { s.h.bar with
        ticked := true, since := 0#8, frames := s.h.bar.frames + 1,
        mir := if s.h.awake then (s.h.bar.frames + 1) * 2 ^ 26 + ovr.toNat else s.h.bar.mir,
        mirTicks := if s.h.awake then min 3 (s.h.bar.mirTicks + 1) else 0, crcf := 0,
        lane := s.h.bar.lane ++ [⟨.echo, q, [BitVec.ofNat 32 (min s.h.bar.crcf 255)], none⟩] } }) ∧
  (∀ (s : State) (q : BitVec 4) (ovr : BitVec 18) (dly : BitVec 14), s.h.run = true → s.h.bar.link = true →
    (s.h.bar.frames + 1) % 16 ≠ q.toNat →
    ∃ t, exec (.tickReceive q ovr dly) s = .next t ∧ t.f = s.f.took .tick q ∧ t.h.bar.link = false ∧ t.h.bar.since = 0#8 ∧
      t.h.bar.unans = none ∧ t.h.bar.queue = [] ∧ t.h.fstLoss = s.h.fst) ∧
  (∀ (s : State) (q : BitVec 4) (ovr : BitVec 18) (dly : BitVec 14), s.h.run = true → s.h.bar.link = false →
    s.h.bar.train = none →
    ∃ t, exec (.tickReceive q ovr dly) s = .next t ∧ t.f = s.f.took .tick q ∧
      t.h = { s.h.msgDomains with bar := { s.h.bar with
        ticked := true, since := 0#8, train := some ⟨1, q, [], none, none, none⟩,
        mirTicks := min 3 (s.h.bar.mirTicks + 1), crcf := 0,
        lane := s.h.bar.lane ++ [⟨.echo, q, [BitVec.ofNat 32 (256 + min s.h.bar.crcf 255)], none⟩] } }) ∧
  (∀ (s : State) (q : BitVec 4) (c : Byte) (rtt : Nat), FieldUp s → s.f.bar.sendTick = true →
    ∃ t, exec (.echoReceive q false c rtt) s = .next t ∧ t.h = s.h.gone .echo q ∧
      t.f = if s.f.bar.linked then { s.f with bar := { s.f.bar with rtt := some rtt, echoMiss := 0 } }
        else Field.sendStat { s.f with bar := { s.f.bar with
          rtt := some rtt, echoMiss := 0, linked := true, training := false, lastSeq := none, lastAns := none, nextSeq := 0#4 } }) ∧
  (∀ (s : State) (q : BitVec 4) (c : Byte) (rtt : Nat), FieldUp s → NoJobs s → s.f.bar.sendTick = true →
    s.f.bar.training = false → s.f.cal.act = none → s.f.tst.job = none → s.f.wake.sent = [] → s.f.bar.fits 1 = true →
    ∃ t, exec (.echoReceive q true c rtt) s = .next t ∧ t.h = s.h.gone .echo q ∧ t.f.bar.linked = false ∧
      t.f.bar.training = true ∧ t.f.bar.rtt = some rtt ∧ t.f.bar.queue = [] ∧
      t.f.bar.unans = some ⟨⟨.stat, s.f.bar.nextSeq, [s.f.status], none⟩, 0, false, false⟩ ∧
      t.f.jrn = { s.f.jrn with job := none, eraseJob := false } ∧ t.f.stat.sent = s.f.status ∧ t.f.clk = s.f.clk) ∧
  (∀ s : State, FieldUp s →
    (∃ t, exec (.idleReceive .hf) s = .next t ∧ t.h = s.h.gone .idle 0#4 ∧
      t.f = if s.f.bar.sendTick then s.f else { s.f with start := { s.f.start with heldMsg := true } }) ∧
    ∃ t, exec (.idleReceive .fh) s = .next t ∧ t.h = (if s.h.run then s.h.msgDomains else s.h) ∧ t.f = s.f.took .idle 0#4) ∧
  (∀ (s : State) (k : BitVec 4) (p : BitVec 31), FieldReady s →
    ∃ t, exec (.loopReceive .hf k false p) s = .next t ∧ t.h = s.h.gone .loop k ∧
      t.f = { s.f with bar := { s.f.bar with
        lane := s.f.bar.lane ++ [⟨.loop, k, [0x80000000#32 ||| p.setWidth 32], none⟩] } }) ∧
  (∀ (s : State) (k : BitVec 4) (p : BitVec 31), s.h.run = true →
    (∃ t, exec (.loopReceive .fh k false p) s = .next t ∧ t.f = s.f.took .loop k ∧
      t.h = s.h.msgDomains.launch ⟨.loop, k, [0x80000000#32 ||| p.setWidth 32], none⟩) ∧
    ∃ t, exec (.loopReceive .fh k true p) s = .next t ∧ t.f = s.f.took .loop k ∧ t.h = s.h.msgDomains)

/-- The end of the link (R122, R140, R142, R464, R633): after 4 frames without a valid `TICK` the host side clears `LINK`, and what
waits for the field side is answered ERR 60; after 4 without a valid `ECHO` the field side is unlinked. -/
def Obligations.LinkEnds : Prop :=
  (∀ (s : State) (h : HostSide) (k : BitVec 4) (c : FieldCmd) (n : Nat), s.h = h.lineWaits (.field c k n) → h.line.cur = none →
    h.run = true → h.bar.link = true → 4 ≤ h.bar.since.toNat → NoJobs s → h.uart.mode ≠ .human → h.line.tx = [] →
    ∃ t, exec .linkLoss s = .next t ∧ t.f = s.f ∧ t.pending = s.pending ∧
      t.h = sent { h with
        fstLoss := h.fst, pwrqDue := false, pon := h.pon.linkClear,
        bar := { h.bar with
          link := false, linkLost := satAdd h.bar.linkLost 1, train := none, loss := some (h.bar.mir, h.hf - h.bar.since.toNat),
          unans := none, queue := [], lane := [] } } [errLine 60 none]) ∧
  (∀ s : State, s.h.run = true → s.h.bar.link = true → 4 ≤ s.h.bar.since.toNat →
    ∃ t, exec .linkLoss s = .next t ∧ t.f = s.f ∧ t.h.bar.link = false ∧ t.h.bar.linkLost = satAdd s.h.bar.linkLost 1 ∧
      t.h.fstLoss = s.h.fst ∧ t.h.bar.unans = none ∧ t.h.bar.queue = [] ∧ t.h.fst = s.h.fst) ∧
  (∀ s : State, FieldUp s → s.f.bar.sendTick = true → 4 ≤ s.f.bar.echoMiss → s.f.cal.act = none → s.f.wake.sent = [] →
    ∃ t, exec .fieldUnlink s = .next t ∧ t.f.wake.ponF = s.f.wake.ponF ∧ OnlyField s t { s.f with
      jrn := { s.f.jrn with job := none, eraseJob := false }, tst := { s.f.tst with job := none },
      sched := s.f.sched.noTests, wake := t.f.wake, start := { s.f.start with heldMsg := false },
      bar := { s.f.bar with
        linked := false, training := false, sendTick := false, echoMiss := 0, rtt := none, unans := none, queue := [],
        resendDue := false, lastSeq := none, nextSeq := 0#4 } })

/-- Timeouts (R116, R117, R119, R120, R581): a transaction without an answer is sent again, at most three times; then the command
that issued it, a register read of a line too, fails with ERR 61, and one of the field stream is sent again with the same `SEQ`
after the next `TICK`; a field command without its `RSPX` in 16 frames is answered ERR 61. -/
def Obligations.TimeoutsRetryThenFail : Prop :=
  (∀ (s : State) (u : Unans), s.h.run = true → s.h.bar.unans = some u → u.retries < 3 →
    (u.hold = false → ∃ t, exec (.answerTimeout .host) s = .next t ∧ OnlyHost s t { s.h with bar := { s.h.bar with
      unans := some { u with retries := u.retries + 1 }, lane := s.h.bar.lane ++ [u.txn],
      retryH := satAdd s.h.bar.retryH 1 } }) ∧
    (u.hold = true → ∃ t, exec (.holdWaitTimeout .host) s = .next t ∧ OnlyHost s t (HostSide.launch { s.h with bar := { s.h.bar with
      unans := some { u with retries := u.retries + 1, hold := false }, retryH := satAdd s.h.bar.retryH 1 } } u.txn))) ∧
  (∀ (s : State) (h : HostSide) (k : BitVec 4) (c : FieldCmd) (n : Nat) (u : Unans), s.h = h.lineWaits (.field c k n) →
    h.line.cur = none → h.run = true → h.bar.link = true → h.bar.unans = some u → h.bar.queue = [] → 3 ≤ u.retries →
    u.hold = false → u.txn.ty = .cmdx → u.txn.cmd = some c →
    ∃ t, exec (.answerTimeout .host) s = .next t ∧
      OnlyHost s t (sent { h with bar := { h.bar with unans := none } } [errLine 61 none])) ∧
  (∀ (s : State) (h : HostSide) (q : BitVec 4) (a : BitVec 16) (u : Unans),
    s.h = h.lineAsks (.registerRead a 1) (.read a.toNat) → h.line.cur = none → h.run = true → h.bar.link = true →
    0x1000 ≤ a.toNat → s.mapped a.toNat = true → inSnapshot a.toNat = false → h.bar.unans = some u → h.bar.queue = [] →
    u.txn = ⟨.regrd, q, [regWord 0 a.toNat], none⟩ → 3 ≤ u.retries → u.hold = false →
    ∃ t, exec (.answerTimeout .host) s = .next t ∧
      OnlyHost s t (sent { h with bar := { h.bar with unans := none } } [errLine 61 none])) ∧
  (∀ (s : State) (u : Unans), FieldUp s → s.f.bar.unans = some u → u.resend = false →
    (u.hold = false → u.retries < 3 → ∃ t, exec (.answerTimeout .field) s = .next t ∧
      OnlyField s t { s.f with bar := { s.f.bar with
        unans := some { u with retries := u.retries + 1 }, lane := s.f.bar.lane ++ [u.txn],
        retryF := satAdd s.f.bar.retryF 1 } }) ∧
    (u.hold = true → u.retries < 3 → ∃ t, exec (.holdWaitTimeout .field) s = .next t ∧
      OnlyField s t { s.f with bar := { s.f.bar with
        unans := some { u with retries := u.retries + 1, hold := false }, lane := s.f.bar.lane ++ [u.txn],
        retryF := satAdd s.f.bar.retryF 1 } }) ∧
    (u.hold = false → 3 ≤ u.retries → ∃ t, exec (.answerTimeout .field) s = .next t ∧
      OnlyField s t { s.f with bar := { s.f.bar with unans := some { u with resend := true } } })) ∧
  (∀ (s : State) (u : Unans), FieldUp s → s.f.bar.linked = true → s.f.bar.resendDue = true → s.f.bar.unans = some u →
    u.resend = true →
    ∃ t, exec .fieldStreamResend s = .next t ∧ OnlyField s t { s.f with bar := { s.f.bar with
      unans := some { u with retries := 0, resend := false }, lane := s.f.bar.lane ++ [u.txn], resendDue := false } }) ∧
  (∀ s : State, FieldUp s → s.f.bar.linked = false ∨ s.f.bar.resendDue = false →
    ∃ t, exec .fieldStreamResend s = .next t ∧ OnlyField s t s.f) ∧
  (∀ (s : State) (h : HostSide) (k : BitVec 4) (c : FieldCmd) (n : Nat), s.h = h.lineWaits (.field c k n) →
    h.line.cur = none → h.run = true → 16 ≤ n →
    ∃ t, exec .rspxTimeout s = .next t ∧ OnlyHost s t (sent h [errLine 61 none]))

/-! ### The host side: starts, power, UART -/

/-- Starts and supplies of the host side (R16, R22, R70, R72, R156 to R159, R178, R587): a start keeps nothing; NRST low for 1 µs
holds it in reset with its offer, and 100 ns do nothing; without VHOST it is off. The banner goes out once. A change of the offer is
told by `PWRQ`. What stands on the lane to a host side that stops is not heard. -/
def Obligations.HostStartsAndStops : Prop :=
  (∀ (s : State) (v : Bool), s.h.run = false ∨ s.h.line.resetDue = true →
    ∃ t, exec (.hostStart v) s = .next t ∧ t.pending = s.pending ∧ t.f = { s.f with bar := { s.f.bar with lane := [] } } ∧
      t.h = hostStarted (if s.h.power then s.h.vhostOk else v) s.h.freeCtr) ∧
  (∀ (s : State) (v : Bool), s.h.run = true → s.h.line.resetDue = false →
    ∃ t, exec (.hostStart v) s = .next t ∧ OnlyHost s t s.h) ∧
  (∀ (s : State) (ns : Nat), s.h.power = true → 1000 ≤ ns →
    ∃ t, exec (.nrstLow ns) s = .next t ∧ t.f = { s.f with bar := { s.f.bar with lane := [] } } ∧ t.h.run = false ∧
      t.h.nrst = true ∧ t.h.power = true ∧ t.h.offer = s.h.offer ∧ t.h.vhostOk = s.h.vhostOk ∧ t.h.latched = 0#32 ∧ t.h.uart.rxEn = false ∧
      t.h.radio = radioStart ∧ t.h.jobs = Vector.replicate 4 idleJob) ∧
  (∀ (s : State) (ns : Nat), ns < 100 → ∃ t, exec (.nrstLow ns) s = .next t ∧ OnlyHost s t s.h) ∧
  (∀ s : State, ∃ t, exec .hostPowerOff s = .next t ∧ t.f = { s.f with bar := { s.f.bar with lane := [] } } ∧
    t.h.run = false ∧ t.h.power = false ∧ t.h.offer = false ∧ t.h.latched = 0#32 ∧ t.h.uart.rxEn = false ∧ t.h.pon = ⟨none, false, false, false⟩ ∧
    t.h.radio = radioStart) ∧
  (∀ s : State, s.h.run = true → s.h.bannerDue = true →
    ∃ t, exec .banner s = .next t ∧ OnlyHost s t { s.h with
      bannerDue := false, uart := { s.h.uart with open' := true },
      line := { s.h.line with
        tx := s.h.line.tx ++ [⟨.banner, [txt "!RDY VT-7120 A1", txt "> "], TxAfter.none⟩] } }) ∧
  (∀ s : State, s.h.run = true → s.h.bar.link = true → s.h.pwrqDue = true ∨ 64 ≤ s.h.pwrqAge → s.h.bar.unans = none →
    s.h.bar.queue = [] →
    ∃ t x, exec .pwrqSend s = .next t ∧ x = ⟨.pwrq, s.h.bar.nextSeq, [if s.h.offer then 0x1E01#32 else 0#32], none⟩ ∧
      OnlyHost s t (HostSide.launch { s.h with
        pwrqDue := false, pwrqAge := 0,
        bar := { s.h.bar with unans := some ⟨x, 0, false, false⟩, nextSeq := s.h.bar.nextSeq + 1 } } x)) ∧
  (∀ s : State, ∃ t, exec .vhostFall s = .next t ∧ OnlyHost s t { s.h with
    vhostOk := false, offer := false, pwrqDue := s.h.pwrqDue || (s.h.bar.link && s.h.offer) }) ∧
  (∀ s : State, s.h.power = true → s.h.run = true → ∃ t, exec .vhostRise s = .next t ∧ OnlyHost s t { s.h with
    vhostOk := true, offer := true, pwrqDue := s.h.pwrqDue || (s.h.bar.link && !s.h.offer) })

/-- A received byte (R179, R534 to R536, R542): a printable character joins the line and is echoed in human mode; past 240 the
line is too long; a framing error, but for one while a break lasts (R575), or another control character makes the line bad; BS
takes the last character back in human mode; before the banner's end nothing is taken. A terminator ends the line (R536, R541,
R552, R553): an empty line does nothing but prompt; a line that passes the checks waits for its boundary, and keeps the new rate;
one with an error waits with it; the LF after a CR is no second end. -/
def Obligations.LinesAreReceived : Prop :=
  ((∀ (s : State) (b : Byte), Receiving s → 0x20 ≤ b.toNat → b.toNat ≤ 0x7E → s.h.uart.buf.length < 240 →
    ∃ t h, exec (.uartByteReceive b false) s = .next t ∧ h = { s.h.uartActive with uart := { s.h.uartActive.uart with
        lastCr := false, buf := s.h.uart.buf ++ [Char.ofNat b.toNat] } } ∧
      OnlyHost s t (if s.h.uart.mode = .human then h.adds .echo [[Char.ofNat b.toNat]] else h)) ∧
  (∀ (s : State) (b : Byte), Receiving s → 0x20 ≤ b.toNat → b.toNat ≤ 0x7E → 240 ≤ s.h.uart.buf.length →
    ∃ t, exec (.uartByteReceive b false) s = .next t ∧ OnlyHost s t { s.h.uartActive with uart := { s.h.uartActive.uart with
      lastCr := false, long := true } }) ∧
  (∀ (s : State) (b : Byte), Receiving s →
    ∃ t, exec (.uartByteReceive b true) s = .next t ∧ OnlyHost s t { s.h.uartActive with uart := { s.h.uartActive.uart with
      lastCr := false, bad := s.h.uart.bad || !s.h.uart.rxLow, frm := satAdd s.h.uart.frm 1 } }) ∧
  (∀ (s : State) (b : Byte), Receiving s → b.toNat < 0x20 ∨ 0x7F ≤ b.toNat → b ≠ 0x0D#8 → b ≠ 0x0A#8 → s.h.uart.mode ≠ .human →
    ∃ t, exec (.uartByteReceive b false) s = .next t ∧ OnlyHost s t { s.h.uartActive with uart := { s.h.uartActive.uart with
      lastCr := false, bad := true } }) ∧
  (∀ (s : State) (l : Text) (c : Char), Receiving s → s.h.uart.mode = .human → s.h.uart.buf = l ++ [c] →
    ∃ t, exec (.uartByteReceive 0x08#8 false) s = .next t ∧
      OnlyHost s t (HostSide.adds { s.h.uartActive with uart := { s.h.uartActive.uart with lastCr := false, buf := l } } .echo
        [[chBs, ' ', chBs]])) ∧
  (∀ (s : State) (b : Byte), s.h.run = true → s.h.uart.rxEn = true → s.h.uart.open' = false → b ≠ 0x0D#8 → b ≠ 0x0A#8 →
    ∃ t, exec (.uartByteReceive b false) s = .next t ∧ OnlyHost s t { s.h.uartActive with uart := { s.h.uartActive.uart with
      rxEarly := satAdd s.h.uart.rxEarly 1, skip := true, lastCr := false } })) ∧
  ((∀ (s : State) (late : Bool), Receiving s → s.h.uart.mode = .machine → s.h.uart.buf = [] → s.h.uart.long = false →
    s.h.uart.bad = false → s.h.line.tx = [] →
    ∃ t, exec (.lineReceive 0x0D#8 late) s = .next t ∧ OnlyHost s t { s.h.uartActive with uart := { s.h.uartActive.uart with
      lastCr := true } }) ∧
  (∀ (s : State) (late : Bool) (i : Instr), Receiving s → s.h.uart.mode = .human → s.h.uart.buf ≠ [] →
    s.h.uart.buf.head? ≠ some '@' → s.h.uart.long = false → s.h.uart.bad = false → s.h.line.lines.length < 8 →
    parseLine s.h.uart.buf = ([Parsed.cmd i], 1, none) →
    ∃ t, exec (.lineReceive 0x0D#8 late) s = .next t ∧
      OnlyHost s t { s.h.uartActive with
        uart := { s.h.uartActive.uart with lastCr := true, buf := [], prev := none },
        line := { s.h.line with
          lines := s.h.line.lines ++ [⟨none, s.h.uart.buf, [.cmd i], 1, none, false, late⟩],
          tx := s.h.line.tx ++ [⟨.echo, [[chCr, chLf]], TxAfter.none⟩] } }) ∧
  (∀ (s : State) (late : Bool), Receiving s → s.h.uart.mode = .human → s.h.uart.buf ≠ [] ∨ s.h.uart.bad = true →
    s.h.uart.long = true ∨ s.h.uart.bad = true → s.h.line.lines.length < 8 →
    ∃ t, exec (.lineReceive 0x0D#8 late) s = .next t ∧
      OnlyHost s t { s.h.uartActive with
        uart := { s.h.uartActive.uart with lastCr := true, buf := [], long := false, bad := false },
        line := { s.h.line with
          lines := s.h.line.lines ++
            [⟨none, s.h.uart.buf, [], 1, some (if s.h.uart.long then 14 else 10, none), false, late⟩],
          tx := s.h.line.tx ++ [⟨.echo, [[chCr, chLf]], TxAfter.none⟩] } }) ∧
  (∀ (s : State) (late : Bool), Receiving s → s.h.uart.lastCr = true →
    ∃ t, exec (.lineReceive 0x0A#8 late) s = .next t ∧ OnlyHost s t { s.h.uartActive with uart := { s.h.uartActive.uart with
      lastCr := false } }))

/-- Breaks and rates (R91, R531, R532, R541, R575 to R577, R620): a break drops the partial line, and its end prompts; a line held
low sets LINE_STUCK and disables the receiver until RXD is high again; the listen state turns the receiver's domain off; a rate
changes after its response and comes back where no line passes the checks; a response that has left TXD takes its `MODE` along. -/
def Obligations.BreaksRatesAndResponses : Prop :=
  (∀ s : State, s.h.run = true → s.h.uart.rxEn = true → s.h.uart.rxLow = false →
    ∃ t, exec .uartBreak s = .next t ∧ OnlyHost s t { s.h with uart := { s.h.uart with
      buf := [], long := false, bad := false, skip := false, lastCr := false, rxLow := true,
      brk := decide (s.h.uart.mode = .human), brkN := satAdd s.h.uart.brkN 1 } }) ∧
  (∀ s : State, s.h.run = true → s.h.uart.rxEn = true → s.h.uart.rxLow = true → s.h.uart.brk = true → s.h.sendMode = .human →
    ∃ t, exec .breakEnd s = .next t ∧
      OnlyHost s t (HostSide.adds { s.h with uart := { s.h.uart with rxLow := false, brk := false } } .prompt [txt "> "])) ∧
  (∀ s : State, s.h.run = true → s.h.uart.rxLow = true → s.h.uart.brk = false →
    ∃ t, exec .breakEnd s = .next t ∧ OnlyHost s t { s.h with uart := { s.h.uart with rxLow := false } }) ∧
  (∀ s : State, s.h.run = true → s.h.uart.rxEn = true →
    ∃ t, exec .lineStuck s = .next t ∧ t.f = s.f ∧ t.pending = s.pending ∧
      t.h.uart = { s.h.uart with
        buf := [], long := false, bad := false, rxEn := false, rxLow := true, stuck := true, on := false,
        stuckN := satAdd s.h.uart.stuckN 1 } ∧
      bitOf t.h.latched sbLineStuck = true ∧ bitOf t.h.latched sbAttn = true ∧ t.h.attnSrc.getLsbD 2 = true ∧
      t.h.line.lines = s.h.line.lines ∧ t.h.line.cur = s.h.line.cur) ∧
  (∀ s : State, s.h.run = true → s.h.uart.stuck = true → s.h.sendMode = .human → s.h.uart.buf = [] →
    ∃ t h, exec .receiverReenable s = .next t ∧ h = HostSide.adds { s.h with uart := { s.h.uart with
        rxEn := true, rxLow := false, stuck := false, brk := false, on := true, idle := 0 } } .notice [txt "!RX ON"] ∧
      OnlyHost s t (if s.h.uart.brk then h.adds .prompt [txt "> "] else h)) ∧
  (∀ s : State, s.h.run = true → s.h.uart.on = true → s.h.awake = false → 64 ≤ s.h.uart.idle →
    ∃ t, exec .uartIdleOff s = .next t ∧ OnlyHost s t { s.h with uart := { s.h.uart with on := false } }) ∧
  (∀ (s : State) (b : Nat), s.h.uart.next = some b → b ≠ s.h.uart.baud →
    ∃ t, exec .baudSwitch s = .next t ∧ OnlyHost s t { s.h with uart := { s.h.uart with
      baud := b, next := none, prev := some (s.h.uart.baud, s.h.hf) } }) ∧
  (∀ (s : State) (b n : Nat), s.h.run = true → s.h.uart.prev = some (b, n) → n + 640 ≤ s.h.hf → s.h.uart.buf = [] →
    ∃ t h, exec .baudRevert s = .next t ∧ h = { s.h with uart := { s.h.uart with baud := b, prev := none } } ∧
      OnlyHost s t (if s.h.sendMode = .human then h.adds .notice [txt "!BAUD " ++ decText b] else h)) ∧
  (∀ (s : State) (ls : List Text) (a : TxAfter) (rest : List TxItem), s.h.line.tx = ⟨.response, ls, a⟩ :: rest →
    s.h.line.full = [] →
    ∃ t, exec .responseSent s = .next t ∧ OnlyHost s t { s.h with
      uart := { s.h.uart with
        idle := 0, mode := a.mode.getD s.h.uart.mode,
        next := match a.baud with | some b => some b | none => s.h.uart.next },
      line := { s.h.line with tx := rest, resetDue := s.h.line.resetDue || a.reset } })

/-! ### The host side: its frame, stamps, jobs, register events -/

/-- The host frame (R51 to R53, R137, R142, R143): its boundary counts frames and the domains that were on; with no line it does
nothing else; at most four lines execute, in arrival order, and none that came too late; without a `TICK` the frame is counted, and
the mirror counter runs on where it is kept; while `LINK` is clear an `IDLE` goes out. Host work that does not fit in the frame is
deferred: OVERRUN sets and `OVR_H` counts (02_frame.md section 6). -/
def Obligations.HostFramesRunLines : Prop :=
  (∀ (s : State) (d : Bool), HostIdle s →
    ∃ t b, exec (.hostFrameBoundary d) s = .next t ∧ OnlyHost s t { s.h.domBoundary with
        hf := s.h.hf + 1, pwrqAge := s.h.pwrqAge + 1, uart := { s.h.uart with idle := s.h.uart.idle + 1 },
        rot := { s.h.rot with since := min (s.h.rot.since + 1) 65536 },
        table := { s.h.table with merge := s.h.table.merge.map (· - 1) },
        ovrH := (if d && s.h.slicesDue then satAdd s.h.ovrH 1 else s.h.ovrH),
        latched := (if d && s.h.slicesDue then withBit s.h.latched sbOverrun true else s.h.latched),
        bar := b } ∧
      (s.h.bar.link = true → s.h.bar.since = 0#8 → b = { s.h.bar with since := 1#8 }) ∧
      (s.h.bar.link = true → s.h.bar.since ≠ 0#8 → b = { s.h.bar with
        since := satAdd s.h.bar.since 1, frames := s.h.bar.frames + 1,
        mir := if s.h.awake then s.h.bar.mir + 2 ^ 26 else s.h.bar.mir }) ∧
      (s.h.bar.link = false → s.h.bar.since = 0#8 → b = { s.h.bar with since := 1#8, mir := s.h.bar.mir + 2 ^ 26 }) ∧
      (s.h.bar.link = false → s.h.bar.since ≠ 0#8 → b = { s.h.bar with
        since := satAdd s.h.bar.since 1, mir := s.h.bar.mir + 2 ^ 26, lane := s.h.bar.lane ++ [⟨.idle, 0#4, [0#32], none⟩] })) ∧
  (∀ (s : State) (d : Bool) (n : Nat), s.h.run = true → s.h.line.cur = none → s.h.line.resetReq = false →
    s.h.line.lines = List.replicate n (idLine false) →
    ∃ t, exec (.hostFrameBoundary d) s = .next t ∧ t.f = s.f ∧ t.h.line.cur = none ∧
      t.h.line.lines = List.replicate (n - 4) (idLine false) ∧ t.h.line.tx.length = s.h.line.tx.length + min n 4) ∧
  (∀ (s : State) (d : Bool) (rest : List HLine), s.h.run = true → s.h.line.cur = none → s.h.line.resetReq = false →
    s.h.line.lines = idLine true :: rest →
    ∃ t, exec (.hostFrameBoundary d) s = .next t ∧ t.f = s.f ∧ t.h.line.tx = s.h.line.tx ∧
      t.h.line.lines = idLine false :: rest.map fun (l : HLine) => { l with late := false })

/-- PPS_EDGE, PON_POLARITY_READ and OVERLAY_MERGE (R183, R380, R593, R698, R699, R729, R737): an edge of 100 ns outside the dead time
is stamped, the last four being kept; the polarity of PON_H is read after `LINK` sets; the first overlay copy that passes is merged,
and without one the ROM base is served alone; where S2 is absent or fails its CRC, NVM_ERR sets.
HOST_JOB_SLICE (R182, R430 to R434, R592, R630 to R632): an export asks for its next slot; with the last slot received it ends
DONE_OK, its blocks count as exported, and JOB_DONE sets; a dump delivers the next part of the table. -/
def Obligations.HostReadsAndJobsAdvance : Prop :=
  ((∀ (s : State) (o ns : Nat), s.h.run = true → s.h.pps.on = true → 100 ≤ ns →
    (∀ n, s.h.pps.last = some n → n + 8590 ≤ s.h.bar.mir + o) →
    ∃ t, exec (.ppsEdge o ns) s = .next t ∧ OnlyHost s t { s.h with pps := { s.h.pps with
      stamps := ((s.h.stampAt o, false) :: s.h.pps.stamps).take 4, cnt := satAdd s.h.pps.cnt 1,
      last := some (s.h.bar.mir + o) } }) ∧
  (∀ (s : State) (o ns : Nat), ns < 100 ∨ s.h.pps.on = false →
    ∃ t, exec (.ppsEdge o ns) s = .next t ∧ OnlyHost s t s.h) ∧
  (∀ s : State, s.h.run = true → s.h.bar.link = true → s.h.pon.readDue = true → s.h.bar.unans = none → s.h.bar.queue = [] →
    ∃ t x, exec .ponPolarityRead s = .next t ∧ x = ⟨.regrd, s.h.bar.nextSeq, [0x122C#32], none⟩ ∧
      OnlyHost s t (HostSide.launch { s.h with
        pon := { s.h.pon with readDue := false },
        bar := { s.h.bar with unans := some ⟨x, 0, false, false⟩, nextSeq := s.h.bar.nextSeq + 1 } } x)) ∧
  (∀ (s : State) (b2 b3 : Bool), s.h.run = true → s.h.bar.link = true → s.h.table.merge.isSome = true →
    ∃ t, exec (.overlayMerge b2 b3) s = .next t ∧ t.pending = s.pending ∧
      t.f = (if b2 = true ∧ s.f.ovl.s2.isSome = true then s.f else s.f.setBit sbNvmErr) ∧
      t.h = { s.h with table :=
        match (if b2 then s.f.ovl.s2 else none), (if b3 then s.f.ovl.s3 else none) with
        | some l, _ => ⟨true, true, false, l, none⟩
        | none, some l => ⟨true, true, false, l, none⟩
        | none, none => ⟨true, false, true, [], none⟩ })) ∧
  ((∀ (s : State) (i : Nat) (j : Job) (b : Word) (rest : List Word) (got : List Slot) (ring n unc blk : Nat) (prev : Slot)
    (bad : Bool), s.h.run = true → i < 4 → s.h.jobs[i]? = some j → j.live = true →
    (∀ k, k < 4 → k ≠ i → (s.h.jobOf k).live = false) → j.info = .journal (b :: rest) got ring n none prev unc blk bad →
    s.h.bar.unans = none → s.h.bar.queue = [] →
    ∃ t w, exec .hostJobSlice s = .next t ∧ w = BitVec.ofNat 32 (2 ^ 28 + got.length * 2 ^ 21) ∧ t.f = s.f ∧
      t.h.jobs = s.h.jobs.setIfInBounds i { j with
        info := .journal (b :: rest) got ring n (some (w, b)) prev unc blk bad } ∧
      t.h.bar.unans = some ⟨⟨.jreq, s.h.bar.nextSeq, [w, b], none⟩, 0, false, false⟩) ∧
  (∀ (s : State) (i : Nat) (j : Job) (ring : Nat) (prev : Slot) (blk : Nat) (bad : Bool) (x : JrnJob), s.h.run = true → i < 4 →
    s.h.jobs[i]? = some j → j.live = true → j.kind = 1 → (∀ k, k < 4 → k ≠ i → (s.h.jobOf k).live = false) →
    j.info = .journal [] [] ring ring none prev 0 blk bad → s.f.jrn.job = some x → x.verify = false →
    ∃ t, exec .hostJobSlice s = .next t ∧ bitOf t.h.latched sbJobDone = true ∧
      t.h.jobs = s.h.jobs.setIfInBounds i { j with st := 3, prog := 100, err := 0, lines := j.lines ++ [s.f.certificate x] } ∧
      t.f = { s.f with jrn := { s.f.jrn with
        job := none, ring := s.f.jrn.ring.drop (x.ring.length - x.ringLost),
        expBsn := some (match s.f.jrn.expBsn with | some e => if e < x.last then x.last else e | none => x.last) } }) ∧
  (∀ (s : State) (i o : Nat) (j : Job), s.h.run = true → i < 4 → s.h.jobs[i]? = some j → j.live = true →
    (∀ k, k < 4 → k ≠ i → (s.h.jobOf k).live = false) → j.info = .desc o → o + 1024 < s.h.table.len →
    ∃ t, exec .hostJobSlice s = .next t ∧ OnlyHost s t { s.h with jobs := s.h.jobs.setIfInBounds i { j with
      st := 2, prog := max j.prog (min 99 (100 * (o + 1024) / s.h.table.len)), info := .desc (o + 1024),
      lines := j.lines ++ s.h.table.lines s.f.fuse 32 o 1024 } }))

/-- Register writes as events of their own (R217 to R226, R316, R335, R349, R383, R561 to R570, R640, R646, R659): a KEEP byte waits
for the commit; a staged value changes nothing but its staging; an apply takes a valid group and leaves a refused one staged. -/
def Obligations.RegisterEventsAct : Prop :=
  (∀ (s : State) (n : Fin 64) (b : Byte), FieldUp s →
    ∃ t, exec (.keepByteWrite n b) s = .next t ∧
      OnlyField s t { s.f with pendW := s.f.pendW ++ [.reg (0x1300 + 4 * n.val) (b.setWidth 32)] }) ∧
  (∀ (s : State) (i : Fin 8) (v : Word) (a : BitVec 16), FieldUp s → a = BitVec.ofNat 16 (0x1040 + 4 * i.val) →
    ∃ t, exec (.stagedWrite a v) s = .next t ∧ OnlyField s t { s.f with tset := {
      fields := (if s.f.tset.filled then s.f.tset.fields else tsetFill s.f.clk).setIfInBounds i.val (v.setWidth 8),
      filled := true, wmask := (if s.f.tset.filled then s.f.tset.wmask else 0#8) ||| (1#8 <<< i.val), lastRej := false } }) ∧
  (∀ (s : State) (n : Fin 4) (v : Word) (a : BitVec 16), FieldUp s → a = BitVec.ofNat 16 (0x1510 + 4 * n.val) →
    ∃ t, exec (.stagedWrite a v) s = .next t ∧ OnlyField s t { s.f with temp := { s.f.temp with
      stg := s.f.temp.stg.setIfInBounds n.val (some (v &&& 0x37#32)) } }) ∧
  (∀ (s : State) (v : Word), s.h.run = true → fcodeBad (fieldOf v 0 25) = false →
    ∃ t, exec (.stagedWrite 0x0404#16 v) s = .next t ∧
      OnlyHost s t { s.h with radio := { s.h.radio with chStg := some (v &&& 0x1FFFFFF#32) } }) ∧
  (∀ s : State, FieldUp s →
    (s.f.refs.tracking = false → s.f.tset.filled = true → tsetBad s.f.tset.fields (s.f.tset.wmask.getLsbD 3) = false →
      ∃ t, exec .tsetGo s = .next t ∧ OnlyField s t (tsetTaken s.f s.f.tset.fields)) ∧
    ((s.f.refs.tracking || !s.f.tset.filled || tsetBad s.f.tset.fields (s.f.tset.wmask.getLsbD 3)) = true →
      ∃ t, exec .tsetGo s = .next t ∧ OnlyField s t { s.f with tset := { s.f.tset with lastRej := true } })) ∧
  (∀ (s : State) (n : Fin 2) (a : Alarm), FieldUp s → s.f.al[n.val]? = some a →
    ∃ t, exec (.alApply n) s = .next t ∧
      OnlyField s t (if alarmBad a.shown.1 a.shown.2.1 a.shown.2.2 then s.f
        else alarmTaken s.f n.val a a.shown.1 a.shown.2.1 a.shown.2.2)) ∧
  (∀ s : State, FieldUp s →
    ∃ t, exec .perbApply s = .next t ∧ OnlyField s t (perbTaken s.f s.f.per.shown.1 s.f.per.shown.2)) ∧
  (∀ (s : State) (n : Fin 4) (w : Word), FieldUp s → w = (s.f.temp.stg[n]).getD s.f.temp.cfg[n] →
    ∃ t, exec (.prbApply n) s = .next t ∧ OnlyField s t (if prbBad w then s.f else prbTaken s.f n.val w)) ∧
  (∀ s : State, s.h.run = true → s.h.radio.st = .sleep ∨ s.h.radio.st = .idle → s.h.radio.tx = none →
    (∃ t, exec .rfchApply s = .next t ∧
      OnlyHost s t { s.h with radio := { s.h.radio with ch := s.h.radio.chShown, chStg := none } }) ∧
    ∃ t, exec .rfphyApply s = .next t ∧ OnlyHost s t
      (if bitOf s.h.radio.phyShown.2 10 = decide (fieldOf s.h.radio.phyShown.1 5 2 ≠ 0) then
        { s.h with radio := { s.h.radio with phy := s.h.radio.phyShown.1, frm := s.h.radio.phyShown.2, phyStg := none } }
      else s.h)) ∧
  (∀ s : State, s.h.run = true → s.h.radio.tx.isSome = true →
    (∃ t, exec .rfchApply s = .next t ∧ OnlyHost s t s.h) ∧ ∃ t, exec .rfphyApply s = .next t ∧ OnlyHost s t s.h) ∧
  (∀ s : State, s.h.run = true →
    ∃ t, exec .rfpaApply s = .next t ∧
      OnlyHost s t { s.h with radio := { s.h.radio with pa := s.h.radio.paShown, paStg := none } })

/-! ### The radio -/

/-- The radio's states and its receiver (R476, R646, R648, R652, R667 to R669, R732): a transition reaches its goal, with TRSW1
and TRSW2 at the levels of its state; in RX an SFD is stamped, and at the packet's end the packet joins the queue of eight, or is
counted and dropped; two runs of a calibration that agree give the new figure; a loss of lock drops the packet, counts, and leaves
the state. -/
def Obligations.RadioReceives : Prop :=
  (∀ (s : State) (l : Byte), s.h.run = true → NoRadioLine s → s.h.radio.rxAsk = false →
    (s.h.radio.goal = some .idle → ∃ t, exec (.rfTransitionDone l) s = .next t ∧ OnlyHost s t { s.h with
      radio := { s.h.radio with goal := none, st := .idle, trsw := trswPath s.h.radio.trswNow (false, false) },
      domNow := s.h.domNow ||| RfSt.domains .idle }) ∧
    (s.h.radio.goal = some .stby → s.h.radio.st = .synth → ∃ t, exec (.rfTransitionDone l) s = .next t ∧
      OnlyHost s t { s.h with
        radio := { s.h.radio with
          goal := none, st := .stby, lockT := l, trsw := trswPath s.h.radio.trswNow (false, false) },
        domNow := s.h.domNow ||| RfSt.domains .stby }) ∧
    (s.h.radio.goal = some .rx → s.h.radio.st = .synth → s.h.radio.cxEn = false →
      ∃ t, exec (.rfTransitionDone l) s = .next t ∧ OnlyHost s t { s.h with
        radio := { s.h.radio with goal := none, st := .rx, lockT := l, trsw := trswPath s.h.radio.trswNow (false, true) },
        domNow := s.h.domNow ||| RfSt.domains .rx })) ∧
  (∀ (s : State) (h : HostSide) (l : Byte), s.h = h.lineWaits .radio → h.line.cur = none → h.run = true →
    h.radio.rxAsk = false → h.radio.goal = some .idle →
    ∃ t, exec (.rfTransitionDone l) s = .next t ∧ OnlyHost s t (sent { h with
      radio := { h.radio with goal := none, st := .idle, trsw := trswPath h.radio.trswNow (false, false) },
      domNow := h.domNow ||| RfSt.domains .idle } okLines)) ∧
  (∀ (s : State) (o : Nat), s.h.run = true → s.h.radio.st = .rx → s.h.radio.susp = false → s.h.radio.rxNow = none →
    ∃ t, exec (.rfSfdDetect o) s = .next t ∧
      OnlyHost s t { s.h with radio := { s.h.radio with rxNow := some (s.h.stampAt o) } }) ∧
  (∀ (s : State) (p : RxFrame) (x : HStamp), s.h.run = true → s.h.radio.rxNow = some x → s.h.radio.tx = none →
    p.phr.getLsbD 0 = false → phrLen p.phr ≠ 0 → s.h.radio.rxq.length < 8 → s.h.radio.octets + phrLen p.phr ≤ 4096 →
    ∃ t, exec (.rfPacketEnd p) s = .next t ∧ OnlyHost s t { s.h with radio := Radio.count { s.h.radio with
      rxNow := none, nextRx := s.h.radio.nextRx + 1, marks := (s.h.radio.nextRx, x) :: s.h.radio.marks,
      rxq := s.h.radio.rxq ++ [⟨s.h.radio.nextRx, x, p.phr.getLsbD 3, p.rssi,
        if p.phr.getLsbD 4 then whiten (p.psdu.take (phrLen p.phr)) else p.psdu.take (phrLen p.phr)⟩] } cRxOk }) ∧
  (∀ (s : State) (p : RxFrame) (x : HStamp), s.h.run = true → s.h.radio.rxNow = some x → s.h.radio.tx = none →
    (p.phr.getLsbD 0 = true → ∃ t, exec (.rfPacketEnd p) s = .next t ∧
      OnlyHost s t { s.h with radio := Radio.count { s.h.radio with rxNow := none, phr := p.phr } cMsw }) ∧
    (p.phr.getLsbD 0 = false → phrLen p.phr = 0 → ∃ t, exec (.rfPacketEnd p) s = .next t ∧
      OnlyHost s t { s.h with radio := Radio.count { s.h.radio with rxNow := none } cPhrBad }) ∧
    (p.phr.getLsbD 0 = false → phrLen p.phr ≠ 0 → 8 ≤ s.h.radio.rxq.length → ∃ t, exec (.rfPacketEnd p) s = .next t ∧
      t.h.radio.rxq = s.h.radio.rxq ∧ t.h.radio.err.getLsbD 3 = true ∧ t.h.radio.rxNow = none ∧
      t.h.radio.cnt = (s.h.radio.count cRxDrop).cnt ∧ t.f = s.f)) ∧
  (∀ (s : State) (run a : Int), s.h.run = true → s.h.radio.st = .idle → s.h.radio.goal = none → s.h.radio.tx = none → NoJobs s →
    s.h.radio.calIq.run1 = some a →
    ((a - run).natAbs ≤ 10 → ∃ t, exec (.rfCalSlice .iq run true) s = .next t ∧ OnlyHost s t { s.h with radio := { s.h.radio with
      calIq := ⟨some (s.h.hf + 38400), none⟩, irr := BitVec.ofInt 8 (roundDiv (a + run) 20), rej7 := 0#4 } }) ∧
    (10 < (a - run).natAbs → s.h.radio.rej7 ≠ 2#4 → ∃ t, exec (.rfCalSlice .iq run true) s = .next t ∧
      OnlyHost s t { s.h with radio := Radio.count { s.h.radio with
        calIq := ⟨some (s.h.hf + 38400), none⟩, rej7 := satAdd s.h.radio.rej7 1 } cCalRej })) ∧
  (∀ (s : State) (run : Int) (d : Nat), s.h.run = true → s.h.radio.st = .idle → s.h.radio.goal = none → s.h.radio.tx = none →
    NoJobs s → s.h.radio.calIq = ⟨some d, none⟩ → d ≤ s.h.hf →
    ∃ t, exec (.rfCalSlice .iq run false) s = .next t ∧
      OnlyHost s t { s.h with radio := { s.h.radio with calIq := ⟨some d, some run⟩ } }) ∧
  (∀ (s : State) (l : Byte), s.h.run = true → s.h.radio.st = .rx → s.h.radio.tx = none →
    ∃ t, exec (.synthUnlock l) s = .next t ∧ t.f = s.f ∧ t.h.radio.st = .rx ∧ t.h.radio.lockT = l ∧
      t.h.radio.rxNow = none ∧ t.h.radio.err.getLsbD 0 = true ∧ bitOf t.h.latched sbRferr = (s.h.radio.err.getLsbD 0 == false ||
        bitOf s.h.latched sbRferr) ∧
      t.h.radio.cnt = (Radio.count (if s.h.radio.rxNow.isSome then s.h.radio.count cRxAbort else s.h.radio) cUnlock).cnt)

/-- A transmission's life (R654, R655, R657, R658, R660, R662, R672 to R676, R732): its octets move to the buffer bank, and with
the first bank it is requested; without coexistence it goes on air at once, else the grant is sampled: with it the packet goes on
air, without it the radio waits, until the grant rises or the time is up; a grant withdrawn on air aborts it; after the last
symbol it is SENT with its stamp, which says whether it is unlinked (R148); TRSW1 and TRSW2 follow. -/
def Obligations.TransmissionsRun : Prop :=
  (∀ (s : State) (x : TxPend) (ht : Byte) (v : Nat), s.h.run = true → s.h.radio.tx = some x → x.phase = .bank → x.job = none →
    s.h.radio.rxNow = none → s.h.radio.goal = none →
    (s.h.radio.cxEn = true → ∃ t, exec (.rfServiceSlice ht v) s = .next t ∧ OnlyHost s t { s.h with radio := { s.h.radio with
      tx := some { x with moved := min x.psdu.length (x.moved + 512), phase := .sample }, cxReq := true,
      cxPri := s.h.radio.cxPriCfg } }) ∧
    (s.h.radio.cxEn = false → 3000 ≤ v → ∃ t y, exec (.rfServiceSlice ht v) s = .next t ∧ t.f = s.f ∧
      t.h = { s.h with radio := t.h.radio, domNow := t.h.domNow } ∧ t.h.radio.st = .tx ∧ t.h.radio.tx = some y ∧
      y.phase = .air ∧ y.psdu = x.psdu ∧ y.id = x.id ∧ y.entry = fieldOf s.h.radio.pa 0 6 ∧ y.comp = fieldOf s.h.radio.pa 8 2 ∧
      t.h.radio.htemp = ht ∧ t.h.radio.trsw = trswPath s.h.radio.trswNow (true, false) ∧
      y.air = some (phrOf (bitOf s.h.radio.frm 12) (bitOf s.h.radio.frm 11) x.psdu.length,
        if bitOf s.h.radio.frm 11 then whiten x.psdu else x.psdu))) ∧
  (∀ (s : State) (x : TxPend) (ht : Byte) (v : Nat), s.h.run = true → s.h.radio.rxAsk = false → s.h.radio.tx = some x →
    x.phase = .sample →
    (∃ t, exec (.cxGrantSample false ht v) s = .next t ∧ OnlyHost s t { s.h with
      radio := { s.h.radio with
        tx := some { x with phase := .wait }, st := .txwait, trsw := trswPath s.h.radio.trswNow (false, decide (x.prior = .rx)) },
      domNow := s.h.domNow ||| RfSt.domains .txwait }) ∧
    ∃ t, exec (.cxGrantSample true ht v) s = .next t ∧ t.f = s.f ∧ t.h.radio.st = .tx ∧
      (t.h.radio.tx.map fun y => (y.phase, y.id, y.psdu)) = some (.air, x.id, x.psdu)) ∧
  (∀ (s : State) (ht : Byte) (v : Nat), s.h.run = true → NoRadioLine s → s.h.radio.rxAsk = true →
    ∃ t, exec (.cxGrantSample false ht v) s = .next t ∧ t.f = s.f ∧ t.h.radio.st = .stby ∧ t.h.radio.goal = none ∧
      t.h.radio.rxAsk = false ∧ t.h.radio.cxReq = false ∧ bitOf t.h.latched sbCxDeny = true ∧
      t.h.radio.cnt = (s.h.radio.count cCxRxDeny).cnt) ∧
  (∀ (s : State) (x : TxPend) (ht : Byte) (v : Nat), s.h.run = true → s.h.radio.tx = some x → x.phase = .wait →
    s.h.radio.rxNow = none →
    (∃ t, exec (.cxGrantRise ht v) s = .next t ∧ t.f = s.f ∧ t.h.radio.st = .tx ∧
      (t.h.radio.tx.map fun y => (y.phase, y.id, y.psdu)) = some (.air, x.id, x.psdu)) ∧
    (x.job = none → ∃ t, exec .cxTimeout s = .next t ∧ t.f = s.f ∧ t.h.radio.tx = none ∧ bitOf t.h.latched sbCxDeny = true ∧
      t.h.radio.st = (if x.prior = .rx then .rx else .stby) ∧
      t.h.radio.results = (s.h.radio.putResult x.id .txDenied none).results ∧
      t.h.radio.cnt = (s.h.radio.count cTxDeny).cnt)) ∧
  (∀ (s : State) (x : TxPend), s.h.run = true → s.h.radio.tx = some x → x.phase = .air → x.job = none → s.h.radio.cxEn = true →
    ∃ t y, exec .cxGrantFall s = .next t ∧ t.f = s.f ∧ t.h.radio.tx = none ∧ bitOf t.h.latched sbCxDeny = true ∧
      t.h.radio.st = (if x.prior = .rx then .rx else .stby) ∧
      t.h.radio.results = (s.h.radio.putResult x.id .cxAbort y).results ∧ t.h.radio.cnt = (s.h.radio.count cCxAbort).cnt) ∧
  (∀ s : State, s.h.run = true → s.h.radio.tx = none → s.h.radio.cxEn = true → s.h.radio.st = .rx → s.h.radio.listen = false →
    s.h.radio.susp = false →
    ∃ t, exec .cxGrantFall s = .next t ∧ t.f = s.f ∧ t.h.radio.susp = true ∧ t.h.radio.rxNow = none ∧ t.h.radio.st = .rx ∧
      bitOf t.h.latched sbCxDeny = true) ∧
  (∀ (s : State) (x : TxPend) (o : Nat) (e : Int), s.h.run = true → s.h.radio.tx = some x → x.phase = .air → x.job = none →
    x.comp ≠ 2 → x.prior = .stby →
    ∃ t, exec (.rfTxEnd o e) s = .next t ∧ OnlyHost s t { s.h with
      radio := Radio.count { s.h.radio.putResult x.id .sent (some (s.h.stampAt o)) with
        tx := none, cxPri := false, cxReq := false, st := .stby, trsw := trswPath s.h.radio.trswNow (false, false) } cTxOk,
      domNow := s.h.domNow ||| RfSt.domains .stby }) ∧
  (∀ (s : State) (x : TxPend) (o : Nat) (e : Int), s.h.run = true → s.h.radio.tx = some x → x.phase = .air → x.job = none →
    ∃ t, exec (.rfTxEnd o e) s = .next t ∧ t.f = s.f ∧ t.h.radio.tx = none ∧
      t.h.radio.st = (if x.prior = .rx then .rx else .stby) ∧
      t.h.radio.results = (s.h.radio.putResult x.id .sent (some (s.h.stampAt o))).results ∧
      t.h.radio.trsw = trswPath s.h.radio.trswNow (false, decide (x.prior = .rx)) ∧ t.h.radio.cnt = (s.h.radio.count cTxOk).cnt ∧
      t.h.radio.rxq = s.h.radio.rxq)

/-! ### The whole part -/

/-- A step takes the command at the front of the queue, and runs it on the state with the queue's rest; with none waiting the part
idles (the model's convention, notes/assumptions/2.md). -/
def Obligations.StepRunsTheFrontCommand : Prop :=
  (∀ (c : Instr) (s : State), step (s.withPending (c :: s.pending)) = exec c s) ∧
  (∀ (s : State), s.pending = [] → step s = .next s)

/-- After reset the part meets the invariant, and no command waits. -/
def Obligations.ResetMeetsTheInvariant : Prop := Inv State.reset ∧ State.reset.pending = []

/-- From every state that meets the invariant a step goes on, to a state that meets it (R534, R547, R553, R593, R608, R662, R668), and
leaves the rest of the queue as it was: first in, first out. That no command stops is the model's (notes/assumptions/1.md). -/
def Obligations.StepsKeepTheInvariant : Prop :=
  ∀ s : State, Inv s → ∃ t, step s = .next t ∧ Inv t ∧ t.pending = s.pending.drop 1

/-- The registers after a start (R711, Tables 20-2 to 20-4): the host windows after every host start, the field window after
every cold start with a journal that is not read-only; both after reset (the model's reset state is that after both). -/
def Obligations.StartsSetTheRegisters : Prop :=
  (∀ (s : State) (v : Bool), s.h.run = false ∨ s.h.line.resetDue = true →
    ∃ t, exec (.hostStart v) s = .next t ∧ Shows t.h.regValue hostStartTable) ∧
  (∀ s : State, s.f.start.por = true → s.f.sup.best ≠ .vbk → s.f.jrnRo = false →
    ∃ t, exec .fieldColdStart s = .next t ∧ Shows (t.f.regValue t.f.clk) coldStartTable) ∧
  Shows State.reset.h.regValue hostStartTable ∧ Shows (State.reset.f.regValue State.reset.f.clk) coldStartTable

/-- The mapped registers are exactly those of the map, which are exactly those that the Layout Table lists, each once (R3), and `R` and `W`
of any other address are answered ERR 20 (R703). -/
def Obligations.MapIsExact : Prop :=
  (∀ a : Nat, mappedAt a = true ↔ a ∈ regTable.map (·.addr)) ∧ (regTable.map (·.addr)).Nodup ∧
  (∀ (s : State) (a : Nat), (s.h.regValue a).isSome = (decide (a < 0x1000) && mappedAt a) ∧
    (s.f.regValue s.f.clk a).isSome = (decide (0x1000 ≤ a) && mappedAt a)) ∧
  (∀ (s : State) (a : BitVec 16) (w : Word), HostIdle s → mappedAt a.toNat = false →
    (∃ t, exec (.registerRead a 1) s = .next t ∧ OnlyHost s t (sent s.h [errLine 20 none])) ∧
    ∃ t, exec (.registerWrite a w) s = .next t ∧ OnlyHost s t (sent s.h [errLine 20 none]))

/-- The two sides meet at the barrier alone: a row of the host side leaves the field side as it was, but that a host side which starts
or stops hears nothing of what stands on the lane to it (R22, R24), and that a line which the row lets go on may have commands
left; a row of the field side leaves the host side as it was, but for the job slots, which learn of the field side's work
(notes/assumptions/23.md) with the status, the notices and the rotation count that follow from a job's end. -/
def Obligations.SidesMeetAtTheBarrier : Prop :=
  (∀ (s t : State) (i : Instr), hostRow i = true → exec i s = .next t →
    (∀ c, s.h.line.cur = some c → c.wait = some .radio → c.rest = [] ∧ c.groups = []) →
    t.f = s.f ∨ (hostStops i = true ∧ t.f = { s.f with bar := { s.f.bar with lane := [] } })) ∧
  (∀ (s t : State) (i : Instr), fieldRow i = true → exec i s = .next t →
    t.h = { s.h with
      jobs := t.h.jobs, latched := t.h.latched, attnSrc := t.h.attnSrc, rot := t.h.rot,
      line := { s.h.line with tx := t.h.line.tx } })
end

