-- ==== Sys2Proof/Laws/State.lean ====
section
/-! SUPPORT. Sys2Proof/Laws/State.lean: what the named updates of the state leave as it is, one lemma per field, each true by
unfolding its update alone. -/

namespace Sys2Proof.Machine

/-! ### State -/

@[simp] theorem State.withPending_f (s : State) (q : List Instr) : (s.withPending q).f = s.f := rfl
@[simp] theorem State.withPending_h (s : State) (q : List Instr) : (s.withPending q).h = s.h := rfl
@[simp] theorem State.withPending_pending (s : State) (q : List Instr) : (s.withPending q).pending = q := rfl
@[simp] theorem State.withPending_withPending (s : State) (q r : List Instr) :
    (s.withPending q).withPending r = s.withPending r := rfl
@[simp] theorem State.withPending_self (s : State) : s.withPending s.pending = s := rfl

@[simp] theorem State.host_f (s : State) (g : HostSide → HostSide) : (s.host g).f = s.f := rfl
@[simp] theorem State.host_h (s : State) (g : HostSide → HostSide) : (s.host g).h = g s.h := rfl
@[simp] theorem State.host_pending (s : State) (g : HostSide → HostSide) : (s.host g).pending = s.pending := rfl
theorem State.host_host (s : State) (g k : HostSide → HostSide) : (s.host g).host k = s.host fun h => k (g h) := rfl

/-! ### The field side: a latched bit, a piece of news -/

@[simp] theorem Field.setBit_clk (f : Field) (i : Nat) : (f.setBit i).clk = f.clk := rfl
@[simp] theorem Field.setBit_start (f : Field) (i : Nat) : (f.setBit i).start = f.start := rfl
@[simp] theorem Field.setBit_sup (f : Field) (i : Nat) : (f.setBit i).sup = f.sup := rfl
@[simp] theorem Field.setBit_sched (f : Field) (i : Nat) : (f.setBit i).sched = f.sched := rfl
@[simp] theorem Field.setBit_bar (f : Field) (i : Nat) : (f.setBit i).bar = f.bar := rfl
@[simp] theorem Field.setBit_refs (f : Field) (i : Nat) : (f.setBit i).refs = f.refs := rfl
@[simp] theorem Field.setBit_rate (f : Field) (i : Nat) : (f.setBit i).rate = f.rate := rfl
@[simp] theorem Field.setBit_wake (f : Field) (i : Nat) : (f.setBit i).wake = f.wake := rfl
@[simp] theorem Field.setBit_keep (f : Field) (i : Nat) : (f.setBit i).keep = f.keep := rfl
@[simp] theorem Field.setBit_per (f : Field) (i : Nat) : (f.setBit i).per = f.per := rfl
@[simp] theorem Field.setBit_ev (f : Field) (i : Nat) : (f.setBit i).ev = f.ev := rfl
@[simp] theorem Field.setBit_temp (f : Field) (i : Nat) : (f.setBit i).temp = f.temp := rfl
@[simp] theorem Field.setBit_jrn (f : Field) (i : Nat) : (f.setBit i).jrn = f.jrn := rfl
@[simp] theorem Field.setBit_cal (f : Field) (i : Nat) : (f.setBit i).cal = f.cal := rfl
@[simp] theorem Field.setBit_tst (f : Field) (i : Nat) : (f.setBit i).tst = f.tst := rfl
@[simp] theorem Field.setBit_pendW (f : Field) (i : Nat) : (f.setBit i).pendW = f.pendW := rfl
@[simp] theorem Field.setBit_jobEv (f : Field) (i : Nat) : (f.setBit i).jobEv = f.jobEv := rfl
@[simp] theorem Field.setBit_latched (f : Field) (i : Nat) : (f.setBit i).stat.latched = withBit f.stat.latched i true := rfl
@[simp] theorem Field.setBit_sent (f : Field) (i : Nat) : (f.setBit i).stat.sent = f.stat.sent := rfl

@[simp] theorem Field.tell_jobEv (f : Field) (e : JobEv) : (f.tell e).jobEv = f.jobEv ++ [e] := rfl
theorem Field.tell_rest (f : Field) (e : JobEv) : { f.tell e with jobEv := f.jobEv } = f := rfl

@[simp] theorem Field.answer_lane (f : Field) (t : Txn) : (f.answer t).bar.lane = f.bar.lane ++ [t] := rfl
theorem Field.answer_rest (f : Field) (t : Txn) :
    f.answer t = { f with bar := { f.bar with lane := (f.answer t).bar.lane } } := rfl

/-! ### The host side: lines for TXD, a domain, an answer, a line that waits -/

@[simp] theorem HostSide.push_tx (h : HostSide) (k : TxKind) (ls : List Text) (a : TxAfter) :
    (h.push k ls a).line.tx = h.line.tx ++ [⟨k, ls, a⟩] := rfl
theorem HostSide.push_rest (h : HostSide) (k : TxKind) (ls : List Text) (a : TxAfter) :
    h.push k ls a = { h with line := { h.line with tx := (h.push k ls a).line.tx } } := rfl
@[simp] theorem HostSide.push_run (h : HostSide) (k : TxKind) (ls : List Text) (a : TxAfter) : (h.push k ls a).run = h.run := rfl
@[simp] theorem HostSide.push_uart (h : HostSide) (k : TxKind) (ls : List Text) (a : TxAfter) : (h.push k ls a).uart = h.uart := rfl
@[simp] theorem HostSide.push_bar (h : HostSide) (k : TxKind) (ls : List Text) (a : TxAfter) : (h.push k ls a).bar = h.bar := rfl
@[simp] theorem HostSide.push_jobs (h : HostSide) (k : TxKind) (ls : List Text) (a : TxAfter) : (h.push k ls a).jobs = h.jobs := rfl
@[simp] theorem HostSide.push_radio (h : HostSide) (k : TxKind) (ls : List Text) (a : TxAfter) :
    (h.push k ls a).radio = h.radio := rfl
@[simp] theorem HostSide.push_pps (h : HostSide) (k : TxKind) (ls : List Text) (a : TxAfter) : (h.push k ls a).pps = h.pps := rfl
@[simp] theorem HostSide.push_lines (h : HostSide) (k : TxKind) (ls : List Text) (a : TxAfter) :
    (h.push k ls a).line.lines = h.line.lines := rfl
@[simp] theorem HostSide.push_cur (h : HostSide) (k : TxKind) (ls : List Text) (a : TxAfter) :
    (h.push k ls a).line.cur = h.line.cur := rfl
@[simp] theorem HostSide.push_cache (h : HostSide) (k : TxKind) (ls : List Text) (a : TxAfter) :
    (h.push k ls a).line.cache = h.line.cache := rfl

@[simp] theorem HostSide.domain_domNow (h : HostSide) (d : Nat) : (h.domain d).domNow = h.domNow ||| (1#56 <<< d) := rfl
theorem HostSide.domain_rest (h : HostSide) (d : Nat) : h.domain d = { h with domNow := (h.domain d).domNow } := rfl

/-- Behind other messages one goes out alone; on an empty lane an `IDLE` may stand before it (R129). -/
theorem HostSide.launch_lane (h : HostSide) (t : Txn) :
    (h.launch t).bar.lane = h.bar.lane ++ [t] ∨ h.bar.lane = [] ∧ (h.launch t).bar.lane = [idleTxn, t] := by
  unfold HostSide.launch
  by_cases hl : h.bar.lane = []
  · by_cases hf : h.free.getLsbD 0 = true <;> simp [hl, hf]
  · simp [hl]
theorem HostSide.launch_rest (h : HostSide) (t : Txn) :
    h.launch t = { h with
      bar := { h.bar with lane := (h.launch t).bar.lane }, freeCtr := (h.launch t).freeCtr } := by
  unfold HostSide.launch
  split <;> rfl

@[simp] theorem HostSide.enqueue_lines (h : HostSide) (l : HLine) : (h.enqueue l).line.lines = h.line.lines ++ [l] := rfl
theorem HostSide.enqueue_rest (h : HostSide) (l : HLine) :
    h.enqueue l = { h with line := { h.line with lines := (h.enqueue l).line.lines } } := rfl

end Sys2Proof.Machine
end

