-- ==== Sys2Proof/Laws/Ops.lean ====
section
/-! SUPPORT. Sys2Proof/Laws/Ops.lean: what the shared operations can do, said once for the proofs that cite them: which parts of
the host side the news of field work reaches, when a text command executes, that the limits of the host side hold. -/

namespace Sys2Proof.Machine

/-! ### What field work can change on the host side -/

/-- `t` differs from `h` in what the end of a job or its progress may change, and in nothing else. -/
def JobsOnly (h t : HostSide) : Prop :=
  t = { h with
    jobs := t.jobs, latched := t.latched, attnSrc := t.attnSrc, rot := t.rot, line := { h.line with tx := t.line.tx } }

theorem JobsOnly.refl (h : HostSide) : JobsOnly h h := rfl

theorem JobsOnly.trans {h k t : HostSide} (a : JobsOnly h k) (b : JobsOnly k t) : JobsOnly h t := by
  unfold JobsOnly at *
  rw [b, a]

theorem HostSide.push_jobsOnly (h : HostSide) (k : TxKind) (ls : List Text) (a : TxAfter) : JobsOnly h (h.push k ls a) := rfl

theorem HostSide.notice_jobsOnly (h : HostSide) (t : Text) : JobsOnly h (h.notice t) := by
  unfold HostSide.notice
  split
  · exact .refl h
  · exact h.push_jobsOnly ..

theorem HostSide.attn_jobsOnly (h : HostSide) (n : Nat) : JobsOnly h (h.attn n) := by
  unfold HostSide.attn
  dsimp only
  split
  · rfl
  · exact JobsOnly.trans (k := { h with latched := withBit h.latched sbAttn true, attnSrc := h.attnSrc ||| (1#4 <<< n) }) rfl
      (HostSide.notice_jobsOnly ..)

theorem HostSide.masked_jobsOnly (old h : HostSide) : JobsOnly h (HostSide.masked old h) := by
  unfold HostSide.masked
  split
  · exact .refl h
  · exact h.attn_jobsOnly 3

theorem HostSide.setBit_jobsOnly (h : HostSide) (i : Nat) : JobsOnly h (h.setBit i) :=
  JobsOnly.trans (k := { h with latched := withBit h.latched i true }) rfl (HostSide.masked_jobsOnly ..)

theorem HostSide.putJob_jobsOnly (h : HostSide) (i : Nat) (g : Job → Job) : JobsOnly h (h.putJob i g) := by
  unfold HostSide.putJob
  split <;> rfl

theorem HostSide.endJob_jobsOnly (h : HostSide) (i st err : Nat) : JobsOnly h (h.endJob i st err) := by
  unfold HostSide.endJob
  split
  · exact .refl h
  · split
    · exact .refl h
    · exact (h.putJob_jobsOnly ..).trans (HostSide.setBit_jobsOnly ..)

/-- A fold of updates that each reach the job slots alone. -/
theorem JobsOnly.foldl {α : Type} (g : HostSide → α → HostSide) (hg : ∀ h a, JobsOnly h (g h a)) (l : List α) (h : HostSide) :
    JobsOnly h (l.foldl g h) := by
  induction l generalizing h with
  | nil => exact .refl h
  | cons a l ih => exact (hg h a).trans (ih _)

/-- A step from `s` to `t` that leaves the queue, has nothing left to tell, and reaches the job slots alone. -/
def NewsOnly (s t : State) : Prop := JobsOnly s.h t.h ∧ t.f.jobEv = s.f.jobEv ∧ t.pending = s.pending

theorem NewsOnly.refl (s : State) : NewsOnly s s := ⟨.refl _, rfl, rfl⟩

theorem NewsOnly.trans {s t u : State} (a : NewsOnly s t) (b : NewsOnly t u) : NewsOnly s u :=
  ⟨a.1.trans b.1, b.2.1.trans a.2.1, b.2.2.trans a.2.2⟩

theorem NewsOnly.host {s : State} {g : HostSide → HostSide} (hg : JobsOnly s.h (g s.h)) : NewsOnly s (s.host g) :=
  ⟨hg, rfl, rfl⟩

theorem NewsOnly.foldl {α : Type} (g : State → α → State) (hg : ∀ s a, NewsOnly s (g s a)) (l : List α) (s : State) :
    NewsOnly s (l.foldl g s) := by
  induction l generalizing s with
  | nil => exact .refl s
  | cons a l ih => exact (hg s a).trans (ih _)

/-- Staging a record leaves the news as they are. -/
theorem Field.stageRec_jobEv (f : Field) (a : Slot) (m : List Slot) : (f.stageRec a m).jobEv = f.jobEv := by
  unfold Field.stageRec
  split
  · rfl
  · split <;> rfl

theorem Field.stage_jobEv (f : Field) (a : Slot) : (f.stage a).jobEv = f.jobEv := f.stageRec_jobEv a []

theorem Field.endTest_jobEv (f : Field) (p x n : Nat) : (f.endTest p x n).jobEv = f.jobEv :=
  Field.stage_jobEv ..

theorem State.testEnd_news (s : State) (i : Nat) : NewsOnly s (s.testEnd i) := by
  unfold State.testEnd
  split
  · exact ⟨(s.h.endJob_jobsOnly ..).trans rfl, Field.endTest_jobEv .., rfl⟩
  · exact .refl s

/-- A piece of news reaches the job slots alone, and leaves none behind. -/
theorem State.jobEvent_news (s : State) (e : JobEv) : NewsOnly s (s.jobEvent e) := by
  cases e with
  | calStarted item lane => exact .host (.foldl _ (fun h i => h.putJob_jobsOnly ..) _ _)
  | calDone item lane line rejected =>
    refine .host (.foldl _ (fun h i => ?_) _ _)
    dsimp only
    split
    · split
      · exact (h.putJob_jobsOnly ..).trans (HostSide.endJob_jobsOnly ..)
      · exact h.putJob_jobsOnly ..
    · exact .refl h
  | calAbandoned item lane => exact .host (.foldl _ (fun h i => h.endJob_jobsOnly ..) _ _)
  | jrnStarted => exact .host (.foldl _ (fun h i => h.putJob_jobsOnly ..) _ _)
  | eraseDone first last => exact .host (.foldl _ (fun h i => h.putJob_jobsOnly ..) _ _)
  | eraseEnd => exact .host (.foldl _ (fun h i => h.endJob_jobsOnly ..) _ _)
  | testSlice line verdict =>
    refine .foldl _ (fun s i => ?_) _ _
    split
    · exact (NewsOnly.host (s := s) (s.h.putJob_jobsOnly ..)).trans (State.testEnd_news ..)
    · exact .refl s
  | testDropped => exact .host (.foldl _ (fun h i => h.endJob_jobsOnly ..) _ _)
  | testCancelled => exact .host (.foldl _ (fun h i => h.endJob_jobsOnly ..) _ _)

/-- What a step of the field side can do: its field side is taken over, its news reach the job slots alone, none is left. -/
theorem State.withField_news (s : State) (g : Field) :
    JobsOnly s.h (s.withField g).h ∧ (s.withField g).f.jobEv = [] ∧ (s.withField g).pending = s.pending :=
  NewsOnly.foldl (s := { s with f := { g with jobEv := [] } }) _ State.jobEvent_news g.jobEv

/-- Field work without news leaves the host side as it was. -/
theorem State.withField_quiet (s : State) (g : Field) (hg : g.jobEv = []) : s.withField g = { s with f := g } := by
  unfold State.withField
  rw [hg]
  cases g
  simp_all

/-! ### When a text command executes -/

/-- The line of one text command. -/
def ownLine (i : Instr) : HLine := ⟨none, [], [.cmd i], 1, none, false, false⟩

/-- On an idle host side a text command executes at once. -/
theorem State.textCmd_idle (i : Instr) (s : State) (h : HostIdle s) : s.textCmd i = s.startLine (ownLine i) := by
  obtain ⟨hr, hc, hl, hq⟩ := h
  simp [State.textCmd, hr, hc, hl, hq, ownLine]

/-- While the host side is held in reset or off, a text command does nothing. -/
theorem State.textCmd_stopped (i : Instr) (s : State) (h : s.h.run = false) : s.textCmd i = s := by
  simp [State.textCmd, h]

/-- Behind another line a text command waits, or finds the line buffer full. -/
theorem State.textCmd_waits (i : Instr) (s : State) (hr : s.h.run = true) (hb : s.h.line.cur.isSome = true ∨ s.h.line.lines ≠ []) :
    s.textCmd i = s.host fun h => if Config.lineQueueDepth ≤ h.line.lines.length then h.lineFull none else h.enqueue (ownLine i) := by
  have : (s.h.line.cur.isSome || s.h.line.resetReq || !s.h.line.lines.isEmpty) = true := by
    rcases hb with h | h
    · simp [h]
    · cases hl : s.h.line.lines <;> simp_all
  simp only [State.textCmd, hr, this, ownLine, Bool.not_true, Bool.false_eq_true, if_false, if_true]

/-- A line of one command: the host side is awake in its frame, and its command runs. -/
theorem State.startLine_own (i : Instr) (s : State) (place : Nat) :
    s.startLine (ownLine i) place =
      (Lx.runRest [.cmd i] ⟨(s.host HostSide.ran).host fun h => { h with line := { h.line with cur := some ((ownLine i).cur place) } },
        (ownLine i).cur place⟩).settle := by
  simp [State.startLine, LineSt.kept, ownLine, HLine.cur]

end Sys2Proof.Machine
end

