-- ==== Sys2Proof/Laws/Limits.lean ====
section
/-! SUPPORT. Sys2Proof/Laws/Limits.lean: the limits of the host side under its operations, and the canonical form of the
transmit buffer: every write keeps it, an octet reads as it was written last. -/

namespace Sys2Proof.Machine

/-! ### A host frame that is too full -/

/-- A deferral changes the status word and `OVR_H`, and nothing else. -/
theorem HostSide.defer_frame (h : HostSide) (full : Bool) :
    h.defer full = { h with latched := (h.defer full).latched, ovrH := (h.defer full).ovrH } := by
  unfold HostSide.defer
  split <;> rfl

@[simp] theorem HostSide.defer_false (h : HostSide) : h.defer false = h := rfl

/-! ### The transmit buffer (R608) -/

theorem bufWfFrom_mono {lo lo' : Nat} (h : lo' ≤ lo) : ∀ {buf : List (Nat × Byte)}, bufWfFrom lo buf = true → bufWfFrom lo' buf = true
  | [], _ => rfl
  | (p, c) :: rest, hb => by
    simp only [bufWfFrom, Bool.and_eq_true, decide_eq_true_eq] at hb ⊢
    exact ⟨⟨⟨by omega, hb.1.1.2⟩, hb.1.2⟩, hb.2⟩

theorem bufPut_wfFrom (o : Nat) (b : Byte) (ho : o < 2047) :
    ∀ {lo : Nat} {buf : List (Nat × Byte)}, lo ≤ o → bufWfFrom lo buf = true → bufWfFrom lo (bufPut o b buf) = true
  | lo, [], hl, _ => by
    by_cases hb : b = 0#8 <;> simp [bufPut, bufWfFrom, hb, hl, ho]
  | lo, (p, c) :: rest, hl, hw => by
    simp only [bufWfFrom, Bool.and_eq_true, decide_eq_true_eq] at hw
    obtain ⟨⟨⟨h1, h2⟩, h3⟩, h4⟩ := hw
    unfold bufPut
    by_cases hop : o < p
    · by_cases hb : b = 0#8
      · simp [hop, hb, bufWfFrom, h1, h2, h3, h4]
      · simp [hop, hb, bufWfFrom, hl, ho, h2, h3, h4, Nat.succ_le_of_lt hop]
    · by_cases hpe : o = p
      · subst hpe
        by_cases hb : b = 0#8
        · simpa [hb] using bufWfFrom_mono (by omega) h4
        · simp [hb, bufWfFrom, hl, ho, h4]
      · simp only [hop, hpe, if_false, bufWfFrom, h1, h2, h3, decide_true, Bool.and_eq_true, ne_eq, not_false_eq_true, true_and]
        exact bufPut_wfFrom o b ho (by omega) h4

/-- A write below the buffer's end keeps the canonical form. -/
theorem bufPut_wf (o : Nat) (b : Byte) (buf : List (Nat × Byte)) (ho : o < 2047) (hw : bufWf buf = true) :
    bufWf (bufPut o b buf) = true := bufPut_wfFrom o b ho (Nat.zero_le o) hw

/-- The buffer is empty at reset, which is the form. -/
theorem reset_buf_wf : bufWf State.reset.h.radio.buf = true := rfl

/-- Nothing is listed below the first offset of the form. -/
theorem bufGet_below {k lo : Nat} : ∀ {buf : List (Nat × Byte)}, bufWfFrom lo buf = true → k < lo → bufGet k buf = 0#8
  | [], _, _ => rfl
  | (p, c) :: rest, hw, hk => by
    simp only [bufWfFrom, Bool.and_eq_true, decide_eq_true_eq] at hw
    obtain ⟨⟨⟨h1, _⟩, _⟩, h4⟩ := hw
    have hne : p ≠ k := by omega
    have ih := bufGet_below (k := k) h4 (by omega)
    simpa [bufGet, List.find?_cons, hne] using ih

theorem bufGet_cons (k p : Nat) (c : Byte) (rest : List (Nat × Byte)) :
    bufGet k ((p, c) :: rest) = if p = k then c else bufGet k rest := by
  by_cases h : p = k <;> simp [bufGet, h]

/-- An octet reads as it was written last; the others are as they were. -/
theorem bufGet_bufPut (o : Nat) (b : Byte) (k : Nat) :
    ∀ {lo : Nat} {buf : List (Nat × Byte)}, bufWfFrom lo buf = true →
      bufGet k (bufPut o b buf) = if k = o then b else bufGet k buf
  | _, [], _ => by
    by_cases hb : b = 0#8 <;> by_cases hk : k = o
    · simp [bufPut, hb, bufGet]
    · simp [bufPut, hb, bufGet]
    · simp [bufPut, hb, bufGet, hk]
    · simp [bufPut, hb, bufGet, hk, Ne.symm hk]
  | lo, (p, c) :: rest, hw => by
    simp only [bufWfFrom, Bool.and_eq_true, decide_eq_true_eq] at hw
    obtain ⟨_, h4⟩ := hw
    unfold bufPut
    by_cases hop : o < p
    · have hlow : bufGet o ((p, c) :: rest) = 0#8 := by
        rw [bufGet_cons, if_neg (by omega)]
        exact bufGet_below h4 (by omega)
      by_cases hb : b = 0#8
      · simp only [hop, hb, if_true]
        split
        · next hk => rw [hk, hlow]
        · rfl
      · simp only [hop, hb, if_true, if_false]
        rw [bufGet_cons]
        by_cases hk : k = o
        · simp [hk]
        · simp [hk, Ne.symm hk]
    · by_cases hpe : o = p
      · subst hpe
        by_cases hb : b = 0#8
        · simp only [hop, hb, if_true, if_false]
          split
          · next hk => rw [hk]; exact bufGet_below h4 (by omega)
          · next hk => rw [bufGet_cons, if_neg (Ne.symm hk)]
        · simp only [hop, hb, if_true, if_false]
          rw [bufGet_cons, bufGet_cons]
          by_cases hk : k = o
          · simp [hk]
          · simp [hk, Ne.symm hk]
      · simp only [hop, hpe, if_false]
        rw [bufGet_cons, bufGet_cons, bufGet_bufPut o b k h4]
        by_cases hkp : p = k
        · subst hkp
          simp [Ne.symm hpe]
        · simp [hkp]

/-! ### The limits (Safety.lean) -/

/-- The limits look at these parts alone. -/
theorem bounded_of_parts {h t : HostSide} (hb : Bounded h) (h1 : t.line.lines = h.line.lines) (h2 : t.line.cache = h.line.cache)
    (h3 : t.uart.buf = h.uart.buf) (h4 : t.pps.stamps = h.pps.stamps) (h5 : t.radio.rxq = h.radio.rxq)
    (h6 : t.radio.results = h.radio.results) (h7 : t.radio.buf = h.radio.buf) : Bounded t := by
  have h8 : t.radio.octets = h.radio.octets := by simp [Radio.octets, h5]
  simpa [Bounded, h1, h2, h3, h4, h5, h6, h7, h8] using hb

/-- What reaches the job slots alone keeps the limits. -/
theorem JobsOnly.bounded {h t : HostSide} (a : JobsOnly h t) (hb : Bounded h) : Bounded t := by
  rw [a]
  exact bounded_of_parts hb rfl rfl rfl rfl rfl rfl rfl

/-- A step of the field side keeps the invariant. -/
theorem State.withField_inv (s : State) (g : Field) (hs : Inv s) : Inv (s.withField g) :=
  ⟨(s.withField_news g).1.bounded hs.1, (s.withField_news g).2.1⟩

/-- A line that waits where fewer than 8 do keeps the limits. -/
theorem HostSide.enqueue_bounded (h : HostSide) (l : HLine) (hb : Bounded h) (hl : h.line.lines.length < 8) :
    Bounded (h.enqueue l) := by
  obtain ⟨-, h2, h3, h4, h5, h6, h7, h8⟩ := hb
  refine ⟨?_, h2, h3, h4, h5, h6, h7, h8⟩
  simp only [HostSide.enqueue_lines, List.length_append, List.length_singleton]
  omega

/-- Accepting a tag keeps at most 32 (R547). -/
theorem LineSt.accept_cache (ls : LineSt) (tag body : Text) (h : ls.cache.length ≤ 32) : (ls.accept tag body).cache.length ≤ 32 := by
  by_cases hc : 32 ≤ ls.cache.length <;> simp [LineSt.accept, Config.tagCacheDepth, hc] <;> omega

/-- Keeping a response changes no entry's count. -/
theorem LineSt.cached_cache (ls : LineSt) (tag : Option Text) (body : Text) (resp : List Text) :
    (ls.cached tag body resp).cache.length = ls.cache.length := by
  unfold LineSt.cached
  split <;> simp

/-- A new transmission leaves at most 16 results, and the receive queue and the buffer as they were (R662). -/
theorem Radio.newTx_results (r : Radio) (psdu : List Byte) (job : Option Nat) : (r.newTx psdu job).results.length ≤ 16 := by
  simp only [Radio.newTx, List.length_take]
  omega

theorem Radio.putResult_results (r : Radio) (id : Byte) (x : TxResult) (st : Option HStamp) :
    (r.putResult id x st).results.length = r.results.length := by
  simp [Radio.putResult]

end Sys2Proof.Machine
end

