-- ==== Sys2Proof/Laws/PerInstr.lean ====
section
/-! SUPPORT. Sys2Proof/Laws/PerInstr.lean: what holds of each command as syntax, one lemma per constructor: no row is one of both
sides' own (Safety.lean). -/

namespace Sys2Proof.Laws.RowsActOnOneSide

/-- A row of the host side alone is no row of the field side alone. -/
def Statement (i : Instr) : Prop := (hostRow i && fieldRow i) = false

theorem frameBoundary : Statement .frameBoundary := rfl
theorem tickerFire : Statement .tickerFire := rfl
theorem ponPulseEnd (o : WakeOut) : Statement (.ponPulseEnd o) := rfl
theorem alarmActionSlice : Statement .alarmActionSlice := rfl
theorem watchdogRestart : Statement .watchdogRestart := rfl
theorem fieldWriteCommit : Statement .fieldWriteCommit := rfl
theorem markEvaluate : Statement .markEvaluate := rfl
theorem markMiss (r : RefSrc) : Statement (.markMiss r) := rfl
theorem referenceIdle (r : RefSrc) : Statement (.referenceIdle r) := rfl
theorem handoverComplete : Statement .handoverComplete := rfl
theorem slewEnd : Statement .slewEnd := rfl
theorem holdoverLongSet : Statement .holdoverLongSet := rfl
theorem dieTempRead (t : BitVec 16) : Statement (.dieTempRead t) := rfl
theorem learningHalfEnd : Statement .learningHalfEnd := rfl
theorem learningWindowClose : Statement .learningWindowClose := rfl
theorem learnedTableSummary : Statement .learnedTableSummary := rfl
theorem crystalHandover : Statement .crystalHandover := rfl
theorem crystalStartFail : Statement .crystalStartFail := rfl
theorem crystalRestart : Statement .crystalRestart := rfl
theorem sourceFall : Statement .sourceFall := rfl
theorem demotionDecide (tick : Nat) (back : Bool) : Statement (.demotionDecide tick back) := rfl
theorem sourceQualify (src : Source) (tick : Nat) (srcMv : Nat) (vbatMv : Nat) : Statement (.sourceQualify src tick srcMv vbatMv) := rfl
theorem vbkPor : Statement .vbkPor := rfl
theorem fieldColdStart : Statement .fieldColdStart := rfl
theorem calRestoreDone (aOk : Bool) (bOk : Bool) : Statement (.calRestoreDone aOk bOk) := rfl
theorem journalMount (mapOk : Bool) (keyAOk : Bool) (keyBOk : Bool) : Statement (.journalMount mapOk keyAOk keyBOk) := rfl
theorem vbatMeasure (mv : Nat) : Statement (.vbatMeasure mv) := rfl
theorem batplanDue : Statement .batplanDue := rfl
theorem pwrqSend : Statement .pwrqSend := rfl
theorem vhostFall : Statement .vhostFall := rfl
theorem evEdge (i : Fin 8) (rising : Bool) (tick : Nat) (ps : Nat) (n1 : Nat) (moving : Bool) : Statement (.evEdge i rising tick ps n1 moving) := rfl
theorem filterHoldComplete (i : Fin 8) (tick : Nat) : Statement (.filterHoldComplete i tick) := rfl
theorem eventQueue (i : Fin 8) (tick : Nat) (n2 : Nat) : Statement (.eventQueue i tick n2) := rfl
theorem stagingRoomReturn : Statement .stagingRoomReturn := rfl
theorem conversionStart : Statement .conversionStart := rfl
theorem continuityCheck (core : Fin 2) (padsOk : Bool) : Statement (.continuityCheck core padsOk) := rfl
theorem conversionLatchBusy (core : Fin 2) : Statement (.conversionLatchBusy core) := rfl
theorem conversionEnd (core : Fin 2) (milliOhm : Nat) (padsOk : Bool) : Statement (.conversionEnd core milliOhm padsOk) := rfl
theorem conversionCompletion (core : Fin 2) : Statement (.conversionCompletion core) := rfl
theorem flushRequest : Statement .flushRequest := rfl
theorem flushPriorityRaise : Statement .flushPriorityRaise := rfl
theorem flushSlice (corr : Nat) : Statement (.flushSlice corr) := rfl
theorem scrubSlice (corr : List Nat) (uncorr : List Nat) (sealOk : Bool) : Statement (.scrubSlice corr uncorr sealOk) := rfl
theorem wrapErase : Statement .wrapErase := rfl
theorem journalServiceSlice (reads : List SlotRead) : Statement (.journalServiceSlice reads) := rfl
theorem calItemDue (item : CalItem) (lane : Fin 4) : Statement (.calItemDue item lane) := rfl
theorem calSlice (m : CalMeas) : Statement (.calSlice m) := rfl
theorem adcCalFrame (core0run1 : AdcRun) (core1run1 : AdcRun) (core0run2 : AdcRun) (core1run2 : AdcRun) : Statement (.adcCalFrame core0run1 core1run1 core0run2 core1run2) := rfl
theorem adcCalCompute : Statement .adcCalCompute := rfl
theorem calStoreDue : Statement .calStoreDue := rfl
theorem calStoreSlice (readBackOk : Bool) : Statement (.calStoreSlice readBackOk) := rfl
theorem overlayRewrite (readBackOk : Bool) : Statement (.overlayRewrite readBackOk) := rfl
theorem testSlice (side : Side) (applicable : Bool) (pass : Bool) (measured : Int) (limit : Int) : Statement (.testSlice side applicable pass measured limit) := rfl
theorem telemetrySlice : Statement .telemetrySlice := rfl
theorem tickReceive (seq : BitVec 4) (ovr : BitVec 18) (dly : BitVec 14) : Statement (.tickReceive seq ovr dly) := rfl
theorem linkLoss : Statement .linkLoss := rfl
theorem fieldUnlink : Statement .fieldUnlink := rfl
theorem echoReceive (seq : BitVec 4) (train : Bool) (crcf : Byte) (rtt : Nat) : Statement (.echoReceive seq train crcf rtt) := rfl
theorem idleReceive (lane : Lane) : Statement (.idleReceive lane) := rfl
theorem statReceive (seq : BitVec 4) (bits : Word) : Statement (.statReceive seq bits) := rfl
theorem evtReceive (seq : BitVec 4) (w0 : Word) (w1 : Word) (w2 : Word) : Statement (.evtReceive seq w0 w1 w2) := rfl
theorem sampReceive (seq : BitVec 4) (w0 : Word) (w1 : Word) (w2 : Word) (w3 : Word) : Statement (.sampReceive seq w0 w1 w2 w3) := rfl
theorem jdatReceive (seq : BitVec 4) (w0 : Word) (w1 : Word) (data : List Word) : Statement (.jdatReceive seq w0 w1 data) := rfl
theorem rspxReceive (seq : BitVec 4) (w0 : Word) (data : List Word) : Statement (.rspxReceive seq w0 data) := rfl
theorem pwraReceive (seq : BitVec 4) (w0 : Word) : Statement (.pwraReceive seq w0) := rfl
theorem wakeReceive (seq : BitVec 4) (w0 : Word) : Statement (.wakeReceive seq w0) := rfl
theorem regdatReceive (seq : BitVec 4) (value : Word) : Statement (.regdatReceive seq value) := rfl
theorem ackReceive (lane : Lane) (seq : BitVec 4) (atype : BitVec 4) : Statement (.ackReceive lane seq atype) := rfl
theorem nakReceive (lane : Lane) (seq : BitVec 4) (atype : BitVec 4) (reason : Byte) : Statement (.nakReceive lane seq atype reason) := rfl
theorem loopReceive (lane : Lane) (idx : BitVec 4) (ret : Bool) (pattern : BitVec 31) : Statement (.loopReceive lane idx ret pattern) := rfl
theorem markReceive (seq : BitVec 4) (w0 : Word) (w1 : Word) (w2 : Word) (w3 : Word) (w4 : Word) : Statement (.markReceive seq w0 w1 w2 w3 w4) := rfl
theorem regrdReceive (seq : BitVec 4) (line : BitVec 2) (addr : BitVec 16) (housekeeping : Bool) : Statement (.regrdReceive seq line addr housekeeping) := rfl
theorem regwrReceive (seq : BitVec 4) (line : BitVec 2) (addr : BitVec 16) (value : Word) (housekeeping : Bool) : Statement (.regwrReceive seq line addr value housekeeping) := rfl
theorem cmdxReceive (seq : BitVec 4) (w0 : Word) (cmd : FieldCmd) : Statement (.cmdxReceive seq w0 cmd) := rfl
theorem jreqReceive (seq : BitVec 4) (w0 : Word) (w1 : Word) : Statement (.jreqReceive seq w0 w1) := rfl
theorem pwrqReceive (seq : BitVec 4) (w0 : Word) : Statement (.pwrqReceive seq w0) := rfl
theorem messageCrcFail (lane : Lane) : Statement (.messageCrcFail lane) := rfl
theorem reservedTypeReceive (lane : Lane) (code : BitVec 4) (seq : BitVec 4) : Statement (.reservedTypeReceive lane code seq) := rfl
theorem transactionWordLate (lane : Lane) (atype : BitVec 4) (seq : BitVec 4) : Statement (.transactionWordLate lane atype seq) := rfl
theorem answerTimeout (side : Side) : Statement (.answerTimeout side) := rfl
theorem holdWaitTimeout (side : Side) : Statement (.holdWaitTimeout side) := rfl
theorem fieldStreamResend : Statement .fieldStreamResend := rfl
theorem rspxTimeout : Statement .rspxTimeout := rfl
theorem hostStart (vhost3V : Bool) : Statement (.hostStart vhost3V) := rfl
theorem nrstLow (ns : Nat) : Statement (.nrstLow ns) := rfl
theorem banner : Statement .banner := rfl
theorem uartByteReceive (b : Byte) (framingError : Bool) : Statement (.uartByteReceive b framingError) := rfl
theorem lineReceive (terminator : Byte) (late : Bool) : Statement (.lineReceive terminator late) := rfl
theorem hostFrameBoundary (d : Bool) : Statement (.hostFrameBoundary d) := rfl
theorem uartBreak : Statement .uartBreak := rfl
theorem lineStuck : Statement .lineStuck := rfl
theorem receiverReenable : Statement .receiverReenable := rfl
theorem uartIdleOff : Statement .uartIdleOff := rfl
theorem baudSwitch : Statement .baudSwitch := rfl
theorem baudRevert : Statement .baudRevert := rfl
theorem overlayMerge (s2Ok : Bool) (s3Ok : Bool) : Statement (.overlayMerge s2Ok s3Ok) := rfl
theorem ponPolarityRead : Statement .ponPolarityRead := rfl
theorem ppsEdge (offset : Nat) (highNs : Nat) : Statement (.ppsEdge offset highNs) := rfl
theorem rfTransitionDone (lockUs : Byte) : Statement (.rfTransitionDone lockUs) := rfl
theorem rfSfdDetect (offset : Nat) : Statement (.rfSfdDetect offset) := rfl
theorem rfPacketEnd (p : RxFrame) : Statement (.rfPacketEnd p) := rfl
theorem rfServiceSlice (htemp : Byte) (vpaMv : Nat) : Statement (.rfServiceSlice htemp vpaMv) := rfl
theorem cxGrantSample (level : Bool) (htemp : Byte) (vpaMv : Nat) : Statement (.cxGrantSample level htemp vpaMv) := rfl
theorem cxGrantRise (htemp : Byte) (vpaMv : Nat) : Statement (.cxGrantRise htemp vpaMv) := rfl
theorem cxGrantFall : Statement .cxGrantFall := rfl
theorem cxTimeout : Statement .cxTimeout := rfl
theorem rfTxEnd (offset : Nat) (errTenthDb : Int) : Statement (.rfTxEnd offset errTenthDb) := rfl
theorem synthUnlock (lockUs : Byte) : Statement (.synthUnlock lockUs) := rfl
theorem rfCalSlice (item : CalItem) (run : Int) (second : Bool) : Statement (.rfCalSlice item run second) := rfl
theorem stagedWrite (addr : BitVec 16) (value : Word) : Statement (.stagedWrite addr value) := rfl
theorem tsetGo : Statement .tsetGo := rfl
theorem alApply (n : Fin 2) : Statement (.alApply n) := rfl
theorem perbApply : Statement .perbApply := rfl
theorem prbApply (n : Fin 4) : Statement (.prbApply n) := rfl
theorem rfchApply : Statement .rfchApply := rfl
theorem rfphyApply : Statement .rfphyApply := rfl
theorem rfpaApply : Statement .rfpaApply := rfl
theorem keepByteWrite (n : Fin 64) (b : Byte) : Statement (.keepByteWrite n b) := rfl
theorem registerWrite (addr : BitVec 16) (value : Word) : Statement (.registerWrite addr value) := rfl
theorem registerRead (addr : BitVec 16) (n : Nat) : Statement (.registerRead addr n) := rfl
theorem idQuery : Statement .idQuery := rfl
theorem mode (m : UMode) : Statement (.mode m) := rfl
theorem modeQuery : Statement .modeQuery := rfl
theorem uartBaud (b : Nat) : Statement (.uartBaud b) := rfl
theorem uartBaudQuery : Statement .uartBaudQuery := rfl
theorem resetHost : Statement .resetHost := rfl
theorem stQuery : Statement .stQuery := rfl
theorem stClr (m : Word) : Statement (.stClr m) := rfl
theorem jobQuery (n : Option Nat) : Statement (.jobQuery n) := rfl
theorem jobPartQuery (n : Nat) (offset : Nat) (count : Nat) : Statement (.jobPartQuery n offset count) := rfl
theorem jobCancel (n : Nat) : Statement (.jobCancel n) := rfl
theorem test : Statement .test := rfl
theorem testForce : Statement .testForce := rfl
theorem testQuery : Statement .testQuery := rfl
theorem telQuery (g : Option TelGroup) : Statement (.telQuery g) := rfl
theorem telClr (g : Option TelGroup) : Statement (.telClr g) := rfl
theorem timeQuery : Statement .timeQuery := rfl
theorem time (year : Nat) (month : Nat) (date : Nat) (hour : Nat) (min : Nat) (sec : Nat) : Statement (.time year month date hour min sec) := rfl
theorem stampQuery : Statement .stampQuery := rfl
theorem localOfs (n : Int) : Statement (.localOfs n) := rfl
theorem localQuery : Statement .localQuery := rfl
theorem tmark (a : TmarkArg) : Statement (.tmark a) := rfl
theorem pps (en : Nat) : Statement (.pps en) := rfl
theorem ppsQuery : Statement .ppsQuery := rfl
theorem refQuery : Statement .refQuery := rfl
theorem refSet (key : Option RefKey) (value : Nat) : Statement (.refSet key value) := rfl
theorem refSetQuery (key : Option RefKey) : Statement (.refSetQuery key) := rfl
theorem rateQuery : Statement .rateQuery := rfl
theorem trim (n : Int) (w : Nat) : Statement (.trim n w) := rfl
theorem trimQuery : Statement .trimQuery := rfl
theorem rateEn (comp : Nat) (learn : Nat) : Statement (.rateEn comp learn) := rfl
theorem rateEnQuery : Statement .rateEnQuery := rfl
theorem al (a : AlArg) : Statement (.al a) := rfl
theorem alQuery (n : Nat) : Statement (.alQuery n) := rfl
theorem perEvt (events : BitVec 4) (acts : BitVec 5) : Statement (.perEvt events acts) := rfl
theorem ticker (a : TickerArg) : Statement (.ticker a) := rfl
theorem pon (o : WakeOut) (pulse : Bool) (len : Option Nat) (high : Option Bool) : Statement (.pon o pulse len high) := rfl
theorem ponRel (o : WakeOut) : Statement (.ponRel o) := rfl
theorem ponQuery : Statement .ponQuery := rfl
theorem perCfg (day : Nat) (evin : Nat) : Statement (.perCfg day evin) := rfl
theorem perTh (n : Nat) (hi : Int) (lo : Int) : Statement (.perTh n hi lo) := rfl
theorem perQuery (set : PerSet) (a : PerArg) : Statement (.perQuery set a) := rfl
theorem tripOpen (id : Word) : Statement (.tripOpen id) := rfl
theorem tripClose : Statement .tripClose := rfl
theorem keep (n : Nat) (bytes : List Byte) : Statement (.keep n bytes) := rfl
theorem keepQuery (n : Nat) (c : Nat) : Statement (.keepQuery n c) := rfl
theorem keepSave : Statement .keepSave := rfl
theorem keepLoad : Statement .keepLoad := rfl
theorem evCfg (i : Nat) (edge : Nat) (filt : Nat) (jrn : Nat) : Statement (.evCfg i edge filt jrn) := rfl
theorem evCfgQuery (i : Nat) : Statement (.evCfgQuery i) := rfl
theorem evOff (i : Nat) : Statement (.evOff i) := rfl
theorem evQuery (n : Nat) : Statement (.evQuery n) := rfl
theorem tCfg (n : Nat) (type : Nat) (exc : Nat) : Statement (.tCfg n type exc) := rfl
theorem tPlan (n : Nat) (k : Option Nat) : Statement (.tPlan n k) := rfl
theorem tOfs (n : Nat) (milli : Int) : Statement (.tOfs n milli) := rfl
theorem tLead (n : Nat) (mohm : Nat) : Statement (.tLead n mohm) := rfl
theorem tQuery (n : Nat) : Statement (.tQuery n) := rfl
theorem tSnap : Statement .tSnap := rfl
theorem jQuery : Statement .jQuery := rfl
theorem jPolicy (wrap : Bool) : Statement (.jPolicy wrap) := rfl
theorem note (t : Text) : Statement (.note t) := rfl
theorem jExport (range : Option (Nat × Nat)) : Statement (.jExport range) := rfl
theorem jVerify (range : Option (Nat × Nat)) : Statement (.jVerify range) := rfl
theorem jErase : Statement .jErase := rfl
theorem sealKey (p : Nat) (t : Text) : Statement (.sealKey p t) := rfl
theorem sealQuery : Statement .sealQuery := rfl
theorem calRun (item : Option CalItem) (index : Option Nat) : Statement (.calRun item index) := rfl
theorem calQuery : Statement .calQuery := rfl
theorem calSaveQuery : Statement .calSaveQuery := rfl
theorem calLoad (line : Nat) (bytes : List Byte) : Statement (.calLoad line bytes) := rfl
theorem calLoadGo : Statement .calLoadGo := rfl
theorem calCommit : Statement .calCommit := rfl
theorem supQuery : Statement .supQuery := rfl
theorem supVsw (deciV : Nat) : Statement (.supVsw deciV) := rfl
theorem supBatlow (deciV : Nat) : Statement (.supBatlow deciV) := rfl
theorem batPlan (a : BatPlanArg) : Statement (.batPlan a) := rfl
theorem rfQuery : Statement .rfQuery := rfl
theorem rfState (target : RfTarget) : Statement (.rfState target) := rfl
theorem rfCh (hz : Nat) : Statement (.rfCh hz) := rfl
theorem rfMode (fsk : Nat) (rate : Nat) (hOne : Bool) (bt : Bool) (fec : Nat) : Statement (.rfMode fsk rate hOne bt fec) := rfl
theorem rfFrame (preamble : Nat) (coded : Bool) (whiten : Bool) : Statement (.rfFrame preamble coded whiten) := rfl
theorem rfPwr (idx : Nat) (comp : Nat) : Statement (.rfPwr idx comp) := rfl
theorem rfCx (lead : Nat) (pri : Nat) (listen : Nat) (timeout : Nat) : Statement (.rfCx lead pri listen timeout) := rfl
theorem rfTx (psdu : List Byte) : Statement (.rfTx psdu) := rfl
theorem rftxQuery (n : Nat) : Statement (.rftxQuery n) := rfl
theorem rfBuf (offset : Nat) (bytes : List Byte) : Statement (.rfBuf offset bytes) := rfl
theorem rfTxj (len : Nat) : Statement (.rfTxj len) := rfl
theorem rfqQuery : Statement .rfqQuery := rfl
theorem rfqPop (id : Nat) : Statement (.rfqPop id) := rfl
theorem descQuery (offset : Nat) (len : Nat) : Statement (.descQuery offset len) := rfl
theorem descListQuery (type : Option Nat) : Statement (.descListQuery type) := rfl
theorem descDump : Statement .descDump := rfl
theorem standbySourceFall (src : Source) : Statement (.standbySourceFall src) := rfl
theorem vhostRise : Statement .vhostRise := rfl
theorem hostPowerOff : Statement .hostPowerOff := rfl
theorem fieldCommandSlice : Statement .fieldCommandSlice := rfl
theorem hostJobSlice : Statement .hostJobSlice := rfl
theorem eraseJobSlice : Statement .eraseJobSlice := rfl
theorem keepSaveSlice : Statement .keepSaveSlice := rfl
theorem breakEnd : Statement .breakEnd := rfl
theorem responseSent : Statement .responseSent := rfl

end Sys2Proof.Laws.RowsActOnOneSide
end

