-- ==== Sys2Proof/Machine/Pads.lean ====
section
/-! DEFINITION. Sys2Proof/Machine/Pads.lean: what the output pads show (21_electrical.md sections 1 and 4), as a view of the state that
drives them. -/

namespace Sys2Proof.Machine

/-- A pad: driven low, driven high, or high-impedance (an open-drain pad that is released, or a pad before its side's POR release). -/
inductive Pad where
  | low
  | high
  | open'
  deriving DecidableEq, Repr

def padOf (b : Bool) : Pad := if b then .high else .low

/-- R720: a host pad before the host POR release. -/
def HostSide.pad (h : HostSide) (p : Pad) : Pad := if h.run then p else .open'

/-- ATTN, open-drain and active low (R621, Table 21-3). -/
def HostSide.padAttn (h : HostSide) : Pad := h.pad (if bitOf h.latched sbAttn then .low else .open')

/-- PON_H: high-impedance until the polarity is held, then the active or the inactive level (R729, R731, Table 9-4). -/
def HostSide.padPonH (h : HostSide) : Pad :=
  h.pad (match h.pon.cfg with
    | none => .open'
    | some w => padOf (h.pon.on == bitOf w 1))

/-- CX_REQ and CX_PRI (R672, R673). -/
def HostSide.padCxReq (h : HostSide) : Pad := h.pad (padOf h.radio.cxReq)
def HostSide.padCxPri (h : HostSide) : Pad := h.pad (padOf h.radio.cxPri)

/-- TRSW1 and TRSW2 (R732, Table 21-7). -/
def HostSide.padTrsw1 (h : HostSide) : Pad := h.pad (padOf h.radio.trswNow.1)
def HostSide.padTrsw2 (h : HostSide) : Pad := h.pad (padOf h.radio.trswNow.2)

/-- R663: the output at RFO that an entry of the power table sets, in 0.1 dBm, and whether its path is the PA high path. -/
def entryPower (entry : Nat) : Int := 5 * entry - 115
def entryHigh (entry : Nat) : Bool := decide (40 ≤ entry)

/-- RFO: off outside TX; in TX the output and the path of the entry sent (R663, Table 21-3). -/
def HostSide.padRfo (h : HostSide) : Option (Int × Bool) :=
  match h.radio.tx with
  | some t => if h.run && t.phase = .air then some (entryPower t.entry, entryHigh t.entry) else none
  | none => none

/-- PON_F, open-drain: it pulls low while it is driven (R329, R720, Table 21-3). -/
def Field.padPonF (f : Field) : Pad := if f.wake.ponF then .low else .open'

end Sys2Proof.Machine
end

