-- ==== Sys2Proof/Tests/Slice0.lean ====
section
/-! SUPPORT. Sys2Proof/Tests/Slice0.lean: the smoke test of well-formedness, worked examples of the spec, and for each statement a
theorem that states and operands meet the hypotheses of its clauses. -/

namespace Sys2Proof.Machine.Tests

set_option Elab.async false

/-! ### States -/

/-- Both sides run and are linked; the host side is idle, the banner sent. -/
def up : State :=
  let s := State.reset
  { s with
    f := { s.f with
      start := { s.f.start with alive := true, por := false, restored := true, mounted := true, rc := false, frames := 8 },
      bar := { s.f.bar with linked := true, sendTick := true } },
    h := { s.h with
      bannerDue := false, uart := { s.h.uart with open' := true }, bar := { s.h.bar with link := true, since := 0#8 } } }

/-- `up` with another field side, or another host side. -/
def fu (g : Field → Field) : State := { up with f := g up.f }
def hu (g : HostSide → HostSide) : State := { up with h := g up.h }

/-- `up` with a line that waits. -/
def waits (w : Wait') : State := hu fun h => h.lineWaits w

/-- `up` with changes of single parts. -/
def ru (g : Radio → Radio) : State := hu fun h => { h with radio := g h.radio }
def bu (g : HBar → HBar) : State := hu fun h => { h with bar := g h.bar }
def uu (g : Uart → Uart) : State := hu fun h => { h with uart := g h.uart }
def ju (g : Jrn → Jrn) : State := fu fun f => { f with jrn := g f.jrn }
def cu (g : Cal → Cal) : State := fu fun f => { f with cal := g f.cal }
def xu (g : Refs → Refs) : State := fu fun f => { f with refs := g f.refs }
def su (g : Sup → Sup) : State := fu fun f => { f with sup := g f.sup }
def eu (g : Ev → Ev) : State := fu fun f => { f with ev := g f.ev }
def mu (g : Temp → Temp) : State := fu fun f => { f with temp := g f.temp }
def wu (g : Wake → Wake) : State := fu fun f => { f with wake := g f.wake }
def gu (g : FBar → FBar) : State := fu fun f => { f with bar := g f.bar }
def pu (r : ReqKind) : State := fu fun f => { f with sched := { f.sched with plan := [⟨1, 0, r⟩] } }

/-- The first job slot holds a job. -/
def job (kind st : Nat) (info : JobInfo) : Job := ⟨kind, st, 0, 0, 0#8, [], info, 0⟩
def jobu (kind st : Nat) (info : JobInfo) : State := hu fun h => { h with jobs := h.jobs.setIfInBounds 0 (job kind st info) }

/-- A transaction that has no answer yet. -/
def un (ty : MsgType) (n : Nat) (hold resend : Bool) : Unans := ⟨⟨ty, 5#4, [], none⟩, n, hold, resend⟩

/-- No job slot is live in `up`, nor in a state with the job slots of `up`. -/
theorem noJobs_up (s : State) (h : s.h.jobs = up.h.jobs) : NoJobs s := by
  intro i
  unfold HostSide.jobOf
  rw [h]
  by_cases hi : i < 4
  · have : i = 0 ∨ i = 1 ∨ i = 2 ∨ i = 3 := by omega
    rcases this with h | h | h | h <;> subst h <;> decide +kernel
  · have : up.h.jobs[i]? = none := by simp; omega
    rw [this]
    decide

/-- `up` with a message of the field side on its lane, and with a mark of the host side that is not answered. -/
def busy : State := gu fun b => { b with lane := [⟨.evt, 5#4, [0#32, 0#32], none⟩] }
def unanswered : State := bu fun b => { b with unans := some (un .mark 0 false false) }

/-- The host side before a line asks for `J_STAT`, its `REGRD` sent `n` times more. -/
def readSent (n : Nat) : HostSide :=
  { up.h with bar := { up.h.bar with unans := some ⟨⟨.regrd, 5#4, [regWord 0 0x1604], none⟩, n, false, false⟩, queue := [] } }
def asking (n : Nat) : State := { up with h := (readSent n).lineAsks (.registerRead 0x1604#16 1) (.read 0x1604) }

/-! ### Hypotheses that are met: the command line -/

theorem met_HostQueriesAnswer :
    (HostIdle up ∧ ([Instr.idQuery, .modeQuery, .uartBaudQuery, .stQuery, .jobQuery none, .jobQuery (some 3), .telQuery (some .uart),
      .ppsQuery, .rfQuery, .rfqQuery].all fun i => (hostAnswer up i).isSome) = true) ∧
    (let s := hu fun h => { h with bar := hbarStart }
     HostIdle s ∧ (hostAnswer s .testQuery).isSome = true) ∧
    (let s := ru fun r => { r with results := [(3#8, .pending, none)] }
     HostIdle s ∧ (hostAnswer s (.rftxQuery 3)).isSome = true) ∧
    (let s := jobu 7 1 (.desc 0)
     HostIdle s ∧ (hostAnswer s (.jobPartQuery 0 0 1)).isSome = true) := by decide +kernel

/-- Those whose text the Layout Table's open values enter. -/
theorem met_HostQueriesAnswer_desc (s : State) (hs : s = hu fun h => { h with table := ⟨true, true, false, [], none⟩ }) :
    HostIdle s ∧ (hostAnswer s (.descQuery 0 1024)).isSome = true ∧ (hostAnswer s (.descListQuery (some 12))).isSome = true ∧
      (hostAnswer s (.descListQuery none)).isSome = true := by
  subst hs
  refine ⟨by decide +kernel, ?_, ?_, ?_⟩ <;> simp [hostAnswer, hu, Table.len]

theorem met_FieldQueriesAnswer :
    Linked up ∧ ([Instr.testQuery, .telQuery (some .sup), .timeQuery, .stampQuery, .localQuery, .refQuery, .refSetQuery (some .bw),
      .rateQuery, .trimQuery, .rateEnQuery, .alQuery 2, .ponQuery, .perQuery .day .ev, .evCfgQuery 7, .jQuery, .sealQuery,
      .calQuery, .calSaveQuery, .supQuery].all fun i => (fieldAnswer up i).isSome) = true := by decide +kernel

theorem met_RegisterReadsShow :
    (HostIdle up ∧ (readAnswer (fun i => HostSide.regValue { up.h.inLine with freeCtr := up.h.freeCtr + openReads 0x0400 i }
      (0x0400 + 4 * i)) 0x0400 2).isSome = true) ∧
    (Linked up ∧ (readAnswer (fun i => (checked up.f 0x1300 (i + 1)).regValue up.f.clk (0x1300 + 4 * i)) 0x1300 16).isSome = true) ∧
    (HostIdle busy ∧ busy.h.bar.link = true ∧ busy.quiet = false ∧ busy.mapped 0x1604 = true ∧ inSnapshot 0x1604 = false) ∧
    (HostIdle unanswered ∧ unanswered.h.bar.link = true ∧ unanswered.quiet = false ∧ unanswered.mapped 0x1300 = true ∧
      inSnapshot 0x1300 = false) := by
  decide +kernel

/-- Every setting at a bound of its arguments. -/
def settings : List Instr :=
  [.refSet (some .ppsen) 1, .refSet (some .rfen) 0, .refSet (some .rank) 1, .refSet (some .leap) 1, .refSet (some .bw) 10,
    .refSet (some .rfint) 255, .refSet (some .step) 10000, .trim (-255) 10, .rateEn 1 1, .perEvt 15#4 30#5, .ticker .off,
    .ticker (.run (2 ^ 24) 30#5), .ponRel .ponH, .ponRel .ponF, .perTh 3 8191999 (-8192000), .keep 48 (List.replicate 16 0xFF#8),
    .evCfg 7 2 4 1, .evOff 7, .tPlan 3 (some 18), .tPlan 0 none, .tOfs 3 31999, .tLead 3 65535, .jPolicy true, .supVsw 30,
    .supBatlow 22, .batPlan .on, .batPlan .off, .batPlan (.plan 15 65535)]

theorem met_FieldSettingsWait :
    Linked up ∧ (settings.all fun i => ((settingWrites up i).bind pendAll).isSome) = true ∧
    ((ponWord up .ponF true (some 255) none).bind (accepted 0x122C)).isSome = true ∧ (accepted 0x1680 0x012C1F33#32).isSome = true ∧
    HostIdle busy ∧ busy.h.bar.link = true ∧ busy.quiet = false ∧ HostIdle unanswered ∧ unanswered.h.bar.link = true ∧
    unanswered.quiet = false := by
  decide +kernel

/-- Every field command at a bound of its arguments. -/
def commands : List Instr :=
  [.evQuery 32, .tQuery 3, .tSnap, .tripOpen 0#32, .tripClose, .keepSave, .keepLoad, .note (List.replicate 20 'x'),
    .sealKey 3 [], .calLoad 33 [], .calLoadGo, .calCommit, .jExport none, .jVerify none, .jErase, .calRun (some .tdc) none,
    .calRun (some .adc) none, .calRun (some .xl) none, .calRun (some .bar) none, .test, .testForce]

theorem met_FieldCommandsGoOut :
    HostIdle up ∧ up.h.bar.link = true ∧ (commands.all fun i => (fieldCmdOf up i).isSome) = true := by decide +kernel

/-- A linked stamp at the present boundary. -/
def stamp0 : HStamp := ⟨5, false, false, 0, false⟩

theorem met_TmarkSendsMark :
    (let s := hu fun h => { h with pps := { h.pps with stamps := [(stamp0, false)] } }
     HostIdle s ∧ s.h.bar.link = true ∧ 0 < Config.cycleSec ∧
       (s.h.pps.stamps.find? fun e => !e.2 && decide (s.h.hf ≤ e.1.at' + 64)) = some (stamp0, false) ∧
       (stamp0.unl && !stamp0.trn) = false) ∧
    (let s := ru fun r => { r with marks := [(255#8, stamp0)] }
     HostIdle s ∧ s.h.bar.link = true ∧
       (s.h.radio.marks.find? fun e => e.1.toNat = 255 && decide (s.h.hf ≤ e.2.at' + 4096)) = some (255#8, stamp0)) := by
  decide +kernel

theorem met_PairGroupCommands :
    Linked up ∧ prbBad (BitVec.ofNat 32 (4 + 16 * 2)) = false ∧
    (let a := AlArg.set 2 (some 23) (some 59) (some 59) none none none none 1#5
     ∃ al, up.f.al[alNumber a - 1]? = some al ∧ bitOf al.shown.2.2 31 = false ∧
       alarmBad (alWords al.shown a).1 ((alWords al.shown a).2.1 &&& 0xFFFFFF#32) ((alWords al.shown a).2.2 &&& 0x9F7F#32) = false) :=
  ⟨by decide +kernel, by decide +kernel, _, rfl, by decide +kernel, by decide +kernel⟩

theorem met_TimeSetsOrRefuses :
    Linked up ∧ up.f.refs.tracking = false ∧ tsetBad (timeBytes up.f 2399 12 31 23 59 59) (dowStaged up.f) = false ∧
    (up.f.refs.tracking || tsetBad (timeBytes up.f 2025 2 29 0 0 0) (dowStaged up.f)) = true := by decide +kernel

theorem met_LineEndCommands : HostIdle up := by decide +kernel

theorem met_ClearsByHalves :
    Linked up ∧ sbNvmErr < 32 ∧ 4#32 &&& fieldMask ≠ 0#32 ∧ 1#32 &&& fieldMask = 0#32 ∧
    telBad .sup = false ∧ telField .sup = true ∧ telBad .uart = false ∧ telField .uart = false := by decide +kernel

theorem met_HostJobsStartAndCancel :
    (let s := hu fun h => { h with table := ⟨true, false, false, [], none⟩ }
     HostIdle s ∧ s.h.table.served = true ∧ (s.h.startJob 7 [] (.desc 0)).isSome = true ∧
       (s.h.startJob 4 [] (.rfCal .iq)).isSome = true) ∧
    ([JobInfo.journal [] [] 0 0 none 0 0 0 false, .erase 1, .cal .tdc [0] 1 false, .desc 0, .none, .rftx 1, .rfCal .iq,
      .test false [] 0 0 0 0].all fun x =>
        let s := jobu 1 2 x
        s.h.run && s.h.line.cur.isNone && s.h.line.lines.isEmpty && !s.h.line.resetReq && (s.h.jobOf 0).live) = true := by
  decide +kernel

theorem met_RadioCommands :
    (let s := up
     HostIdle s ∧ s.h.radio.tx = none ∧ s.h.radio.st ≠ .rx ∧ bitOf s.h.radio.phyShown.2 10 = decide ((0 : Nat) ≠ 0) ∧
       (s.h.rfState .sleep).2 = .reached ∧ (s.h.rfState .idle).2 = .runs ∧ s.h.rftxJobs = [] ∧ bufWf s.h.radio.buf = true) ∧
    (let s := ru fun r => { r with st := .stby }
     HostIdle s ∧ s.h.radio.noTx = false ∧ s.h.radio.tx = none ∧ (s.h.startJob 6 [] (.rftx 2047)).isSome = true) ∧
    (let s := ru fun r => { r with rxq := [⟨7#8, stamp0, false, -40, []⟩] }
     HostIdle s ∧ s.h.radio.rxq = [⟨7#8, stamp0, false, -40, []⟩]) := by decide +kernel

theorem met_HostRegisterWrites :
    HostIdle up ∧ 0x4#32 &&& ~~~attnMaskBits = 0#32 ∧ 1#32 &&& ~~~attnMaskBits ≠ 0#32 ∧ 64 ≤ fieldOf 0x00400000#32 16 16 ∧
    up.h.regValue 0x0FFC = none := by decide +kernel

theorem met_BarrierDownAnswers60 :
    let s := bu fun b => { b with link := false }
    HostIdle s ∧ s.h.bar.link = false ∧ (fieldAnswer s .timeQuery).isSome = true ∧ (settingWrites s (.supVsw 24)).isSome = true ∧
      (fieldCmdOf s .tSnap).isSome = true := by decide +kernel

/-- `n` lines that wait behind one that executes. -/
def lines (n : Nat) (tx : List TxItem) : State :=
  let s := waits .mark
  { s with h := { s.h with line := { s.h.line with lines := List.replicate n (idLine false), tx := tx } } }

theorem met_LineBufferHoldsEight :
    (let s := lines 7 []
     s.h.run = true ∧ s.h.line.cur.isSome = true ∧ s.h.line.lines.length < 8) ∧
    (let s := lines 8 []
     s.h.run = true ∧ s.h.line.cur.isSome = true ∧ 8 ≤ s.h.line.lines.length ∧ s.h.line.tx = []) ∧
    (let s := lines 8 [⟨.response, [txt "OK"], TxAfter.none⟩]
     s.h.run = true ∧ 8 ≤ s.h.line.lines.length ∧ ⟨.response, [txt "OK"], TxAfter.none⟩ ∈ s.h.line.tx) ∧
    (let s := uu fun u => { u with buf := txt "ID?" }
     Receiving s ∧ s.h.uart.buf ≠ []) ∧
    (let s := hu fun h => { h with line := { h.line with tx := [⟨.response, [], TxAfter.none⟩], full := [[]] } }
     s.h.line.tx = ⟨.response, [], TxAfter.none⟩ :: [] ∧ s.h.line.full = [[]]) := by decide +kernel

/-! ### Hypotheses that are met: frames, alarms, references, rate -/

theorem met_FrameBoundaryAdvancesTime : FieldUp up ∧ up.f.clk.item1 = false := by decide +kernel

theorem met_WaitingWritesCommit :
    (let s := fu fun f => { f with pendW := [.reg (0x1300 + 4 * 63) 0xFFFFFFFF#32] }
     FieldUp s ∧ s.f.pendW ≠ [] ∧ s.f.pendW = [.reg (0x1300 + 4 * 63) 0xFFFFFFFF#32] ∧ s.f.clk.item1 = false) ∧
    (let s := fu fun f => { f with pendW := [.perb 56#8 0xFF01#32] }
     FieldUp s ∧ s.f.pendW = [.perb 56#8 0xFF01#32] ∧ s.f.clk.item1 = false) ∧
    ([0x1600, 0x10C4].all fun a =>
      let s := fu fun f => { f with pendW := [.reg a 1#32] }
      decide (FieldUp s) && decide (s.f.pendW = [.reg a 1#32]) && decide (s.f.clk.item1 = false)) = true ∧
    (FieldUp up ∧ (up.f.pendW = [] ∨ up.f.clk.item1 = true)) := by decide +kernel

theorem met_PulseEndReleases :
    (let s := wu fun w => { w with ponF := true, ponFDue := true }
     FieldUp s ∧ s.f.wake.ponFDue = true) ∧
    ([true, false].all fun l =>
      let s := fu fun f => { f with wake := { f.wake with ponH := true, ponHDue := true }, bar := { f.bar with linked := l } }
      decide (FieldUp s) && s.f.wake.ponHDue && decide (s.f.bar.linked = l)) = true := by decide +kernel

/-- A firing of a source with some actions. -/
def firing (src : Nat) (acts : BitVec 5) : Firing := ⟨src, acts, 0#4, 0, 0, 0#72, 0#16⟩

/-- The action slice of a firing at the head of the plan, with nothing else in it, on a field side that is linked or not. -/
def acting (src : Nat) (acts : BitVec 5) (l : Bool) : State :=
  let s := pu (.action (firing src acts))
  { s with f := { s.f with bar := { s.f.bar with linked := l } } }

theorem met_FiringsPerformActions :
    ([(4, 0x1E#5), (4, 0x00#5), (1, 0x1F#5), (2, 0x1C#5), (3, 0x1E#5), (3, 0x0E#5)].all fun e =>
      let s := acting e.1 e.2 true
      decide (FieldUp s) && !s.f.start.wdog && decide (s.f.sched.plan = [⟨1, 0, .action (firing e.1 e.2)⟩]) &&
        decide ((firing e.1 e.2).src = e.1) && ((firing e.1 e.2).acts.getLsbD 0 == e.2.getLsbD 0) && s.f.bar.linked) = true ∧
    noPeriod [] ∧ noTicker ([] ++ (acting 4 0x1E#5 true).f.sched.deferred ++ (acting 4 0x1E#5 true).f.sched.arrived) ∧
    (let s := acting 2 0x1F#5 false
     FieldUp s ∧ s.f.start.wdog = false ∧ s.f.sched.plan = [⟨1, 0, .action (firing 2 0x1F#5)⟩] ∧
       ((firing 2 0x1F#5).acts.getLsbD 0 || (firing 2 0x1F#5).acts.getLsbD 1) = true ∧ s.f.bar.linked = false) :=
  ⟨by decide +kernel, by simp [noPeriod], fun r h => absurd (show r ∈ ([] : List Req) from h) List.not_mem_nil, by decide +kernel⟩

theorem met_WatchdogStopsSlices : FieldUp up := by decide +kernel

/-- A mark of PPS, and one of the disabled RADIO. -/
def pps0 : Mark := ⟨.pps, false, 1000#72, 0⟩

theorem met_MarksAreEvaluated :
    (let s := xu fun r => { r with marksDue := [pps0], cfg := 0#32 }
     FieldUp s ∧ s.f.refs.marksDue = [pps0] ∧ s.f.refs.enabled pps0.src = false) ∧
    (let s := xu fun r => { r with marksDue := [pps0], pps := { r.pps with lastEval := some 1000 } }
     FieldUp s ∧ s.f.refs.marksDue = [pps0] ∧ (s.f.refs.get pps0.src).lastEval = some 1000 ∧ pps0.stamp.toNat ≤ 1000) ∧
    (let s := xu fun r => { r with marksDue := [pps0] }
     FieldUp s ∧ s.f.refs.marksDue = [pps0] ∧ s.f.refs.enabled pps0.src = true ∧ (s.f.refs.get pps0.src).lastEval = none ∧
       (s.f.refs.get pps0.src).st = .idle ∧ (s.f.refs.get pps0.src).run = none ∧ pps0.unl = false) ∧
    (FieldUp up ∧ up.f.refs.marksDue = []) := by decide +kernel

/-- A reference in a state, with misses and an evaluated mark at the stamp 0, 1.5 T ago. -/
def refIn (st : RefSt) (misses : Nat) : State := fu fun f => { f with
  clk := { f.clk with stamp := 0x180000000#72 },
  refs := { f.refs with pps := { f.refs.pps with st := st, misses := misses, lastEval := some 0 } } }

theorem met_MissedMarks :
    [(RefSt.qualifying, 0), (.idle, 0), (.lost, 0), (.qualified, 1), (.qualified, 2)].all (fun e =>
      let s := refIn e.1 e.2
      decide (FieldUp s) && s.f.refs.enabled .pps && (s.f.refs.get .pps).lastEval.isSome && decide ((s.f.refs.get .pps).st = e.1) &&
        decide ((s.f.refs.get .pps).misses = e.2) &&
        decide ((s.f.refs.get .pps).missFrom + s.f.refs.interval .pps * 3 / 2 ≤ s.f.clk.stamp.toNat)) = true := by decide +kernel

theorem met_ReferenceTimersEnd :
    (let s := fu fun f => { f with
      clk := { f.clk with fno := 512 }, refs := { f.refs with rf := { f.refs.rf with st := .lost } } }
     FieldUp s ∧ (s.f.refs.get .rf).st = .lost ∧ (s.f.refs.get .rf).lostAt + 512 ≤ s.f.clk.fno) ∧
    (let s := xu fun r => { r with slewOn := true }
     FieldUp s ∧ s.f.refs.slewOn = true ∧ s.f.refs.slewRem = 0) ∧
    (let s := fu fun f => { f with
      clk := { f.clk with stamp := BitVec.ofNat 72 (86400 * 2 ^ 32) }, refs := { f.refs with tref := .hold } }
     FieldUp s ∧ s.f.refs.tref = .hold ∧ 86400 * 2 ^ 32 ≤ s.f.clk.stamp.toNat - s.f.refs.holdFrom) ∧
    ([(3, false), (3, true), (2 ^ 27, true)].all fun e =>
      let h : HandOver := ⟨.hold, 63, e.1, 2, e.2⟩
      let s := xu fun r => { r with ho := some h }
      decide (FieldUp s) && decide (s.f.refs.ho = some h) && decide (63 ≤ h.frames) && !s.f.clk.item1 &&
        decide (s.f.refs.planned = []) && decide (s.f.pendW = [])) = true ∧
    (FieldUp up ∧ (up.f.refs.ho = none ∨ up.f.clk.item1 = true)) := by decide +kernel

theorem met_MeasurementsAreTaken :
    (FieldUp up ∧ up.f.readDue = true ∧ up.f.rate.tvalid = false) ∧
    (let s := su fun x => { x with measAt := [up.f.clk.fno] }
     FieldUp s ∧ s.f.measDue = true) := by decide +kernel

/-- A learning window in a half, with marks of offset 0, whose first half estimated `y`. -/
def learning (half n : Nat) (y : Option Rat) : State := fu fun f => { f with rate := { f.rate with
  learn := some ⟨half, 0, List.replicate n ⟨0, 0, 0, 0, 0⟩, 0, 0, y, true, []⟩ } }

theorem met_LearningWindowRuns :
    (∃ w, (learning 1 7 none).f.rate.learn = some w ∧ FieldUp (learning 1 7 none) ∧ w.due = true ∧ w.marks.length < 8) ∧
    (∃ w, (learning 1 8 none).f.rate.learn = some w ∧ FieldUp (learning 1 8 none) ∧ w.due = true ∧ 8 ≤ w.marks.length ∧
      w.half = 1) ∧
    (∃ w, (learning 2 8 (some (2 / 100000000))).f.rate.learn = some w ∧ FieldUp (learning 2 8 (some (2 / 100000000))) ∧
      w.due = true ∧ 8 ≤ w.marks.length ∧ w.half = 2 ∧ w.y1 = some (2 / 100000000) ∧
      ratAbs (2 / 100000000 - w.estimate) * 10000000000 ≤ 200) ∧
    (∃ w, (learning 2 8 (some 1)).f.rate.learn = some w ∧ FieldUp (learning 2 8 (some 1)) ∧ w.due = true ∧ 8 ≤ w.marks.length ∧
      w.half = 2 ∧ w.y1 = some 1 ∧ 200 < ratAbs (1 - w.estimate) * 10000000000 ∧
      (learning 2 8 (some 1)).f.cal.rejc[6]?.getD 0 ≠ 2) ∧
    (let s := fu fun f => { f with
      clk := { f.clk with stamp := BitVec.ofNat 72 (86400 * 2 ^ 32) }, rate := { f.rate with sumOk := 1 } }
     FieldUp s ∧ s.f.rate.sumStart + 86400 ≤ stampSec s.f.clk.stamp ∧ s.f.rate.sumOk ≠ 0) :=
  ⟨⟨_, rfl, by decide +kernel⟩, ⟨_, rfl, by decide +kernel⟩, ⟨_, rfl, by decide +kernel⟩, ⟨_, rfl, by decide +kernel⟩,
    by decide +kernel⟩

/-! ### Hypotheses that are met: supplies and starts -/

theorem met_CrystalStarts :
    (let s := fu fun f => { f with start := { f.start with rc := true, kind := .cold, xtalFail := false, frames := 128 } }
     FieldUp s ∧ s.f.start.rc = true ∧ s.f.start.kind = .cold ∧ s.f.start.xtalFail = false ∧ 128 ≤ s.f.start.frames) ∧
    (let s := fu fun f => { f with
       clk := { f.clk with fno := 64 }, start := { f.start with rc := true, xtalFail := true, xtalFrom := 60, xtalNext := 64 } }
     FieldUp s ∧ s.f.start.rc = true ∧ s.f.xtalRuns = true ∧ s.f.start.xtalFail = true ∧ s.f.start.xtalNext ≤ s.f.clk.fno) ∧
    (FieldUp up ∧ (up.f.start.rc = false ∨ up.f.xtalRuns = false)) := by decide +kernel

theorem met_SourcesFallAndDemote :
    (FieldUp up ∧ up.f.sup.path = up.f.sup.sel ∧ up.f.sup.sel ≠ .vbk ∧ Source.vbat ≠ up.f.sup.path ∧
      Source.vbat ≠ up.f.sup.sel) ∧
    (let s := su fun x => { x with pend := true, path := .vbat }
     FieldUp s ∧ s.f.sup.pend = true ∧ s.f.sup.path ≠ .vbk) ∧
    (let s := su fun x => { x with pend := true, path := .vbk }
     FieldUp s ∧ s.f.sup.pend = true ∧ s.f.sup.path = .vbk) := by decide +kernel

theorem met_SourcesQualify :
    (State.reset.f.jobEv = [] ∧ State.reset.f.start.por = true ∧ State.reset.f.sup.aboveRise .vfld 5000 3000 = true) ∧
    (let s := su fun x => { x with sel := .vbat }
     FieldUp s ∧ s.f.start.por = false ∧ s.f.sup.pend = false ∧ s.f.sup.aboveRise .vfld 5000 3000 = true ∧
       sourceCode .vfld < sourceCode s.f.sup.sel) ∧
    (FieldUp up ∧ up.f.start.por = false ∧ up.f.sup.pend = false ∧ sourceCode up.f.sup.sel ≤ sourceCode .vfld) ∧
    (let s := fu fun f => { f with start := { f.start with holdUp := true } }
     s.f.start.alive = true ∧ s.f.start.holdUp = true ∧ s.f.start.por = false ∧ s.f.sup.aboveRise .vfld 5000 3000 = true) := by
  decide +kernel

theorem met_ColdStartResets :
    (let s := fu fun f => { f with start := { f.start with holdUp := true } }
     s.f.jobEv = [] ∧ s.f.start.holdUp = true) ∧
    (State.reset.f.start.por = true ∧ State.reset.f.sup.best ≠ .vbk ∧ State.reset.f.jrnRo = false) := by decide +kernel

/-- A start under way in a start frame. -/
def starting (k : StartKind) (n : Nat) (urgent : Bool) : State := fu fun f => { f with
  start := { f.start with kind := k, restored := false, mounted := false, s0 := false, wdog := false, frames := n },
  cal := { f.cal with copyA := some [], copyB := some [] }, jrn := { f.jrn with urgentDue := urgent } }

theorem met_FieldStartCompletes :
    (let s := starting .cold 2 false
     FieldUp s ∧ s.f.start.s0 = false ∧ s.f.start.restored = false ∧ s.f.cal.copyA = some [] ∧ s.f.cal.copyB = some [] ∧
       (false && s.f.cal.copyA.isSome) = false ∧ (false && s.f.cal.copyB.isSome) = false ∧ s.f.start.frames < 6) ∧
    ([(StartKind.cold, false), (.warm, true), (.warm, false)].all fun e =>
      let s := starting e.1 6 e.2
      decide (FieldUp s) && !s.f.start.wdog && !s.f.start.mounted && !s.f.start.s0 && decide (6 ≤ s.f.start.frames) &&
        decide (s.f.start.kind = e.1) && decide (s.f.jrn.staging = []) && decide (s.f.jrn.abandoned = none) &&
        decide (s.f.jrn.urgentDue = e.2) && !s.f.jrnRo) = true := by decide +kernel

/-! ### Hypotheses that are met: events, journal -/

/-- A capture at input 3, which completes at tick 5 of `up`. -/
def cap3 (coarse : Bool) : Cap := ⟨3, true, coarse, false, 5, 3, 7, 8, 0, 9, 5⟩

/-- All inputs with one configuration and one level. -/
def inputs (c : Word) (level : BitVec 8) : State := eu fun e => { e with cfg := Vector.replicate 8 c, level := level, arm := 0#8 }

theorem met_EdgesAreCaptured :
    (FieldUp (inputs 0#32 0#8) ∧ evEnabled ((inputs 0#32 0#8).f.evCfg 7) = false) ∧
    (let s := eu fun e => { e with cfg := Vector.replicate 8 1#32, arm := 0xFF#8, armAt := up.f.clk.ticks + 10 }
     FieldUp s ∧ s.f.ev.arm.getLsbD 7 = true ∧ s.f.clk.ticks + 9 < s.f.ev.armAt) ∧
    (let s := inputs 1#32 0x80#8
     FieldUp s ∧ evEnabled (s.f.evCfg 7) = true ∧ s.f.ev.arm.getLsbD 7 = false ∧ evFilt (s.f.evCfg 7) < 2 ∧
       edgeSelected (s.f.evCfg 7) false = false) ∧
    (let s := inputs 9#32 0#8
     FieldUp s ∧ evEnabled (s.f.evCfg 7) = true ∧ s.f.ev.arm.getLsbD 7 = false ∧ evFilt (s.f.evCfg 7) < 2 ∧
       edgeSelected (s.f.evCfg 7) true = true) ∧
    (let s := inputs 0x11#32 0#8
     FieldUp s ∧ evEnabled (s.f.evCfg 7) = true ∧ s.f.ev.arm.getLsbD 7 = false ∧ 2 ≤ evFilt (s.f.evCfg 7) ∧
       s.f.ev.level.getLsbD 7 ≠ true ∧ s.f.ev.level.getLsbD 7 = false) ∧
    ([none, some (cap3 true)].all fun c =>
      let h : FHold := ⟨c, true, up.f.clk.ticks + 9⟩
      let s := eu fun e => { e with hold := e.hold.set 7 (some h) }
      decide (FieldUp s) && decide (s.f.ev.hold[7]? = some (some h)) && decide (h.due ≤ s.f.clk.ticks + 9)) = true := by
  decide +kernel

def captured (coarse : Bool) (n : Nat) : State := eu fun e => { e with
  caps := [cap3 coarse], queue := List.replicate n ⟨1, true, true, false, 0#72⟩ }

theorem met_EventsAreQueued :
    (let s := captured false 255
     FieldUp s ∧ nextCap (s.f.clk.ticks + 6) s.f.ev.caps = some (cap3 false) ∧ (cap3 false).input = 3 ∧
       s.f.ev.queue.length < Config.eventQueueDepth) ∧
    (let s := captured true 256
     FieldUp s ∧ nextCap (s.f.clk.ticks + 5) s.f.ev.caps = some (cap3 true) ∧ (cap3 true).input = 3 ∧
       Config.eventQueueDepth ≤ s.f.ev.queue.length) ∧
    (let s := captured true 0
     FieldUp s ∧ nextCap (s.f.clk.ticks + 5) s.f.ev.caps = some (cap3 true) ∧ (cap3 true).input ≠ 4 ∧
       nextCap (s.f.clk.ticks + 4) s.f.ev.caps = none) := by decide +kernel

/-- A block with `k` records after its header, and a state whose open block it is. -/
def blk7 (k : Nat) : Blk := ⟨7#32, 3, (0, 5) :: (List.range k).map fun i => (i + 1, BitVec.ofNat 256 i)⟩
def staged (k : Nat) : State := fu fun f => { f with
  clk := { f.clk with fno := 60 },
  jrn := { f.jrn with staging := [⟨1, [], 0⟩, ⟨2, [3, 4], 1⟩], blocks := [blk7 k] },
  sched := { f.sched with plan := [⟨5, 200, .flush⟩], deferred := [], arrived := [] } }

theorem met_StagedRecordsAreFlushed :
    (let s := ju fun j => { j with refused := 1 }
     FieldUp s ∧ s.f.start.mounted = true ∧ 0 < s.f.jrn.refused ∧ s.f.roomFor 1 = true) ∧
    (let s := fu fun f => { f with
       clk := { f.clk with fno := 48 }, jrn := { f.jrn with staging := [⟨1, [], 0⟩] } }
     FieldUp s ∧ s.f.start.mounted = true ∧ s.f.jrnRo = false ∧ s.f.stagedAge = some 48 ∧ s.f.flushPending = false) ∧
    (FieldUp (staged 0) ∧ (staged 0).f.stagedAge = some 60) ∧
    ([0, 5, 122].all fun k =>
      let s := staged k
      decide (FieldUp s) && s.f.start.mounted && !s.f.jrnRo &&
        !s.f.start.wdog && decide (s.f.sched.plan = [⟨5, 200, .flush⟩]) && decide (s.f.jrn.abandoned = none) &&
        decide (s.f.jrn.ovwPend = 0) && decide (s.f.jrn.openBlk = some (blk7 k)) && decide (s.f.jrn.staging ≠ []) &&
        decide ((blk7 k).used + s.f.jrn.stagedSlots ≤ 126)) = true := by decide +kernel

/-- Two closed blocks, exported up to block `e`, and an open one. -/
def closed2 : Blk := ⟨2#32, 9, [(0, 5), (127, 8)]⟩
def journal (e : Option Word) (g : Jrn → Jrn) (plan : List Req) : State := fu fun f => { f with
  sched := { f.sched with plan := plan },
  jrn := g { f.jrn with
    policy := true, erased := [1, 2], expBsn := e, roFull := true, ring := [5, 6],
    blocks := [closed2, ⟨3#32, 10, [(0, 5), (127, 8)]⟩, ⟨4#32, 11, [(0, 5)]⟩] } }
def asked (w0 w1 : Word) : State := journal none id [⟨6, 64, .journal w0 w1⟩]

theorem met_JournalIsServedAndCleared :
    ([0x10000000#32, 0x100C0000#32, 0x1FC00000#32].all fun w0 =>
      let s := asked w0 2#32
      decide (FieldUp s) && !s.f.start.wdog && decide (s.f.sched.plan = [⟨6, 64, .journal w0 2#32⟩]) &&
        decide (reqOp w0 = 1) && decide (s.f.jrn.job = none) && decide (s.f.jrn.blk 2#32 = some closed2)) = true ∧
    NoJobs (asked 0x10000000#32 2#32) ∧ reqCnt 0x10000000#32 = 1 ∧
    (let s := asked 0x20000000#32 1#32
     FieldUp s ∧ s.f.start.wdog = false ∧ s.f.sched.plan = [⟨6, 64, .journal 0x20000000#32 1#32⟩] ∧ reqOp 0x20000000#32 = 2 ∧ s.f.jrn.job = none) ∧
    ([0, 6, 8190 - 8].all fun p =>
      let s := ju fun j => { j with scrubPos := p }
      decide (FieldUp s) && s.f.scrubDue && s.f.laneFree 2 && decide (s.f.jrn.scrubPos % 8 ≠ 7) &&
        s.f.jrn.inUse (s.f.jrn.scrubPos / 8)) = true ∧
    (let s := ju fun j => { j with scrubPos := 8191 }
     FieldUp s ∧ s.f.scrubDue = true ∧ s.f.laneFree 2 = true ∧ s.f.jrn.scrubPos = 8191 ∧ s.f.jrn.inUse 1023 = true ∧
       ∀ b ∈ s.f.jrn.blocks, b.phys ≠ 1023) ∧
    (let s := ju fun j => { j with scrubNext := 1 }
     FieldUp s ∧ (s.f.scrubDue = false ∨ s.f.laneFree 2 = false)) ∧
    (let s := journal (some 3#32) id []
     FieldUp s ∧ s.f.planRuns = true ∧ s.f.laneFree 3 = true ∧ s.f.start.mounted = true ∧ s.f.jrn.policy = true ∧ s.f.jrn.roWorn = false ∧ s.f.jrn.erased.length < 4 ∧
       s.f.erasable = some closed2) ∧
    (let s := journal (some 3#32) (fun j => { j with eraseJob := true }) []
     FieldUp s ∧ s.f.laneFree 3 = true ∧ s.f.jrn.eraseJob = true ∧ s.f.jrn.roWorn = false ∧ s.f.erasable = some closed2) ∧
    (let s := journal none (fun j => { j with eraseJob := true }) []
     FieldUp s ∧ s.f.laneFree 3 = true ∧ s.f.jrn.eraseJob = true ∧ s.f.jrn.roWorn = false ∧ s.f.erasable = none) :=
  ⟨by decide +kernel, noJobs_up _ rfl, by decide +kernel, by decide +kernel, by decide +kernel, by decide +kernel,
    by decide +kernel, by decide +kernel, by decide +kernel, by decide +kernel⟩

/-! ### Hypotheses that are met: temperature, calibration, test, commands -/

/-- A conversion begun two frames ago, and a result. -/
def conv0 (start : Nat) : Conv := ⟨⟨2, .snap, 3, 3⟩, start, true, false, none⟩
def latch0 : Latch :=
  ⟨⟨2, .snap, 3, 3⟩, 9, 77#72, 1000000, false, false, ⟨0x11#32, 5#32, 0#32, 0x3A59117F#32, 0x395AF153#32, 0x33ABCC77#32⟩⟩
def cores (start : Nat) (l : Option Latch) : State := fu fun f => { f with
  temp := { f.temp with core := #v[none, some (conv0 start)], latch := #v[none, l] },
  clk := { f.clk with fno := 10 },
  sched := { f.sched with plan := [⟨2, 8, .completion 1⟩] } }

theorem met_ConversionsRun :
    (let s := fu fun f => { f with
       clk := { f.clk with stamp := BitVec.ofNat 72 (20 * 2 ^ 32) }, sup := { f.sup with sel := .vbat, cfg := 0x000A1F33#32 },
       temp := { f.temp with cfg := #v[0x11#32, 0#32, 0x13#32, 0#32] } }
     FieldUp s ∧ s.f.sup.sel = .vbat ∧ bitOf s.f.sup.cfg 12 = true ∧ fieldOf s.f.sup.cfg 16 16 ≠ 0 ∧
       stampSec s.f.clk.stamp % fieldOf s.f.sup.cfg 16 16 = 0 ∧ stampFrames s.f.clk.stamp % 64 = 0 ∧ batChans s.f ≠ []) ∧
    (FieldUp up ∧ up.f.sup.sel ≠ .vbat) ∧
    (let w : Wait := ⟨2, .snap, 3, 3⟩
     let s := fu fun f => { f with
       clk := { f.clk with fno := 10 },
       temp := { f.temp with core := #v[none, none], cfg := Vector.replicate 4 0x11#32, waiting := [w] } }
     FieldUp s ∧ 8 ≤ s.f.start.frames ∧ s.f.startsBlocked = false ∧ s.f.idleOnVbat = false ∧ s.f.contChannel = none ∧
       s.f.temp.core = #v[none, none] ∧ s.f.temp.waiting = [w] ∧ w.ripe s.f.clk.fno = true ∧ s.f.probeType w.ch ≠ 0) ∧
    (let s := cores 10 (some latch0)
     FieldUp s ∧ s.f.temp.core[1]? = some (some (conv0 10)) ∧ s.f.temp.latch[1]? = some (some latch0) ∧
       (conv0 10).start = s.f.clk.fno) ∧
    (let s := cores 8 none
     FieldUp s ∧ s.f.temp.core[1]? = some (some (conv0 8)) ∧ s.f.temp.latch[1]? = some none ∧
       (conv0 8).start + 2 ≤ s.f.clk.fno) ∧
    (let s := cores 8 (some latch0)
     FieldUp s ∧ s.f.start.wdog = false ∧ s.f.temp.latch[1]? = some (some latch0) ∧
       s.f.sched.plan = [⟨2, 8, .completion 1⟩] ∧ latch0.req.ch < 4) := by decide +kernel

/-- The open value is not asked for here. -/
theorem met_ConversionsRun_value (x : BitVec 32) :
    linearise latch0.params latch0.milliOhm latch0.padsOk x = (0x80000000#32, true, false) := rfl

/-- A calibration of lane 3 with some slices done. -/
def act0 (slices : Nat) (run2 : Bool) : CalAct := ⟨.tdc, 3, run2, slices, none, none⟩
def adc0 (fc : Nat) (runs : Option (AdcRun × AdcRun × AdcRun × AdcRun)) : AdcAct := ⟨fc, runs, false⟩
def adcRun0 : AdcRun := ⟨0, []⟩

theorem met_CalibrationsRun :
    (let s := cu fun c => { c with asked := 0x08#7, due := Vector.replicate 7 1 }
     FieldUp s ∧ s.f.cal.act = none ∧ 8 ≤ s.f.start.frames ∧ s.f.nextDue = some (.tdc, 3)) ∧
    (let s := cu fun c => { c with asked := 0x10#7 }
     FieldUp s ∧ s.f.cal.adc = none ∧ 8 ≤ s.f.start.frames ∧ s.f.calAllowed .adc = true ∧ s.f.sup.sel ≠ .vbat ∧
       s.f.cal.asked.getLsbD 4 = true) ∧
    ([(0, false), (102, false), (102, true)].all fun e =>
      let s := cu fun c => { c with act := some (act0 e.1 e.2) }
      decide (FieldUp s) && !s.f.start.wdog && decide (s.f.sched.lane = 0) && !s.f.adcComputeDue &&
        decide (s.f.cal.act = some (act0 e.1 e.2)) && !s.f.cal.sliceUsed &&
        decide ((act0 e.1 e.2).res2 = none) && s.f.calAllowed (act0 e.1 e.2).item) = true ∧
    (let s := cu fun c => { c with adc := some (adc0 up.f.clk.fno none) }
     FieldUp s ∧ s.f.cal.adc = some (adc0 up.f.clk.fno none) ∧ (adc0 up.f.clk.fno none).fc = s.f.clk.fno ∧
       (adc0 up.f.clk.fno none).runs = none) ∧
    (let x := adc0 9 (some (adcRun0, adcRun0, adcRun0, adcRun0))
     let s := fu fun f => { f with clk := { f.clk with fno := 10 }, cal := { f.cal with adc := some x } }
     FieldUp s ∧ s.f.cal.adc = some x ∧ x.fc < s.f.clk.fno ∧ x.runs.isSome = true ∧ x.computed = false ∧
       s.f.start.wdog = false ∧ s.f.sched.lane = 0 ∧ s.f.cal.sliceUsed = false) := by decide +kernel

theorem met_CalibrationsRun_jobs : NoJobs (cu fun c => { c with asked := 0x08#7, due := Vector.replicate 7 1 }) := noJobs_up _ rfl

theorem met_CopiesAreStored :
    (let s := cu fun c => { c with dirty := true, storeReq := true, lastStore := none, store := none }
     FieldUp s ∧ s.f.start.restored = true ∧ (s.f.sup.sel = .vfld ∨ s.f.sup.sel = .iso) ∧ s.f.cal.dirty = true ∧
       s.f.cal.storeReq = true ∧ s.f.cal.lastStore = none ∧ s.f.cal.store = none) ∧
    ([4, 9].all fun n =>
      let s := cu fun c => { c with store := some ⟨[1#8], n, false⟩ }
      decide (FieldUp s) && s.f.planRuns && s.f.laneFree 3 && decide (s.f.cal.store = some ⟨[1#8], n, false⟩) && decide (s.f.jrn.sysBad = [])) = true ∧
    ([0, 1].all fun n =>
      let s := ju fun j => { j with mirrorSave := some ([1#8], n) }
      decide (FieldUp s) && s.f.laneFree 3 && decide (s.f.jrn.mirrorSave = some ([1#8], n)) && decide (s.f.jrn.sysBad = [])) = true ∧
    (let s := fu fun f => { f with ovl := { f.ovl with s2 := none, last := none } }
     FieldUp s ∧ s.f.laneFree 3 = true ∧ (s.f.sup.sel = .vfld ∨ s.f.sup.sel = .iso) ∧ s.f.start.mounted = true ∧ s.f.ovl.last = none ∧
       s.f.ovl.s2 ≠ some s.f.limits ∧ s.f.jrn.sysBad = []) := by decide +kernel

/-- The rotations at the end of their pace. -/
def fieldRot (done used : Nat) : State := fu fun f => { f with
  tst := { f.tst with rot := { f.tst.rot with done := done, since := 65535 } },
  sched := { f.sched with plan := [], used := used } }

theorem met_TestSlicesRotate :
    ([0, 28, 29].all fun n =>
      let s := fieldRot n 0
      decide (FieldUp s) && !s.f.start.wdog && decide (s.f.sched.plan = []) && decide (s.f.sup.sel = .vfld ∨ s.f.sup.sel = .iso) && decide (s.f.tst.job = none) &&
        bitOf s.f.tst.rot.cfg 0 && decide (fieldOf s.f.tst.rot.cfg 16 16 ≤ s.f.tst.rot.since) &&
        decide (17 + s.f.sched.used + s.f.sched.slack + 16 + 50 ≤ s.f.clk.frameLen)) = true ∧
    (let s := fieldRot 0 430
     FieldUp s ∧ s.f.clk.frameLen < 17 + s.f.sched.used + s.f.sched.slack + 16 + 50) ∧
    (let s := hu fun h => { h with rot := { h.rot with done := 1, since := 65535 }, pps := { h.pps with on := true } }
     s.h.run = true ∧ s.h.testJobs = [] ∧ bitOf s.h.rot.cfg 0 = true ∧ s.h.awake = true ∧
       fieldOf s.h.rot.cfg 16 16 ≤ s.h.rot.since ∧ s.h.rot.done = 1 ∧ s.h.radio.st = .sleep) ∧
    (FieldUp up ∧ up.f.laneFree 4 = true) ∧
    (let s := fu fun f => { f with sched := { f.sched with lane := 4 } }
     FieldUp s ∧ s.f.laneFree 4 = false) := by decide +kernel

theorem met_FieldCommandsExecute :
    ([FieldCmd.evq 1, .evq 32, .tripClose, .keepSave].all fun c =>
      let s := pu (.command 5#4 c)
      decide (FieldUp s) && !s.f.start.wdog && decide (s.f.sched.plan = [⟨1, 0, .command 5#4 c⟩])) = true ∧
    noPeriod [] ∧ up.f.per.trip = none ∧ (commandTaken ((pu (.command 5#4 .keepSave)).f.planLeft []) .keepSave).isSome = true ∧
    (let s := pu .flush
     FieldUp s ∧ s.f.sched.plan = [⟨1, 0, .flush⟩] ∧ ReqKind.flush.isCommand = false) :=
  ⟨by decide +kernel, by simp [noPeriod], by decide +kernel, by decide +kernel, by decide +kernel⟩

/-! ### Hypotheses that are met: the barrier -/

theorem met_HostStreamIsTaken :
    (let s := fu fun f => { f with refs := { f.refs with cfg := 1#32 } }
     FieldReady s ∧ s.f.bar.lastSeq ≠ some 15#4 ∧ fieldOf 0x10000000#32 28 4 = 1 ∧ fieldOf 0x20000000#32 28 4 = 2 ∧
       s.f.start.rc = false ∧ bitOf s.f.refs.cfg (1 - 1) = true ∧ bitOf s.f.refs.cfg (2 - 1) = false) ∧
    (let s := fu fun f => { f with start := { f.start with rc := true } }
     FieldReady s ∧ s.f.bar.lastSeq ≠ some 15#4 ∧ s.f.start.rc = true) ∧
    (FieldReady up ∧ up.f.bar.lastSeq ≠ some 15#4 ∧
      ((up.f.readChecks 0x1300).regValue up.f.clk 0x1300).isSome = true ∧ up.f.sched.commands = 0) ∧
    (0x1000 ≤ (0x1300#16).toNat ∧ (accepted 0x1300 0xFFFFFFFF#32).isSome = true) ∧
    (let s := journal none id []
     FieldReady s ∧ s.f.bar.lastSeq ≠ some 15#4 ∧ s.f.jrn.reqBad 0x10000000#32 2#32 = false ∧
       s.f.jrn.reqBad 0x10000000#32 9#32 = true ∧ s.f.jrn.reqBad 0x20040000#32 1#32 = true) := by decide +kernel

/-- An answer kept. -/
def answer5 : Txn := ackOf .cmdx 5#4

theorem met_RepeatsAndDamageAreAnswered :
    (let s := gu fun b => { b with lastSeq := some 5#4, lastAns := some answer5 }
     FieldReady s ∧ s.f.bar.lastSeq = some 5#4 ∧ s.f.bar.lastAns = some answer5) ∧
    (let s := bu fun b => { b with lastSeq := some 5#4, lastAns := some answer5 }
     s.h.run = true ∧ s.h.bar.lastSeq = some 5#4 ∧ s.h.bar.lastAns = some answer5) ∧
    (up.h.run = true ∧ FieldUp up ∧ FieldReady up ∧ (up.h.bar.lane.head?.map (·.ty)) ≠ some .idle) ∧
    (let s := bu fun b => { b with lane := [idleTxn] }
     FieldUp s ∧ (s.h.bar.lane.head?.map (·.ty)) = some .idle) := by decide +kernel

/-- An export of block 2 that waits for the slot after `got`. -/
def export2 (got : Nat) (out : Option (Word × Word)) : Job :=
  ⟨1, 2, 0, 0, 1#8, [], .journal [2#32] (List.replicate got 7) 0 0 out 0 0 0 false, 0⟩
def exporting (j : Job) : State := hu fun h => { h with jobs := h.jobs.setIfInBounds 3 j }

theorem met_FieldStreamIsTaken :
    (up.h.run = true ∧ up.h.bar.lastSeq ≠ some 15#4 ∧ up.h.line.cur = none) ∧
    (let h := up.h
     (waits (.evts 1)).h = h.lineWaits (.evts 1) ∧ (waits .samp).h = h.lineWaits .samp ∧
       (waits (.field .snap 9#4 3)).h = h.lineWaits (.field .snap 9#4 3) ∧ h.line.cur = none ∧ h.run = true ∧
       h.bar.lastSeq ≠ some 15#4) ∧
    ([0x00000000#32, 0x08000000#32].all fun w => !bitOf w 26) = true ∧ (bitOf 0x24000000#32 26 = true ∧
      bitOf 0x24000000#32 27 = false ∧ fieldOf 0x24000000#32 28 4 = 2) ∧
    ([0, 126].all fun n =>
      let w0 := BitVec.ofNat 32 (0x10000000 + n * 2 ^ 21)
      let j := export2 n (some (withField w0 0 18 0, 2#32))
      let s := exporting j
      s.h.run && decide (s.h.bar.lastSeq ≠ some 15#4) && decide (s.h.jobs[3]? = some j) && j.live && decide (j.kind = 1) &&
        ((List.range 3).all fun k => !(s.h.jobOf k).live) && decide (reqOp w0 = 1)) = true := by decide +kernel

/-- The code that a `CMDX` carries is open; a word with it exists whatever it is. -/
theorem met_FieldStreamIsTaken_code : ∃ w : Word, fieldOf w 24 8 = (Config.cmdxCode 2).toNat ∧ fieldOf w 0 4 = (9#4).toNat ∧
    fieldOf w 8 8 = 0 := by
  refine ⟨(Config.cmdxCode 2).setWidth 32 <<< 24 ||| 9#32, ?_⟩
  generalize Config.cmdxCode 2 = c
  revert c
  decide +kernel

theorem met_AnswersEndTransactions :
    (let u : Unans := ⟨⟨.regrd, 5#4, [0x122C#32], none⟩, 0, false, false⟩
     let s := bu fun b => { b with unans := some u, queue := [] }
     s.h.run = true ∧ s.h.bar.unans = some u ∧ s.h.bar.queue = [] ∧ s.h.line.cur = none ∧ u.txn.seq = 5#4 ∧
       u.txn.ty = .regrd ∧ u.txn.words = [0x122C#32]) ∧
    ([0, 2, 3].all fun n =>
      let u := un .evt n false false
      let s := gu fun b => { b with unans := some u, queue := [] }
      decide (FieldUp s) && s.f.bar.sendTick && decide (s.f.bar.unans = some u) && decide (s.f.bar.queue = []) &&
        decide (u.txn.seq = 5#4) && decide (u.txn.ty = .evt) && decide (typeCode u.txn.ty = (7#4).toNat)) = true ∧
    (let u := un .wake 0 false false
     let s := gu fun b => { b with unans := some u, queue := [] }
     FieldUp s ∧ s.f.bar.sendTick = true ∧ s.f.bar.unans = some u ∧ s.f.bar.queue = [] ∧ u.txn.seq = 5#4 ∧
       typeCode u.txn.ty = (12#4).toNat) ∧
    (let u := un .mark 0 false false
     let h := { up.h with bar := { up.h.bar with unans := some u, queue := [] } }
     let s : State := { up with h := h.lineWaits .mark }
     s.h = h.lineWaits .mark ∧ h.line.cur = none ∧ h.run = true ∧ h.bar.unans = some u ∧ h.bar.queue = [] ∧
       u.txn.seq = 5#4 ∧ u.txn.ty = .mark) ∧
    (let u : Unans := ⟨⟨.cmdx, 5#4, [], some .snap⟩, 0, false, false⟩
     let h := { up.h with bar := { up.h.bar with unans := some u, queue := [] } }
     let s : State := { up with h := h.lineWaits (.field .snap 9#4 0) }
     s.h = h.lineWaits (.field .snap 9#4 0) ∧ h.line.cur = none ∧ h.run = true ∧ h.bar.unans = some u ∧ h.bar.queue = [] ∧
       u.txn.seq = 5#4 ∧ u.txn.ty = .cmdx ∧ u.txn.cmd = some .snap ∧ 10 ≤ (20#8).toNat) ∧
    (let h := readSent 0
     let s := asking 0
     s.h = h.lineAsks (.registerRead 0x1604#16 1) (.read (0x1604#16).toNat) ∧ h.line.cur = none ∧ h.run = true ∧ h.bar.link = true ∧
       0x1000 ≤ (0x1604#16).toNat ∧ s.mapped (0x1604#16).toNat = true ∧ inSnapshot (0x1604#16).toNat = false ∧
       (0x1604#16).toNat ≠ 0x122C ∧ h.bar.queue = [] ∧
       h.bar.unans.map (·.txn) = some ⟨.regrd, 5#4, [regWord 0 (0x1604#16).toNat], none⟩) := by decide +kernel

theorem met_LinkMessagesAct :
    (up.h.run = true ∧ up.h.bar.link = true ∧
      (up.h.bar.frames + 1) % 16 = (1#4).toNat ∧ (up.h.bar.frames + 1) % 16 ≠ (0#4).toNat) ∧
    (let s := bu fun b => { b with frames := 15 }
     s.h.run = true ∧ s.h.bar.link = true ∧ (s.h.bar.frames + 1) % 16 = (0#4).toNat) ∧
    (let s := bu fun b => { b with link := false, train := none }
     s.h.run = true ∧ s.h.bar.link = false ∧ s.h.bar.train = none) ∧
    ([true, false].all fun l =>
      let s := gu fun b => { b with linked := l, room := 400 }
      decide (FieldUp s) && s.f.bar.sendTick && !s.f.bar.training && decide (s.f.cal.act = none) &&
        decide (s.f.tst.job = none) && decide (s.f.wake.sent = []) && s.f.bar.fits 1) = true ∧
    FieldReady up := by decide +kernel

theorem met_LinkMessagesAct_jobs : NoJobs (gu fun b => { b with room := 400 }) := noJobs_up _ rfl

theorem met_LinkEnds :
    (let h := { up.h with uart := { up.h.uart with mode := .machine }, bar := { up.h.bar with since := 4#8 } }
     let s : State := { up with h := h.lineWaits (.field .snap 9#4 0) }
     s.h = h.lineWaits (.field .snap 9#4 0) ∧ h.line.cur = none ∧ h.run = true ∧ h.bar.link = true ∧
       4 ≤ h.bar.since.toNat ∧ h.uart.mode ≠ .human ∧ h.line.tx = []) ∧
    (let s := gu fun b => { b with echoMiss := 4 }
     FieldUp s ∧ s.f.bar.sendTick = true ∧ 4 ≤ s.f.bar.echoMiss ∧ s.f.cal.act = none ∧ s.f.wake.sent = []) := by decide +kernel

theorem met_LinkEnds_jobs :
    let h := { up.h with uart := { up.h.uart with mode := .machine }, bar := { up.h.bar with since := 4#8 } }
    NoJobs { up with h := h.lineWaits (.field .snap 9#4 0) } := noJobs_up _ rfl

theorem met_TimeoutsRetryThenFail :
    ([(0, false), (2, false), (2, true)].all fun e =>
      let u := un .evt e.1 e.2 false
      let s := bu fun b => { b with unans := some u }
      let s' := gu fun b => { b with unans := some u }
      s.h.run && decide (s.h.bar.unans = some u) && decide (u.retries < 3) && decide (FieldUp s') &&
        decide (s'.f.bar.unans = some u)) = true ∧
    (let u : Unans := ⟨⟨.cmdx, 5#4, [], some .snap⟩, 3, false, false⟩
     let h := { up.h with bar := { up.h.bar with unans := some u, queue := [] } }
     let s : State := { up with h := h.lineWaits (.field .snap 9#4 16) }
     s.h = h.lineWaits (.field .snap 9#4 16) ∧ h.line.cur = none ∧ h.run = true ∧ h.bar.link = true ∧
       h.bar.unans = some u ∧ h.bar.queue = [] ∧ 3 ≤ u.retries ∧ u.hold = false ∧ u.txn.ty = .cmdx ∧
       u.txn.cmd = some .snap) ∧
    ([false, true].all fun r =>
      let u := un .evt 3 false r
      let s := gu fun b => { b with unans := some u, resendDue := true }
      decide (FieldUp s) && decide (s.f.bar.unans = some u) && decide (u.resend = r) && decide (3 ≤ u.retries) &&
        s.f.bar.linked && s.f.bar.resendDue) = true ∧
    (FieldUp up ∧ (up.f.bar.linked = false ∨ up.f.bar.resendDue = false)) ∧
    (let h := readSent 3
     let s := asking 3
     s.h = h.lineAsks (.registerRead 0x1604#16 1) (.read (0x1604#16).toNat) ∧ h.line.cur = none ∧ h.run = true ∧ h.bar.link = true ∧
       0x1000 ≤ (0x1604#16).toNat ∧ s.mapped (0x1604#16).toNat = true ∧ inSnapshot (0x1604#16).toNat = false ∧ h.bar.queue = [] ∧
       h.bar.unans = some ⟨⟨.regrd, 5#4, [regWord 0 (0x1604#16).toNat], none⟩, 3, false, false⟩) := by decide +kernel

/-! ### Hypotheses that are met: the host side -/

theorem met_HostStartsAndStops :
    (State.reset.h.run = true ∧ State.reset.h.bannerDue = true) ∧
    (let s := hu fun h => { h with run := false }
     s.h.run = false) ∧
    (up.h.run = true ∧ up.h.line.resetDue = false ∧ up.h.power = true) ∧
    (let s := hu fun h => { h with pwrqDue := true, bar := { h.bar with unans := none, queue := [] } }
     s.h.run = true ∧ s.h.bar.link = true ∧ s.h.pwrqDue = true ∧ s.h.bar.unans = none ∧ s.h.bar.queue = []) := by
  decide +kernel

/-- A line being received. -/
def typing (m : UMode) (buf : Text) (g : Uart → Uart) : State := uu fun u => g { u with mode := m, buf := buf }

theorem met_LinesAreReceived :
    ([([], UMode.human), (List.replicate 239 'x', .machine), (List.replicate 240 'x', .machineChk)].all fun e =>
      decide (Receiving (typing e.2 e.1 id))) = true ∧
    (let s := typing .machine ['a'] id
     Receiving s ∧ s.h.uart.mode ≠ .human) ∧
    (let s := typing .human ['a', 'b'] id
     Receiving s ∧ s.h.uart.mode = .human ∧ s.h.uart.buf = ['a'] ++ ['b']) ∧
    (let s := typing .human [] fun u => { u with open' := false }
     s.h.run = true ∧ s.h.uart.rxEn = true ∧ s.h.uart.open' = false) ∧
    (let s := typing .machine [] id
     Receiving s ∧ s.h.uart.mode = .machine ∧ s.h.uart.buf = [] ∧ s.h.uart.long = false ∧ s.h.uart.bad = false ∧
       s.h.line.tx = []) ∧
    (let s := typing .human (txt "ID?") id
     Receiving s ∧ s.h.uart.mode = .human ∧ s.h.uart.buf ≠ [] ∧ s.h.uart.buf.head? ≠ some '@' ∧ s.h.uart.long = false ∧
       s.h.uart.bad = false ∧ s.h.line.lines.length < 8 ∧ parseLine s.h.uart.buf = ([Parsed.cmd .idQuery], 1, none)) ∧
    ([(txt "ID?", true, false), ([], false, true)].all fun e =>
      let s := typing .human e.1 fun u => { u with long := e.2.1, bad := e.2.2 }
      decide (Receiving s) && decide (s.h.uart.buf ≠ [] ∨ s.h.uart.bad = true) &&
        decide (s.h.uart.long = true ∨ s.h.uart.bad = true) && decide (s.h.line.lines.length < 8)) = true ∧
    (let s := typing .human [] fun u => { u with lastCr := true }
     Receiving s ∧ s.h.uart.lastCr = true) := by decide +kernel

theorem met_BreaksRatesAndResponses :
    (up.h.run = true ∧ up.h.uart.rxEn = true ∧ up.h.uart.rxLow = false) ∧
    (let s := typing .human [] fun u => { u with rxLow := true, brk := true }
     s.h.run = true ∧ s.h.uart.rxEn = true ∧ s.h.uart.rxLow = true ∧ s.h.uart.brk = true ∧ s.h.sendMode = .human) ∧
    (let s := typing .human [] fun u => { u with rxLow := true, brk := false }
     s.h.run = true ∧ s.h.uart.rxLow = true ∧ s.h.uart.brk = false) ∧
    (let s := typing .human [] fun u => { u with rxEn := false, rxLow := true, stuck := true }
     s.h.run = true ∧ s.h.uart.stuck = true ∧ s.h.sendMode = .human ∧ s.h.uart.buf = []) ∧
    (let s := hu fun h => { h with uart := { h.uart with on := true, idle := 64 }, pps := { h.pps with on := false } }
     s.h.run = true ∧ s.h.uart.on = true ∧ s.h.awake = false ∧ 64 ≤ s.h.uart.idle) ∧
    (let s := typing .machine [] fun u => { u with next := some 9600 }
     s.h.uart.next = some 9600 ∧ 9600 ≠ s.h.uart.baud) ∧
    (let s := hu fun h => { h with hf := 700, uart := { h.uart with prev := some (9600, 60), buf := [] } }
     s.h.run = true ∧ s.h.uart.prev = some (9600, 60) ∧ 60 + 640 ≤ s.h.hf ∧ s.h.uart.buf = []) ∧
    (let x : TxItem := ⟨.response, okLines, ⟨some .machine, none, false⟩⟩
     let s := hu fun h => { h with line := { h.line with tx := [x] } }
     s.h.line.tx = [x] ∧ s.h.line.full = []) := by decide +kernel

theorem met_HostFramesRunLines :
    ([(true, 0#8), (true, 1#8), (true, 255#8), (false, 0#8), (false, 255#8)].all fun e =>
      let s := bu fun b => { b with link := e.1, since := e.2 }
      decide (HostIdle s) && decide (s.h.bar.link = e.1) && decide (s.h.bar.since = e.2)) = true ∧
    ([0, 1, 4, 5, 8].all fun n =>
      let s := hu fun h => { h with line := { h.line with lines := List.replicate n (idLine false) } }
      s.h.run && decide (s.h.line.cur = none) && !s.h.line.resetReq &&
        decide (s.h.line.lines = List.replicate n (idLine false))) = true ∧
    (let s := hu fun h => { h with line := { h.line with lines := [idLine true, idLine true] } }
     s.h.run = true ∧ s.h.line.cur = none ∧ s.h.line.resetReq = false ∧ s.h.line.lines = idLine true :: [idLine true]) := by
  decide +kernel

/-- Section 6 of 02_frame.md: host work that does not fit sets OVERRUN and counts in `OVR_H`, if there is a slice to defer. -/
theorem test_host_deferral :
    (let s := hu fun h => h.putJob 0 fun j => { j with kind := 6, st := 2, info := .desc 0 }
     match exec (.hostFrameBoundary true) s, exec (.hostFrameBoundary true) up with
     | .next t, .next u =>
       s.h.slicesDue && decide (t.h.ovrH = s.h.ovrH + 1) && bitOf t.h.latched 3 && decide (u.h.ovrH = up.h.ovrH) &&
         !bitOf u.h.latched 3
     | _, _ => false) = true := by
  decide +kernel

theorem met_HostReadsAndJobsAdvance :
    (let s := hu fun h => { h with pps := { h.pps with on := true, last := some 4 }, bar := { h.bar with mir := 8594 } }
     s.h.run = true ∧ s.h.pps.on = true ∧ s.h.pps.last = some 4 ∧ 4 + 8590 ≤ s.h.bar.mir + 0) ∧
    (let s := hu fun h => { h with pon := { h.pon with readDue := true }, bar := { h.bar with unans := none, queue := [] } }
     s.h.run = true ∧ s.h.bar.link = true ∧ s.h.pon.readDue = true ∧ s.h.bar.unans = none ∧ s.h.bar.queue = []) ∧
    (let s := hu fun h => { h with table := { h.table with merge := some 0 } }
     s.h.run = true ∧ s.h.bar.link = true ∧ s.h.table.merge.isSome = true) ∧
    ([0, 127].all fun n =>
      let s := exporting (export2 n none)
      s.h.run && decide (s.h.jobs[3]? = some (export2 n none)) && (export2 n none).live && decide ((export2 n none).kind = 1) &&
        ((List.range 3).all fun k => !(s.h.jobOf k).live) && decide (s.h.bar.unans = none) && decide (s.h.bar.queue = [])) = true ∧
    (let j : Job := ⟨1, 2, 0, 0, 1#8, [], .journal [] [] 2 2 none 0 0 0 false, 0⟩
     let x : JrnJob := ⟨false, 1#32, 5#32, 2#32, 6#72, 7, [1, 2], 0, 0, []⟩
     let s := { exporting j with f := { up.f with jrn := { up.f.jrn with job := some x } } }
     s.h.run = true ∧ s.h.jobs[3]? = some j ∧ j.live = true ∧ j.kind = 1 ∧
       ((List.range 3).all fun k => !(s.h.jobOf k).live) = true ∧ s.f.jrn.job = some x ∧ x.verify = false) := by
  decide +kernel

theorem met_HostReadsAndJobsAdvance_dump :
    let j : Job := ⟨7, 1, 0, 0, 0#8, [], .desc 41000, 0⟩
    let s := hu fun h => { h with jobs := h.jobs.setIfInBounds 3 j, table := ⟨true, true, false, [], none⟩ }
    s.h.run = true ∧ s.h.jobs[3]? = some j ∧ j.live = true ∧ ((List.range 3).all fun k => !(s.h.jobOf k).live) = true ∧
      41000 + 1024 < s.h.table.len := by decide +kernel

theorem met_RegisterEventsAct :
    FieldUp up ∧ (up.h.run = true ∧ fcodeBad 26214400 = false) ∧
    (let s := fu fun f => { f with tset := { f.tset with filled := true, fields := tsetFill f.clk } }
     FieldUp s ∧ s.f.refs.tracking = false ∧ s.f.tset.filled = true ∧
       tsetBad s.f.tset.fields (s.f.tset.wmask.getLsbD 3) = false) ∧
    (up.f.refs.tracking || !up.f.tset.filled || tsetBad up.f.tset.fields (up.f.tset.wmask.getLsbD 3)) = true ∧
    (up.f.al[1]?).isSome = true ∧
    (up.h.radio.st = .sleep ∧ up.h.radio.tx = none) ∧
    (let s := ru fun r => { r with tx := some ⟨3#8, [1#8], 0, none, .bank, .stby, 0, 0, none, false⟩ }
     s.h.run = true ∧ s.h.radio.tx.isSome = true) := by decide +kernel

/-! ### Hypotheses that are met: the radio -/

theorem met_RadioReceives :
    ([(some RfTarget.idle, RfSt.sleep), (some .stby, .synth), (some .rx, .synth)].all fun e =>
      let s := ru fun r => { r with goal := e.1, st := e.2, cx := 0#32, trsw := [(0, true, false)] }
      s.h.run && decide (NoRadioLine s) && !s.h.radio.rxAsk && decide (s.h.radio.goal = e.1) && decide (s.h.radio.st = e.2)) = true ∧
    (let h := { up.h with radio := { up.h.radio with goal := some .idle } }
     let s : State := { up with h := h.lineWaits .radio }
     s.h = h.lineWaits .radio ∧ h.line.cur = none ∧ h.run = true ∧ h.radio.rxAsk = false ∧ h.radio.goal = some .idle) ∧
    (let s := ru fun r => { r with st := .rx }
     s.h.run = true ∧ s.h.radio.st = .rx ∧ s.h.radio.susp = false ∧ s.h.radio.rxNow = none ∧ s.h.radio.tx = none) ∧
    ([(0, 0x0010#16), (7, 0x0008#16), (8, 0x0008#16), (0, 1#16), (0, 0#16)].all fun e =>
      let s := ru fun r => { r with
        st := .rx, rxNow := some stamp0, rxq := List.replicate e.1 ⟨1#8, stamp0, false, -60, []⟩ }
      s.h.run && decide (s.h.radio.rxNow = some stamp0) && decide (s.h.radio.tx = none) &&
        decide (s.h.radio.rxq.length = e.1)) = true ∧
    (let s := ru fun r => { r with st := .idle, calIq := ⟨none, some 7⟩ }
     s.h.run = true ∧ s.h.radio.st = .idle ∧ s.h.radio.goal = none ∧ s.h.radio.tx = none ∧ s.h.radio.calIq.run1 = some 7 ∧
       s.h.radio.rej7 ≠ 2#4) ∧
    (let s := hu fun h => { h with hf := 9, radio := { h.radio with st := .idle, calIq := ⟨some 9, none⟩ } }
     s.h.run = true ∧ s.h.radio.st = .idle ∧ s.h.radio.goal = none ∧ s.h.radio.tx = none ∧
       s.h.radio.calIq = ⟨some 9, none⟩ ∧ 9 ≤ s.h.hf) := by decide +kernel

theorem met_RadioReceives_phr :
    (0x0010#16).getLsbD 0 = false ∧ phrLen 0x0020#16 ≠ 0 ∧ phrLen 0x0010#16 = 0 ∧ phrLen 0xFFE0#16 = 2047 ∧
      (0xFFE1#16).getLsbD 0 = true := by decide +kernel

/-- A pending transmission of a line. -/
def tx0 (ph : TxPhase) (prior : RfSt) : TxPend := ⟨3#8, [1#8, 2#8], 0, none, ph, prior, 5, 0, none, false⟩
def sending (ph : TxPhase) (prior : RfSt) (cx : Bool) : State := ru fun r => { r with
  st := .txwait, tx := some (tx0 ph prior), pa := 0#32, cx := if cx then 1#32 else 0#32, rxAsk := false, rxNow := none }

theorem met_TransmissionsRun :
    ([(TxPhase.bank, true), (.bank, false), (.sample, true), (.wait, true), (.air, true)].all fun e =>
      [RfSt.rx, .stby].all fun p =>
        let s := sending e.1 p e.2
        s.h.run && decide (s.h.radio.tx = some (tx0 e.1 p)) && decide ((tx0 e.1 p).phase = e.1) && decide ((tx0 e.1 p).job = none) &&
          decide (s.h.radio.rxNow = none) && decide (s.h.radio.goal = none) && decide (s.h.radio.cxEn = e.2) &&
          !s.h.radio.rxAsk && decide ((tx0 e.1 p).comp ≠ 2) && decide ((tx0 e.1 p).prior = p)) = true ∧
    (let s := ru fun r => { r with rxAsk := true }
     s.h.run = true ∧ NoRadioLine s ∧ s.h.radio.rxAsk = true) ∧
    (let s := ru fun r => { r with tx := none, cx := 1#32, st := .rx, susp := false }
     s.h.run = true ∧ s.h.radio.tx = none ∧ s.h.radio.cxEn = true ∧ s.h.radio.st = .rx ∧ s.h.radio.listen = false ∧
       s.h.radio.susp = false) := by decide +kernel

/-! ### Hypotheses that are met: the whole part -/

theorem met_StepRunsTheFrontCommand : State.reset.pending = [] := rfl

theorem met_StepsKeepTheInvariant :
    Inv { up with pending := [.idQuery, .frameBoundary] } ∧
      (match step { up with pending := [.idQuery, .frameBoundary] } with
      | .next t => decide (t.pending = [.frameBoundary])
      | _ => false) = true :=
  ⟨⟨by unfold Bounded; decide +kernel, rfl⟩, by decide +kernel⟩

theorem met_StartsSetTheRegisters :
    (hu fun h => { h with run := false }).h.run = false ∧ State.reset.f.start.por = true ∧ State.reset.f.sup.best ≠ .vbk ∧
      State.reset.f.jrnRo = false := by decide +kernel

theorem met_MapIsExact : HostIdle up ∧ mappedAt (0x0008#16).toNat = false ∧ mappedAt (0xFFFF#16).toNat = false ∧
    mappedAt (0x0001#16).toNat = false ∧ mappedAt 0x1B6C = true := by decide +kernel

theorem met_SidesMeetAtTheBarrier :
    (hostRow .idQuery = true ∧ up.h.line.cur = none ∧ (match exec .idQuery up with | .next _ => true | _ => false) = true) ∧
    (hostRow (.rfTransitionDone 9#8) = true ∧ (waits .radio).h.line.cur = some { oneLine with wait := some .radio } ∧
      oneLine.rest = [] ∧ oneLine.groups = []) ∧
    (hostRow .hostPowerOff = true ∧ hostStops .hostPowerOff = true) ∧
    (fieldRow .telemetrySlice = true ∧ (match exec .telemetrySlice up with | .next _ => true | _ => false) = true) := by
  decide +kernel

/-! ### Well-formedness: an ill-formed term for each check -/

/-- Three psdu octets, a packet of a given length and level. -/
def packet (n : Nat) (rssi : Int) : RxFrame := ⟨0#16, List.replicate n 0#8, rssi⟩

/-- Instants outside a frame, a bad source, levels past their converters, words past a message (02_frame.md, 04_barrier.md). -/
def illFormedEvents : List Instr :=
  [.demotionDecide 513 false, .sourceQualify .vbk 0 0 0, .sourceQualify .vfld 513 0 0, .vbatMeasure 4096,
    .evEdge 0 true 513 0 0 false, .evEdge 0 true 0 30517579 0 false, .filterHoldComplete 0 513, .eventQueue 0 513 0,
    .journalServiceSlice [⟨8, 0#2, 0⟩], .calSlice ⟨List.replicate 33 0, 0#32, 0#32⟩, .adcCalFrame adcRun0 adcRun0 adcRun0 adcRun0,
    .jdatReceive 0#4 0#32 0#32 [], .jdatReceive 0#4 0#32 0#32 (List.replicate 72 0#32),
    .jdatReceive 0#4 0#32 0#32 (List.replicate 9 0#32), .rspxReceive 0#4 0#32 (List.replicate 65 0#32),
    .reservedTypeReceive .fh 12#4 0#4, .reservedTypeReceive .hf 10#4 0#4, .lineReceive 0x20#8 false, .ppsEdge (2 ^ 27) 100,
    .rfSfdDetect (2 ^ 27), .rfPacketEnd (packet 2048 (-60)), .rfPacketEnd (packet 1 (-121)), .rfPacketEnd (packet 1 (-9)),
    .rfServiceSlice 0#8 4096, .cxGrantSample true 0#8 4096, .cxGrantRise 0#8 4096, .rfTxEnd (2 ^ 27) 0, .rfCalSlice .xl 0 false,
    .standbySourceFall .vbk]

/-- Arguments that no written form gives (15_command_line.md Table 15-2, R596). -/
def illFormedTexts : List Instr :=
  [.cmdxReceive 0#4 0#32 (.note []), .cmdxReceive 0#4 0#32 (.sealKey 0 []), .cmdxReceive 0#4 0#32 (.calLoad 0 []),
    .time 10000 1 1 0 0 0, .time 2031 100 1 0 0 0, .tmark (.rf 0 0 1000000000),
    .al (.set 1 (some 100) none none none none none none 0#5), .al (.set 1 none none none (some 10) none none none 0#5),
    .keep 0 [], .note [], .note ['a', ';'], .note [Char.ofNat 0x7F], .note (List.replicate 241 'a'), .sealKey 0 [],
    .calLoad 0 [1#8], .rfTx [], .rfBuf 0 []]

theorem test_illFormed_events_refused : (illFormedEvents.filter Instr.wellFormed) = [] := by decide +kernel
theorem test_illFormed_texts_refused : (illFormedTexts.filter Instr.wellFormed) = [] := by decide +kernel

/-! ### Worked examples of the spec -/

/-- 15_command_line.md section 10: the check code of `ST?`, and the error lines. -/
theorem test_check_code : crc16 (textBytes (txt "ST?")) = 0xCEC5#16 := by decide +kernel
theorem test_error_lines : [12, 13, 21, 31].map (fun e => errLine e none) =
    [txt "ERR 12 tag reuse", txt "ERR 13 check mismatch", txt "ERR 21 invalid date", txt "ERR 31 pair group inconsistent"] := by
  decide +kernel

/-- The line of the second `@a4`. -/
theorem test_line_of_two_writes : parseLine (txt "W 0x1210,0x00053000;W 0x1218,0x80009278") =
    ([.cmd (.registerWrite 0x1210#16 0x00053000#32), .cmd (.registerWrite 0x1218#16 0x80009278#32)], 2, none) := by decide +kernel

/-- 12_journal.md section 10: the slot of Table 12-12. -/
theorem test_sample_record : bytesLE 32 (recSample 0 0xF1B3C4000000000#72 3#16
      [(0, 0x000E00, 0, 2), (1, 0xFFFB00, 0, 2), (2, 0x000B00, 0, 4), (3, 0x800000, 1, 4)]).toNat =
    [0x01#8, 0x00#8, 0#8, 0#8, 0#8, 0#8, 0x40#8, 0x3C#8, 0x1B#8, 0x0F#8, 0x00#8, 0x03#8, 0x00#8, 0x0F#8, 0x00#8, 0x0E#8, 0x00#8,
      0x20#8, 0x00#8, 0xB0#8, 0xFF#8, 0x0F#8, 0x02#8, 0x00#8, 0x0B#8, 0x00#8, 0x40#8, 0x00#8, 0x00#8, 0x00#8, 0x18#8, 0x04#8] := by
  decide +kernel

/-- 06_timescales.md section 8: the days of the week, and 2100 is not a leap year. -/
theorem test_days_of_week : [dowOf (daysSince 2031 2 28), dowOf (daysSince 2031 3 1), dowOf (daysSince 2100 1 1)] = [5, 6, 5] := by
  decide +kernel
theorem test_march_follows_february :
    civilOf (secsOf ⟨2031, 2, 28, 23, 59, 59⟩ + 1) = ⟨2031, 3, 1, 0, 0, 0⟩ ∧ validDate 2100 2 29 = false := by decide +kernel

/-- The refusal of 2100-02-29 there (R224: `LAST_REJ` sets). -/
theorem test_time_refused : (match exec (.time 2100 2 29 12 0 0) up with
    | .next t => decide ((t.h.line.tx.map fun x => x.lines.head?) = [some (txt "ERR 21 invalid date")] ∧
        t.f.tset.lastRej = true ∧ t.f.pendW = [])
    | _ => false) = true := by decide +kernel

/-- 10_event_capture.md section 8: EV1 in the dead time of its lane is coarse, with the stamp of tick 23 after the boundary. -/
def unit41 : State := fu fun f => { f with
  clk := { f.clk with stamp := 0xF1B3C2028000000#72 },
  ev := { f.ev with cfg := Vector.replicate 8 1#32, arm := 0#8, dead := Vector.replicate 4 (10 ^ 12) } }
theorem test_dead_time_is_coarse : (match exec (.evEdge 1 true 22 30000000 0 false) unit41 with
    | .next t => decide ((t.f.ev.caps.map fun c => (c.input, c.coarse, c.st1)) = [(1, true, 0xF1B3C20282E0000#72)])
    | _ => false) = true := by decide +kernel

/-- 20_register_map.md section 6: PERB is filled, written without `APPLY`, and `PER_STAT` shows the committed state. -/
def perbStaged : State := fu fun f => { f with per := { f.per with stg := some (0x04#8, 0x00000701#32) } }
theorem test_perb_reads_staging :
    [0x109C, 0x1240, 0x1244].map (perbStaged.f.regValue perbStaged.f.clk) = [some 4#32, some 0x701#32, some 0#32] := by
  decide +kernel

/-- 15_command_line.md section 10: the apply of AL2 with the minute 60 is refused, the staging kept. -/
def al2Staged : State := fu fun f => { f with al := f.al.set 1 { f.al[1] with stg := some (0x00056000#32, 0#32, 0#32) } }
theorem test_bad_minute_refused : (match exec (.registerWrite 0x1218#16 0x80009278#32) al2Staged with
    | .next t => decide ((t.h.line.tx.map fun x => x.lines.head?) = [some (txt "ERR 31 pair group inconsistent")] ∧
        t.f.al[1].time = al2Staged.f.al[1].time ∧ t.f.pendW = [] ∧ t.f.al[1].shown.1 = 0x00056000#32)
    | _ => false) = true := by decide +kernel

/-- 02_frame.md: at rate 0 a frame is 512 ticks, and at 2^-10 below it 513. -/
theorem test_frame_lengths : ticksToBoundary 0 (2 ^ 49) = 512 ∧ ticksToBoundary 0 (2 ^ 49 - 2 ^ 39) = 513 := by decide +kernel

/-- Table 4-4: the check value of the CRC-8 over "123456789", and the first `TICK` of a link as it stands on its lane. -/
theorem test_crc8 : crc8 (textBytes (txt "123456789")) = 0xF4#8 := by decide +kernel
theorem test_tick_message : message 4#4 0#4 0#32 = 0x4000000000C8#48 ∧
    (messageBits (message 4#4 0#4 0#32)).length = 52 := by decide +kernel

/-- Table 19-8: the entry of `SEC` in the Layout Table. -/
theorem test_sec_entry : ((regTable.find? fun r => r.addr = 0x1000).map fun r => hexBytes r.bytes) =
    some (txt "03141800001002040000000000FFFFFF0900000003534543") := by decide +kernel

/-- Table 21-7: the switch pads of a receiving radio; on the way into TX, TRSW1 rises 1.0 µs after TRSW2 has fallen. -/
def rxThenTx : HostSide := (up.h.rfTo .rx).rfTo .tx
theorem test_switch_pads : ((up.h.rfTo .rx).padTrsw1, (up.h.rfTo .rx).padTrsw2) = (Pad.low, Pad.high) ∧
    (rxThenTx.padTrsw1, rxThenTx.padTrsw2) = (Pad.high, Pad.low) ∧
    rxThenTx.radio.trsw = [(0, false, false), (1000, true, false)] := by decide +kernel

/-! ### Steps -/

/-- An empty queue idles; a command is taken from the front. -/
theorem test_empty_queue_idles : step State.reset = .next State.reset := rfl
theorem test_front_is_taken : (match step { up with pending := [.stQuery, .idQuery] } with
    | .next t => decide ((t.h.line.tx.map fun x => x.lines.head?) = [some (txt "=C0000000")] ∧ t.pending = [.idQuery])
    | _ => false) = true := by decide +kernel

/-- The rows give no bits: no word spells a command. -/
theorem test_no_words (s : State) (n w : Nat) : decodeTableWord n w = none ∧ s.withFetchWord n w = s := ⟨rfl, rfl⟩

end Sys2Proof.Machine.Tests
end

section
/-! The rows of one side leave the other side as it was (01_two_sides.md). The rows of the field side reach the host side by
their news alone (`State.withField_news`). The text commands of the host side make no access to the field window and name no
group of the field side, so that nothing in their line acts on the field side, the applies at its end included. -/

namespace Sys2Proof.Machine

/-! ### Rows of the field side -/

/-- A step of the field side that is taken where it is due. -/
theorem State.withField_ite_jobsOnly (s : State) (g : Field) (c : Prop) [Decidable c] :
    JobsOnly s.h (if c then s.withField g else s).h := by
  split
  · exact (s.withField_news g).1
  · exact .refl s.h

/-- What the rows of the field side do to the host side. -/
theorem exec_fieldRow_jobsOnly (s : State) (i : Instr) (hi : fieldRow i = true) :
    ∃ t, exec i s = .next t ∧ JobsOnly s.h t.h := by
  cases i <;> cases hi
  case fieldUnlink | keepByteWrite | tsetGo | alApply | perbApply | prbApply =>
    exact ⟨_, rfl, s.withField_ite_jobsOnly _ _⟩
  case fieldStreamResend =>
    refine ⟨_, rfl, ?_⟩
    split
    · split <;> rfl
    · rfl
  all_goals exact ⟨_, rfl, (s.withField_news _).1⟩

/-! ### A command of a line that acts on the host side alone -/

/-- From `l` to `k` the field side stays, and every group that the line newly names is one of the host side (Table 20-7). -/
def Lx.KeepsField (l k : Lx) : Prop := k.s.f = l.s.f ∧ ∀ e ∈ k.c.groups, e ∈ l.c.groups ∨ 9 ≤ e.1

theorem Lx.KeepsField.same {l k : Lx} (hf : k.s.f = l.s.f) (hg : k.c.groups = l.c.groups) : l.KeepsField k :=
  ⟨hf, fun _ h => .inl (hg ▸ h)⟩

theorem Lx.KeepsField.refl (l : Lx) : l.KeepsField l := .same rfl rfl

theorem Lx.KeepsField.trans {l k m : Lx} (a : l.KeepsField k) (b : k.KeepsField m) : l.KeepsField m :=
  ⟨b.1.trans a.1, fun e h => (b.2 e h).elim (a.2 e) .inr⟩

/-- A command that may be refused first. -/
theorem Lx.KeepsField.guard {l : Lx} {c : Prop} [Decidable c] {e : Nat} {r : Lx × CmdRes} (h : l.KeepsField r.1) :
    l.KeepsField (if c then l.fail e else r).1 := by
  split
  · exact .refl l
  · exact h

theorem Lx.name_keepsField (l : Lx) (gid : Nat) (hg : 9 ≤ gid) : l.KeepsField (l.name gid) := by
  unfold Lx.name
  split
  · exact .refl l
  · refine ⟨rfl, fun e he => (List.mem_append.mp he).imp_right fun h => ?_⟩
    rw [List.mem_singleton.mp h]
    exact hg

theorem Lx.stageRadio_keepsField (l : Lx) (r : Option Radio) (gid : Nat) (hg : 9 ≤ gid) :
    l.KeepsField (l.stageRadio r gid).1 := by
  cases r with
  | none => exact .refl l
  | some r =>
    have hh : l.KeepsField (l.host fun h => { h with radio := r }) := .same rfl rfl
    exact hh.trans (Lx.name_keepsField _ gid hg)

theorem Lx.begin_keepsField (l : Lx) (kind : Nat) (lines : List Text) (info : JobInfo) :
    l.KeepsField (l.begin kind lines info).1 := by
  unfold Lx.begin
  split <;> exact .same rfl rfl

theorem Lx.sendMark_keepsField (l : Lx) (src : Nat) (x : HStamp) (sec frac : Nat) :
    l.KeepsField (l.sendMark src x sec frac).1 := .guard (.same rfl rfl)

theorem cmdJob_keepsField (n : Option Nat) (l : Lx) : l.KeepsField (cmdJob n l).1 := by
  cases n with
  | none => exact .refl l
  | some n => exact .guard (.refl l)

theorem cmdTmark_keepsField (a : TmarkArg) (l : Lx) : l.KeepsField (cmdTmark a l).1 := by
  refine .guard ?_
  cases a with
  | pps sec =>
    refine .guard ?_
    split
    · exact .refl l
    · exact .guard (Lx.sendMark_keepsField ..)
  | rf id sec nano =>
    refine .guard ?_
    split
    · exact .refl l
    · exact Lx.sendMark_keepsField ..

theorem cmdRfState_keepsField (g : RfTarget) (l : Lx) : l.KeepsField (cmdRfState g l).1 := by
  simp only [cmdRfState]
  split <;> exact .same rfl rfl

theorem cmdRfTxj_keepsField (len : Nat) (l : Lx) : l.KeepsField (cmdRfTxj len l).1 := by
  refine .guard (.guard (.guard ?_))
  split <;> exact .same rfl rfl

theorem cmdRftx_keepsField (n : Nat) (l : Lx) : l.KeepsField (cmdRftx n l).1 := by
  unfold cmdRftx
  split <;> exact .refl l

theorem cmdRfqPop_keepsField (id : Nat) (l : Lx) : l.KeepsField (cmdRfqPop id l).1 := by
  unfold cmdRfqPop
  split
  · split <;> exact .same rfl rfl
  · exact .refl l

theorem cmdDescList_keepsField (ty : Option Nat) (l : Lx) : l.KeepsField (cmdDescList ty l).1 := by
  cases ty with
  | none => exact .guard (.refl l)
  | some n => exact .guard (.guard (.refl l))

/-! ### A line whose commands act on the host side alone -/

/-- The answer of a command changes the line's record, or sends an access on the lane. -/
theorem Lx.absorb_keepsField (l : Lx) (r : CmdRes) : l.KeepsField (l.absorb r) := by
  cases r <;> exact .same rfl rfl

@[simp] theorem Lx.settle_f (l : Lx) : l.settle.f = l.s.f := by
  unfold Lx.settle
  split <;> rfl

theorem Lx.applyGroup_host_f (l : Lx) (gid : Nat) (hg : 9 ≤ gid) : (l.applyGroup gid).1.s.f = l.s.f := by
  simp [Lx.applyGroup, hg]

/-- The groups of the host side apply within the host side (R565). -/
theorem Lx.applyGroups_host_f (gs : List (Nat × Nat)) (hg : ∀ e ∈ gs, 9 ≤ e.1) (l : Lx) :
    (Lx.applyGroups gs l).s.f = l.s.f := by
  induction gs generalizing l with
  | nil => rfl
  | cons e gs ih =>
    have ha := l.applyGroup_host_f e.1 (hg e List.mem_cons_self)
    have hr := ih fun x hx => hg x (List.mem_cons_of_mem e hx)
    unfold Lx.applyGroups
    dsimp only
    split
    · exact ha
    · exact (hr _).trans ha
    · exact (hr _).trans ha

/-- Commands that leave the field side, on a line that names host groups alone, leave it to the end of the line. -/
theorem Lx.runRest_host_f (ps : List Parsed) (hp : ∀ p ∈ ps, ∀ l : Lx, l.KeepsField (l.command p).1) (l : Lx)
    (hg : ∀ e ∈ l.c.groups, 9 ≤ e.1) : (Lx.runRest ps l).s.f = l.s.f := by
  induction ps generalizing l with
  | nil => exact Lx.applyGroups_host_f _ hg _
  | cons p ps ih =>
    have hk := hp p List.mem_cons_self { l with c := { l.c with rest := ps, k := l.c.k + 1 } }
    have hka := fun r => hk.trans (Lx.absorb_keepsField _ r)
    unfold Lx.runRest
    dsimp only
    split
    · exact hk.1
    · split
      · exact (hka _).1
      · refine (ih (fun q hq => hp q (List.mem_cons_of_mem p hq)) _ fun e he => ?_).trans (hka _).1
        exact ((hka _).2 e he).elim (hg e) id

/-- A text command that leaves the field side leaves it as a row. -/
theorem State.textCmd_f (s : State) (i : Instr) (hi : ∀ l : Lx, l.KeepsField (runCmd i l).1) : (s.textCmd i).f = s.f := by
  unfold State.textCmd
  split
  · rfl
  · dsimp only
    split
    · rfl
    · have hp : ∀ p ∈ [Parsed.cmd i], ∀ l : Lx, l.KeepsField (l.command p).1 := by simpa [Lx.command] using hi
      have hn : ∀ e ∈ ((ownLine i).cur 0).groups, 9 ≤ e.1 := by simp [HLine.cur]
      change (s.startLine (ownLine i) 0).f = s.f
      rw [State.startLine_own, Lx.settle_f, Lx.runRest_host_f _ hp _ hn]
      rfl

theorem Lx.absorb_rest_nil (l : Lx) (r : CmdRes) (h : l.c.rest = []) : (l.absorb r).c.rest = [] := by
  cases r <;> simp [Lx.absorb, Lx.fresh, Lx.hold, h]

/-- A waiting line with no command left and no group named ends when it goes on, or waits again. -/
theorem State.resume_last_f (s : State) (r : CmdRes) (hc : ∀ c, s.h.line.cur = some c → c.rest = [] ∧ c.groups = []) :
    (s.resume r).f = s.f := by
  unfold State.resume State.resumeWith
  split
  · rfl
  · next c hcur =>
    obtain ⟨hr, hg⟩ := hc c hcur
    obtain ⟨hf, hn⟩ := Lx.absorb_keepsField ⟨s.host HostSide.ran, { c with wait := none }⟩ r
    rw [Lx.settle_f]
    split
    · exact hf
    · rw [Lx.absorb_rest_nil _ _ hr, Lx.runRest_host_f]
      · exact hf
      · simp
      · exact fun e he => (hn e he).elim (by simp [hg]) id

/-! ### The radio's answer to a line -/

/-- The line that waits for the radio has no command left and has named no group. -/
def HostSide.RadioLineLast (h : HostSide) : Prop :=
  ∀ c, h.line.cur = some c → c.wait = some .radio → c.rest = [] ∧ c.groups = []

theorem State.radioAnswer_f (s : State) (r : CmdRes) (hl : s.h.RadioLineLast) : (s.radioAnswer r).f = s.f := by
  unfold State.radioAnswer
  split
  · next hw =>
    refine s.resume_last_f r fun c hc => hl c hc ?_
    simpa [State.waiting, hc] using hw
  · rfl

theorem HostSide.RadioLineLast.of_line {h k : HostSide} (hl : h.RadioLineLast) (hk : k.line.cur = h.line.cur) :
    k.RadioLineLast := by
  unfold HostSide.RadioLineLast
  rw [hk]
  exact hl

theorem JobsOnly.cur {h t : HostSide} (a : JobsOnly h t) : t.line.cur = h.line.cur := by rw [a]

theorem HostSide.rfEnterRx_line (h : HostSide) : h.rfEnterRx.1.line = h.line := by
  simp only [HostSide.rfEnterRx]
  split
  · split <;> rfl
  · rfl

theorem HostSide.rfDone_line (h : HostSide) (lock : Byte) : (h.rfDone lock).1.line = h.line := by
  simp only [HostSide.rfDone]
  split
  · rfl
  · split
    · rfl
    · rfl
    · rfl
    · split <;> rfl
    · split <;> split <;> exact HostSide.rfEnterRx_line _

/-- A grant sample that refuses a receive request leaves the line that asked. -/
theorem HostSide.cxSample_deny_cur (h : HostSide) (level : Bool) (htemp : Byte) (vpa e : Nat)
    (he : (h.cxSample level htemp vpa).2 = some e) : (h.cxSample level htemp vpa).1.line.cur = h.line.cur := by
  unfold HostSide.cxSample at he ⊢
  dsimp only at he ⊢
  split
  · split
    · rfl
    · exact (HostSide.setBit_jobsOnly _ sbCxDeny).cur
  · next hask =>
    rw [if_neg hask] at he
    split at he
    · split at he
      · cases he
      · split at he <;> cases he
    · cases he

/-! ### Rows of the host side -/

/-- A step of the host side that is taken where it is due. -/
theorem State.host_ite_f (s : State) (g : HostSide → HostSide) (c : Prop) [Decidable c] :
    (if c then s.host g else s).f = s.f := by
  split <;> rfl

theorem exec_rfTransitionDone_f (s : State) (lock : Byte) (hl : s.h.RadioLineLast) :
    ∃ t, exec (.rfTransitionDone lock) s = .next t ∧ t.f = s.f := by
  refine ⟨_, rfl, ?_⟩
  split
  · rfl
  · dsimp only
    split
    · exact State.radioAnswer_f _ _ (hl.of_line (congrArg LineSt.cur (s.h.rfDone_line lock)))
    · rfl

theorem exec_cxGrantSample_f (s : State) (level : Bool) (htemp : Byte) (vpa : Nat) (hl : s.h.RadioLineLast) :
    ∃ t, exec (.cxGrantSample level htemp vpa) s = .next t ∧ t.f = s.f := by
  refine ⟨_, rfl, ?_⟩
  split
  · rfl
  · dsimp only
    split
    · next he => exact State.radioAnswer_f _ _ (hl.of_line (s.h.cxSample_deny_cur level htemp vpa _ he))
    · rfl

/-- The field side hears nothing of a host side that starts or stops. -/
theorem exec_hostStops_f (s : State) (i : Instr) (hi : hostStops i = true) :
    ∃ t, exec i s = .next t ∧ (t.f = s.f ∨ t.f = { s.f with bar := { s.f.bar with lane := [] } }) := by
  cases i <;> cases hi
  case hostPowerOff => exact ⟨_, rfl, .inr rfl⟩
  case hostStart v =>
    refine ⟨_, rfl, ?_⟩
    split
    · exact .inl rfl
    · exact .inr rfl
  case nrstLow ns =>
    refine ⟨_, rfl, ?_⟩
    split
    · exact .inl rfl
    · split
      · exact .inr rfl
      · split
        · exact .inr rfl
        · exact .inl rfl

/-- The other rows of the host side leave the field side as it was. -/
theorem exec_hostRow_f (s : State) (i : Instr) (hi : hostRow i = true) (hs : hostStops i = false)
    (hl : s.h.RadioLineLast) : ∃ t, exec i s = .next t ∧ t.f = s.f := by
  cases i with
  | hostPowerOff | hostStart | nrstLow => cases hs
  | rfTransitionDone lock => exact exec_rfTransitionDone_f s lock hl
  | cxGrantSample level htemp vpa => exact exec_cxGrantSample_f s level htemp vpa hl
  | vhostFall => exact ⟨_, rfl, rfl⟩
  | ppsEdge => exact ⟨_, rfl, s.host_ite_f (fun _ => _) _⟩
  | vhostRise | baudSwitch | responseSent =>
    refine ⟨_, rfl, ?_⟩
    split <;> rfl
  | baudRevert =>
    refine ⟨_, rfl, ?_⟩
    split
    · exact s.host_ite_f _ _
    · rfl
  | pwrqSend | banner | uartByteReceive | lineReceive | uartBreak | breakEnd | lineStuck | receiverReenable | uartIdleOff
  | ponPolarityRead | rfSfdDetect | rfPacketEnd | rfServiceSlice | cxGrantRise | cxGrantFall | cxTimeout | rfTxEnd
  | synthUnlock | rfCalSlice | rfchApply | rfphyApply | rfpaApply =>
    exact ⟨_, rfl, s.host_ite_f _ _⟩
  | idQuery | mode | modeQuery | uartBaudQuery | resetHost | stQuery | ppsQuery | rfQuery | rfqQuery =>
    exact ⟨_, rfl, s.textCmd_f _ fun l => .same rfl rfl⟩
  | jobQuery n => exact ⟨_, rfl, s.textCmd_f _ (cmdJob_keepsField n)⟩
  | tmark a => exact ⟨_, rfl, s.textCmd_f _ (cmdTmark_keepsField a)⟩
  | rfState g => exact ⟨_, rfl, s.textCmd_f _ (cmdRfState_keepsField g)⟩
  | rftxQuery n => exact ⟨_, rfl, s.textCmd_f _ (cmdRftx_keepsField n)⟩
  | rfTxj len => exact ⟨_, rfl, s.textCmd_f _ (cmdRfTxj_keepsField len)⟩
  | rfqPop id => exact ⟨_, rfl, s.textCmd_f _ (cmdRfqPop_keepsField id)⟩
  | descListQuery ty => exact ⟨_, rfl, s.textCmd_f _ (cmdDescList_keepsField ty)⟩
  | uartBaud | pps => exact ⟨_, rfl, s.textCmd_f _ fun l => .guard (.same rfl rfl)⟩
  | jobPartQuery | descQuery => exact ⟨_, rfl, s.textCmd_f _ fun l => .guard (.guard (.guard (.refl l)))⟩
  | rfCh | rfMode | rfFrame | rfPwr =>
    exact ⟨_, rfl, s.textCmd_f _ fun l => .guard (l.stageRadio_keepsField _ _ (by decide))⟩
  | rfCx | rfBuf => exact ⟨_, rfl, s.textCmd_f _ fun l => .guard (.guard (.same rfl rfl))⟩
  | rfTx => exact ⟨_, rfl, s.textCmd_f _ fun l => .guard (.guard (.guard (.same rfl rfl)))⟩
  | descDump => exact ⟨_, rfl, s.textCmd_f _ fun l => .guard (l.begin_keepsField _ _ _)⟩
  | _ => cases hi

/-- Settles O60: a text command of the host side keeps the field side and names host groups alone (`Lx.KeepsField`), so that the end
of its line keeps it too; a row of the field side reaches the host side by its news, which the job slots take (`JobsOnly`). -/
theorem sidesMeetAtTheBarrier : Obligations.SidesMeetAtTheBarrier := by
  refine ⟨fun s t i hi ht hl => ?_, fun s t i hi ht => ?_⟩
  · cases hs : hostStops i with
    | true =>
      obtain ⟨t', he, hf⟩ := exec_hostStops_f s i hs
      cases ht.symm.trans he
      exact hf.imp_right fun h => ⟨rfl, h⟩
    | false =>
      obtain ⟨t', he, hf⟩ := exec_hostRow_f s i hi hs hl
      cases ht.symm.trans he
      exact .inl hf
  · obtain ⟨t', he, hf⟩ := exec_fieldRow_jobsOnly s i hi
    cases ht.symm.trans he
    exact hf

end Sys2Proof.Machine
end

section
/-! The field window as the lines and the host stream reach it (04_barrier.md, 20_register_map.md): what a read takes of the field side,
which addresses are mapped, what a write that is accepted leaves. -/

namespace Sys2Proof.Machine

/-! ### Registers read beside the barrier's own state -/

/-- Of the barrier's field end the field window shows its three counters alone. -/
theorem Field.regValue_bar (f : Field) (b : FBar) (c : Clk) (a : Nat) (hcrc : b.crcHF = f.bar.crcHF)
    (hretry : b.retryF = f.bar.retryF) (hdup : b.dupF = f.bar.dupF) :
    ({ f with bar := b } : Field).regValue c a = f.regValue c a := by
  simp only [Field.regValue, hcrc, hretry, hdup]
  rfl

/-- The parity check of a KEEP byte leaves the barrier, and does not look at it. -/
theorem Field.readChecks_bar (f : Field) (b : FBar) (a : Nat) :
    ({ f with bar := b } : Field).readChecks a = { f.readChecks a with bar := b } := by
  unfold Field.readChecks
  split
  · unfold Field.keepCheck
    dsimp only
    split <;> rfl
  · rfl

/-- A register read changes the KEEP bytes' failures and the status bits at most. -/
theorem Field.readChecks_rest (f : Field) (a : Nat) :
    f.readChecks a = { f with keep := (f.readChecks a).keep, stat := (f.readChecks a).stat } := by
  unfold Field.readChecks
  split
  · unfold Field.keepCheck
    split <;> rfl
  · rfl

theorem Field.readChecks_jobEv (f : Field) (a : Nat) : (f.readChecks a).jobEv = f.jobEv := by rw [f.readChecks_rest]

/-- A read of a mapped register is answered with its value (R113). -/
theorem Field.answerRead_mapped (f : Field) (seq : BitVec 4) (a : Nat) (w : Word)
    (hw : (f.readChecks a).regValue f.clk a = some w) : f.answerRead seq a = (f.readChecks a, ⟨.regdat, seq, [w], none⟩) := by
  simp [Field.answerRead, Field.readReg, hw]

/-! ### The addresses that are mapped -/

theorem regIdx_eq_some {base n a i : Nat} (h : regIdx base n a = some i) : i < n ∧ a = base + 4 * i := by
  simp only [regIdx] at h
  split at h
  · next hb =>
    simp at hb
    cases h
    omega
  · cases h

/-- An address is none of an array's where a predicate that holds of it fails for each of theirs. -/
theorem regIdx_eq_none {p : Nat → Bool} {base n a : Nat} (ha : p a = true)
    (hn : ((List.range n).all fun i => !p (base + 4 * i)) = true) : regIdx base n a = none := by
  cases hi : regIdx base n a with
  | none => rfl
  | some i =>
    obtain ⟨hlt, he⟩ := regIdx_eq_some hi
    have := List.all_eq_true.mp hn i (List.mem_range.mpr hlt)
    rw [← he, ha] at this
    cases this

theorem ne_of_holds {p : Nat → Bool} {a b : Nat} (ha : p a = true) (hb : p b = false) : a ≠ b := by
  rintro rfl
  rw [ha] at hb
  cases hb

theorem firstReg_isSome (l : List (Option Word)) : (firstReg l).isSome = l.any Option.isSome := by
  induction l with
  | nil => rfl
  | cons o l ih => cases o <;> simp [firstReg, ih]

/-- The arrays of registers that the field window maps (Table 20-4): first address, registers. -/
def fieldArrays : List (Nat × Nat) :=
  [(0x1000, 11), (0x1040, 8), (0x1060, 1), (0x1064, 1), (0x1080, 7), (0x109C, 1), (0x10C0, 9), (0x1100, 8), (0x1140, 33), (0x1200, 8),
    (0x1220, 5), (0x1240, 1), (0x1244, 1), (0x1250, 4), (0x1260, 4), (0x1300, 64), (0x1400, 8), (0x1420, 1), (0x1424, 1), (0x1428, 1),
    (0x1430, 8), (0x1500, 1), (0x1504, 1), (0x1508, 1), (0x150C, 1), (0x1510, 4), (0x1520, 4), (0x1530, 4), (0x1540, 4), (0x1560, 12),
    (0x1600, 12), (0x1680, 1), (0x1684, 1), (0x1688, 1), (0x1690, 1), (0x1694, 1), (0x1700, 13), (0x1740, 8), (0x1780, 5), (0x1800, 64),
    (0x1A00, 92)]

/-- An address of the field window is mapped. -/
def fieldMapped (a : Nat) : Bool := fieldArrays.any fun e => (regIdx e.1 e.2 a).isSome

/-- Whether a register of the field window has a value is a matter of its address. -/
theorem Field.regValue_isSome (f : Field) (c : Clk) (a : Nat) : (f.regValue c a).isSome = fieldMapped a := by
  simp only [Field.regValue, firstReg_isSome, fieldMapped, fieldArrays, List.any_cons, List.any_nil, Option.isSome_map]

/-- The registers that a write reaches at the commit are none outside the map. -/
theorem rwRule_of_unmapped {a : Nat} (ha : fieldMapped a = false) : rwRule a = none := by
  have hp : (!fieldMapped a) = true := by rw [ha]; rfl
  have hne (b : Nat) (hb : (!fieldMapped b) = false) : a ≠ b := ne_of_holds (p := fun a => !fieldMapped a) hp hb
  have hidx (base n : Nat) (hn : ((List.range n).all fun i => !!fieldMapped (base + 4 * i)) = true) : regIdx base n a = none :=
    regIdx_eq_none (p := fun a => !fieldMapped a) hp hn
  simp (disch := decide +kernel) only [rwRule, hne, hidx, Option.isSome_none, if_false, Bool.false_eq_true]

theorem fieldMapped_of_rwRule {a : Nat} {r : RwRule} (h : rwRule a = some r) : fieldMapped a = true := by
  by_contra ha
  rw [rwRule_of_unmapped (Bool.not_eq_true _ ▸ ha)] at h
  cases h

/-! ### Writes that are accepted -/

theorem exists_rule_of_accepted {a : Nat} {w v : Word} (h : accepted a w = some v) :
    ∃ r, rwRule a = some r ∧ v = w &&& r.mask ∧ r.bad v = false := by
  unfold accepted at h
  cases hr : rwRule a with
  | none => rw [hr] at h; cases h
  | some r =>
    simp only [hr, Option.bind_some] at h
    split at h
    · cases h
    · next hb =>
      cases h
      exact ⟨r, rfl, rfl, by simpa using hb⟩

/-- A write of a register that is staged in no pair group waits for the commit where its value is accepted (R55, R612). -/
theorem Field.writeReg_accepted (f : Field) (c : Clk) {a : Nat} {w v : Word} (h : accepted a w = some v) :
    f.writeReg c a w = (f.pend (.reg a v), 0) := by
  obtain ⟨r, hr, rfl, hb⟩ := exists_rule_of_accepted h
  have hp : (rwRule a).isSome = true := by rw [hr]; rfl
  have hne (b : Nat) (hn : (rwRule b).isSome = false) : a ≠ b := ne_of_holds (p := fun a => (rwRule a).isSome) hp hn
  have hidx (base n : Nat) (hn : ((List.range n).all fun i => !(rwRule (base + 4 * i)).isSome) = true) : regIdx base n a = none :=
    regIdx_eq_none (p := fun a => (rwRule a).isSome) hp hn
  simp (disch := decide +kernel) only [Field.writeReg, hne, hidx, hr, hb, if_false, Bool.false_eq_true]

theorem Field.answerWrite_accepted (f : Field) (seq : BitVec 4) {a : Nat} {w v : Word} (h : accepted a w = some v) :
    f.answerWrite seq a w = (f.pend (.reg a v), ackOf .regwr seq) := by
  simp [Field.answerWrite, f.writeReg_accepted f.clk h]

end Sys2Proof.Machine
end

section
/-! The host stream at the field side (04_barrier.md): a transaction with a new `SEQ`, and what each transaction leaves. -/

namespace Sys2Proof.Machine

/-! ### A transaction with a new `SEQ` -/

/-- A field end that is ready executes a transaction whose `SEQ` is new, and keeps its answer (R113 to R115). -/
theorem Field.accept_new (f : Field) (seq : BitVec 4) (run : Field → Field × Txn) (hrun : f.runs = true) (hres : f.start.restored = true)
    (hfr : 2 ≤ f.start.frames) (htick : f.bar.sendTick = true) (hseq : f.bar.lastSeq ≠ some seq) :
    f.accept seq run = (run f).1.answers seq (run f).2 := by
  simp [Field.accept, Field.hear, htick, Field.barReady, hrun, hres, hfr, hseq, Field.answer, Field.answers]

/-- On a field side that is ready a transaction with a new `SEQ` is executed and answered; nothing else happens in the step. -/
theorem State.toField_new (s : State) (ty : MsgType) (seq : BitVec 4) (run : Field → Field × Txn) (hs : FieldReady s)
    (hseq : s.f.bar.lastSeq ≠ some seq) {g : Field} {a : Txn} (hrun : run s.f = (g, a)) (hg : g.jobEv = s.f.jobEv) :
    HostTxn s (s.toField ty seq run) ty seq g a := by
  obtain ⟨⟨hr, hj⟩, hres, hfr, htick⟩ := hs
  have hacc : s.f.accept seq run = g.answers seq a := by
    rw [s.f.accept_new seq run hr hres hfr htick hseq, hrun]
  have hnews : (g.answers seq a).jobEv = [] := hg.trans hj
  simp only [State.toField, State.host_f, hr, if_true, hacc, State.withField_quiet _ _ hnews]
  refine ⟨rfl, rfl, ?_⟩
  simp only [State.host_pending]

/-! ### Accesses held during housekeeping (R37) -/

theorem Field.heldNak_ready (f : Field) (ty : MsgType) (seq : BitVec 4) (hrun : f.runs = true) (hres : f.start.restored = true)
    (hfr : 2 ≤ f.start.frames) (hseq : f.bar.lastSeq ≠ some seq) : f.heldNak true ty seq = f.answer (nakOf ty seq 3) := by
  simp [Field.heldNak, Field.barReady, hrun, hres, hfr, hseq]

/-- An access that arrives during housekeeping is answered `NAK` 0x03, then as outside it. -/
theorem State.toField_held (s : State) (ty : MsgType) (seq : BitVec 4) (run : Field → Field × Txn) (hs : FieldReady s)
    (hseq : s.f.bar.lastSeq ≠ some seq) {g : Field} {a : Txn} (hrun : run (s.f.answer (nakOf ty seq 3)) = (g, a))
    (hg : g.jobEv = s.f.jobEv) (hlane : g.bar.lane = s.f.bar.lane ++ [nakOf ty seq 3]) :
    (({ s with f := s.f.heldNak true ty seq } : State).toField ty seq run).f.bar.lane = s.f.bar.lane ++ [nakOf ty seq 3, a] := by
  have hnak := s.f.heldNak_ready ty seq hs.1.1 hs.2.1 hs.2.2.1 hseq
  have hready : FieldReady { s with f := s.f.answer (nakOf ty seq 3) } := hs
  have htxn := State.toField_new { s with f := s.f.answer (nakOf ty seq 3) } ty seq run hready hseq hrun hg
  rw [hnak, htxn.2.1]
  simp [Field.answers, hlane]

/-! ### The transactions of the host stream -/

/-- A mark of the PPS or the RF reference names its bit of `REF_CFG` (Table 4-6). -/
theorem Field.takeMark_source (f : Field) (seq : BitVec 4) (w0 w1 w2 w3 w4 : Word) (hsrc : fieldOf w0 28 4 = 1 ∨ fieldOf w0 28 4 = 2) :
    f.takeMark seq w0 w1 w2 w3 w4 =
      if f.start.rc = true ∨ bitOf f.refs.cfg (fieldOf w0 28 4 - 1) = false then (f, nakOf .mark seq 0x16)
      else ({ f with refs := { f.refs with
        marksNow := f.refs.marksNow ++ [markOf (if fieldOf w0 28 4 = 1 then .pps else .rf) w0 w1 w2 w3 w4] } }, ackOf .mark seq) := by
  rcases hsrc with h | h <;> simp [Field.takeMark, h]

theorem markReceive_takes (s : State) (q : BitVec 4) (w0 w1 w2 w3 w4 : Word) (hs : FieldReady s) (hseq : s.f.bar.lastSeq ≠ some q)
    (hsrc : fieldOf w0 28 4 = 1 ∨ fieldOf w0 28 4 = 2) :
    (s.f.start.rc = false → bitOf s.f.refs.cfg (fieldOf w0 28 4 - 1) = true →
      ∃ t, exec (.markReceive q w0 w1 w2 w3 w4) s = .next t ∧ HostTxn s t .mark q { s.f with refs := { s.f.refs with
        marksNow := s.f.refs.marksNow ++ [markOf (if fieldOf w0 28 4 = 1 then .pps else .rf) w0 w1 w2 w3 w4] } } (ackOf .mark q)) ∧
    (s.f.start.rc = true ∨ bitOf s.f.refs.cfg (fieldOf w0 28 4 - 1) = false →
      ∃ t, exec (.markReceive q w0 w1 w2 w3 w4) s = .next t ∧ HostTxn s t .mark q s.f (nakOf .mark q 0x16)) := by
  have htake := s.f.takeMark_source q w0 w1 w2 w3 w4 hsrc
  refine ⟨fun hrc hbit => ⟨_, rfl, ?_⟩, fun hoff => ⟨_, rfl, ?_⟩⟩
  · exact s.toField_new .mark q _ hs hseq (htake.trans (if_neg (by simp [hrc, hbit]))) rfl
  · exact s.toField_new .mark q _ hs hseq (htake.trans (if_pos hoff)) rfl

/-- The value of a register is the same behind a message on the lane. -/
theorem Field.answerRead_answer (f : Field) (t : Txn) (seq : BitVec 4) (a : Nat) (w : Word)
    (hw : (f.readChecks a).regValue f.clk a = some w) :
    (f.answer t).answerRead seq a = ({ f.readChecks a with bar := (f.answer t).bar }, ⟨.regdat, seq, [w], none⟩) := by
  have hchecks := f.readChecks_bar (f.answer t).bar a
  have hbar : (f.readChecks a).bar = f.bar := by rw [f.readChecks_rest]
  have hval : ((f.answer t).readChecks a).regValue f.clk a = some w := by
    refine (congrArg (·.regValue f.clk a) hchecks).trans ((Field.regValue_bar _ _ _ _ ?_ ?_ ?_).trans hw) <;> rw [hbar] <;> rfl
  exact ((f.answer t).answerRead_mapped seq a w hval).trans (congrArg (·, _) hchecks)

theorem regrdReceive_answers (s : State) (q : BitVec 4) (l : BitVec 2) (a : BitVec 16) (w : Word) (hs : FieldReady s)
    (hseq : s.f.bar.lastSeq ≠ some q) (hw : (s.f.readChecks a.toNat).regValue s.f.clk a.toNat = some w) :
    (∃ t, exec (.regrdReceive q l a false) s = .next t ∧
      HostTxn s t .regrd q (s.f.readChecks a.toNat) ⟨.regdat, q, [w], none⟩) ∧
    ∃ t, exec (.regrdReceive q l a true) s = .next t ∧
      t.f.bar.lane = s.f.bar.lane ++ [nakOf .regrd q 3, ⟨.regdat, q, [w], none⟩] := by
  have hr : s.f.runs = true := hs.1.1
  have hjob : (s.f.readChecks a.toNat).jobEv = s.f.jobEv := s.f.readChecks_jobEv a.toNat
  refine ⟨⟨_, rfl, ?_⟩, ⟨_, rfl, ?_⟩⟩
  · simp only [hr, if_true]
    exact s.toField_new .regrd q _ hs hseq (s.f.answerRead_mapped q a.toNat w hw) hjob
  · simp only [hr, if_true]
    exact s.toField_held .regrd q _ hs hseq (s.f.answerRead_answer (nakOf .regrd q 3) q a.toNat w hw) hjob rfl

theorem regwrReceive_answers (s : State) (q : BitVec 4) (l : BitVec 2) (a : BitVec 16) (w v : Word) (hs : FieldReady s)
    (hseq : s.f.bar.lastSeq ≠ some q) (hv : accepted a.toNat w = some v) :
    (∃ t, exec (.regwrReceive q l a w false) s = .next t ∧
      HostTxn s t .regwr q { s.f with pendW := s.f.pendW ++ [.reg a.toNat v] } (ackOf .regwr q)) ∧
    ∃ t, exec (.regwrReceive q l a w true) s = .next t ∧
      t.f.bar.lane = s.f.bar.lane ++ [nakOf .regwr q 3, ackOf .regwr q] := by
  have hr : s.f.runs = true := hs.1.1
  refine ⟨⟨_, rfl, ?_⟩, ⟨_, rfl, ?_⟩⟩
  · simp only [hr, if_true]
    exact s.toField_new .regwr q _ hs hseq (s.f.answerWrite_accepted q hv) rfl
  · simp only [hr, if_true]
    exact s.toField_held .regwr q _ hs hseq ((s.f.answer (nakOf .regwr q 3)).answerWrite_accepted q hv) rfl rfl

theorem jreqReceive_answers (s : State) (q : BitVec 4) (w0 w1 : Word) (hs : FieldReady s) (hseq : s.f.bar.lastSeq ≠ some q) :
    (s.f.jrn.reqBad w0 w1 = false →
      ∃ t, exec (.jreqReceive q w0 w1) s = .next t ∧ HostTxn s t .jreq q { s.f with sched := { s.f.sched with
        arrived := s.f.sched.arrived ++ [⟨6, 64, .journal w0 w1⟩] } } (ackOf .jreq q)) ∧
    (s.f.jrn.reqBad w0 w1 = true →
      ∃ t, exec (.jreqReceive q w0 w1) s = .next t ∧ HostTxn s t .jreq q s.f (nakOf .jreq q 0x14)) := by
  refine ⟨fun hok => ⟨_, rfl, ?_⟩, fun hbad => ⟨_, rfl, ?_⟩⟩
  · exact s.toField_new .jreq q _ hs hseq (if_neg (by simp [hok])) rfl
  · exact s.toField_new .jreq q _ hs hseq (if_pos hbad) rfl

/-! ### The offer of VHOST (R71, R125) -/

/-- The `PWRA` that tells of an offer. -/
def pwraWord (f : Field) : Word :=
  BitVec.ofNat 32 (sourceCode f.sup.sel + 4 * f.sup.isoOk.toNat + 8 * (f.free.getLsbD 0).toNat)

theorem pwraWord_fields (f : Field) : fieldOf (pwraWord f) 0 2 = sourceCode f.sup.sel ∧ bitOf (pwraWord f) 2 = f.sup.isoOk ∧
    fieldOf (pwraWord f) 4 28 = 0 := by
  unfold pwraWord
  generalize f.free.getLsbD 0 = rail
  generalize f.sup.isoOk = iso
  generalize f.sup.sel = sel
  cases sel <;> revert iso rail <;> decide

/-- An offer is taken, and the `PWRA` waits behind the answer while the field side is linked. -/
theorem Field.takePwrq_eq (f : Field) (q : BitVec 4) (w0 : Word) : f.takePwrq q w0 =
    ({ f with
      freeCtr := f.freeCtr + 1, sup := { f.sup with isoOffer := bitOf w0 0 },
      bar := { f.bar with
        queue := if f.bar.linked then f.bar.queue ++ [⟨.pwra, 0#4, [pwraWord f], none⟩] else f.bar.queue } }, ackOf .pwrq q) := by
  unfold Field.takePwrq
  dsimp only [Field.freeNext]
  split <;> rfl

theorem pwrqReceive_takes (s : State) (q : BitVec 4) (w0 : Word) (hs : FieldReady s) (hseq : s.f.bar.lastSeq ≠ some q) :
    ∃ t x, exec (.pwrqReceive q w0) s = .next t ∧ t.h = s.h.gone .pwrq q ∧ t.pending = s.pending ∧
      t.f = { s.f with
        freeCtr := s.f.freeCtr + 1, sup := { s.f.sup with isoOffer := bitOf w0 0 },
        bar := FBar.pump { s.f.bar with
          lastSeq := some q, lastAns := some (ackOf .pwrq q), lane := s.f.bar.lane ++ [ackOf .pwrq q],
          queue := if s.f.bar.linked then s.f.bar.queue ++ [⟨.pwra, 0#4, [x], none⟩] else s.f.bar.queue } } ∧
      fieldOf x 0 2 = sourceCode s.f.sup.sel ∧ bitOf x 2 = s.f.sup.isoOk ∧ fieldOf x 4 28 = 0 := by
  obtain ⟨hh, hf, hp⟩ := s.toField_new .pwrq q (fun f => f.takePwrq q w0) hs hseq (s.f.takePwrq_eq q w0) rfl
  refine ⟨_, pwraWord s.f, rfl, hh, hp, ?_, pwraWord_fields s.f⟩
  rw [hf]
  rfl

/-- Settles O40: each transaction of the host stream is run by the receiver of its type, and answered by `State.toField_new`. -/
theorem hostStreamIsTaken : Obligations.HostStreamIsTaken := by
  refine ⟨fun s q w0 w1 w2 w3 w4 hs hseq hsrc => markReceive_takes s q w0 w1 w2 w3 w4 hs hseq hsrc,
    fun s q l a w hs hseq hw => regrdReceive_answers s q l a w hs hseq hw,
    fun s q l a w v hs hseq _ hv => regwrReceive_answers s q l a w v hs hseq hv,
    fun s q w0 c hs hseq hnone => ⟨_, rfl, ?_⟩,
    fun s q w0 w1 hs hseq => jreqReceive_answers s q w0 w1 hs hseq,
    fun s q w0 hs hseq => pwrqReceive_takes s q w0 hs hseq⟩
  exact s.toField_new .cmdx q _ hs hseq (if_pos (by simp [hnone])) rfl

end Sys2Proof.Machine
end

section
/-! The rows in which the field side acts alone (02_frame.md section 3): a step that leaves no news leaves the host side; a slice of the
plan is the whole step where no closed period waits behind it (R344). -/

namespace Sys2Proof.Machine

/-- Field work without news is a step of the field side alone. -/
theorem State.withField_onlyField (s : State) (g : Field) (hg : g.jobEv = []) : OnlyField s (s.withField g) g := by
  rw [s.withField_quiet g hg]
  exact ⟨rfl, rfl, rfl⟩

theorem Field.periodHead_of_noPeriod (f : Field) (n : Nat) (h : noPeriod f.sched.plan) : f.periodHead n = f := by
  cases n with
  | zero => rfl
  | succ k =>
    unfold Field.periodHead
    split
    · next p l recs rest hplan => exact absurd (h ⟨p, l, .period recs⟩ (by rw [hplan]; rfl)) (by simp [ReqKind.isPeriod])
    · rfl

theorem Field.periodSlices_of_noPeriod (f : Field) (h : noPeriod f.sched.plan) : f.periodSlices = f := by
  unfold Field.periodSlices
  split
  · exact f.periodHead_of_noPeriod _ h
  · rfl

end Sys2Proof.Machine
end

section
/-! Staging and flushing (12_journal.md section 3, 02_frame.md section 3): the slots that a flush gives to the staged records, and the
block that it fills. -/

namespace Sys2Proof.Machine

/-! ### The slots that staged records take -/

/-- A block with records in its next slots. -/
def Blk.filled (b : Blk) (rs : List Rec) : Blk :=
  { b with slots := b.slots ++ (rs.map fun r => r.first :: r.more).flatten.zipIdx.map fun e => (b.used + 1 + e.2, e.1) }

theorem Blk.filled_slots (b : Blk) (rs : List Rec) : (b.filled rs).slots =
    b.slots ++ (rs.map fun r => r.first :: r.more).flatten.zipIdx.map fun e => (b.used + 1 + e.2, e.1) := rfl

theorem length_slots_of_records (rs : List Rec) : (rs.map fun r => r.first :: r.more).flatten.length = (rs.map Rec.size).sum := by
  rw [List.length_flatten, List.map_map]
  congr 1
  exact List.map_congr_left fun r _ => Nat.add_comm ..

/-- The slots that records take up to number 126 are record slots. -/
theorem Blk.filled_index (b : Blk) (rs : List Rec) (hfit : b.used + (rs.map Rec.size).sum ≤ 126) :
    ∀ e ∈ (rs.map fun r => r.first :: r.more).flatten.zipIdx.map (fun e => (b.used + 1 + e.2, e.1)), 0 < e.1 ∧ e.1 < 127 := by
  intro e he
  obtain ⟨x, hx, rfl⟩ := List.mem_map.mp he
  have hlt := List.snd_lt_of_mem_zipIdx hx
  rw [length_slots_of_records] at hlt
  dsimp only
  omega

theorem Blk.used_filled (b : Blk) (rs : List Rec) (hfit : b.used + (rs.map Rec.size).sum ≤ 126) :
    (b.filled rs).used = b.used + (rs.map Rec.size).sum := by
  have hall := List.filter_eq_self.mpr fun e he => decide_eq_true (b.filled_index rs hfit e he)
  simp only [Bool.decide_and] at hall
  rw [← length_slots_of_records, ← List.length_zipIdx, ← List.length_map fun e => (b.used + 1 + e.2, e.1)]
  conv_lhs => rw [Blk.used, Blk.filled, List.filter_append, hall, List.length_append]
  rfl

theorem Blk.filled_cons (b : Blk) (r : Rec) (rs : List Rec) (hfit : b.used + r.size ≤ 126) :
    (b.filled [r]).filled rs = b.filled (r :: rs) := by
  have hused : (b.filled [r]).used = b.used + r.size := by simpa using b.used_filled [r] (by simpa using hfit)
  have hlen : (r.first :: r.more).length = r.size := Nat.add_comm ..
  have hslots : ((b.filled [r]).filled rs).slots = (b.filled (r :: rs)).slots := by
    rw [Blk.filled_slots, hused, Blk.filled_slots, Blk.filled_slots]
    simp only [List.map_cons, List.map_nil, List.flatten_cons, List.flatten_nil, List.append_nil, List.zipIdx_append, List.map_append,
      List.append_assoc, hlen, Nat.zero_add]
    rw [List.zipIdx_eq_map_add (i := r.size), List.map_map]
    congr 3
    funext e
    simp [Nat.add_assoc, Nat.add_left_comm]
  exact congrArg (fun l => { b with slots := l }) hslots

/-- Records that fit go into the block, in order (R418). -/
theorem fillBlk_fits (rs : List Rec) (b : Blk) (hfit : b.used + (rs.map Rec.size).sum ≤ 126) :
    fillBlk rs b = (b.filled rs, [], false) := by
  induction rs generalizing b with
  | nil => simp [fillBlk, Blk.filled]
  | cons r rs ih =>
    simp only [List.map_cons, List.sum_cons] at hfit
    have hr : b.used + r.size ≤ 126 := by omega
    have hused := b.used_filled [r] (by simpa using hr)
    simp only [List.map_cons, List.map_nil, List.sum_cons, List.sum_nil] at hused
    have hone : b.filled [r] = { b with slots := b.slots ++ (r.first :: r.more).zipIdx.map fun (s, i) => (b.used + 1 + i, s) } := by
      simp [Blk.filled]
    rw [fillBlk, if_neg (by omega), ← b.filled_cons r rs hr, ← ih (b.filled [r]) (by omega), hone]

/-! ### The block that takes them -/

theorem Jrn.closed_of_openBlk {j : Jrn} {b : Blk} (h : j.openBlk = some b) : b.closed = false := by
  simpa using List.find?_some h

/-- The block that was open is the open one still after it has been put back. -/
theorem Jrn.openBlk_putBlk {j : Jrn} {b c : Blk} (h : j.openBlk = some b) (hbsn : c.bsn = b.bsn) (hc : c.closed = false) :
    (j.putBlk c).openBlk = some c := by
  unfold Jrn.openBlk Jrn.putBlk at *
  dsimp only
  generalize j.blocks = bs at h
  induction bs with
  | nil => cases h
  | cons x xs ih =>
    rw [List.map_cons]
    by_cases hx : x.bsn = c.bsn
    · simp [hx, hc]
    · cases hopen : x.closed with
      | true => simpa [hx, hopen] using ih (by simpa [hopen] using h)
      | false =>
        have hb : x = b := by simpa [hopen] using h
        exact absurd (hb ▸ hbsn.symm) hx

theorem Jrn.blk_putBlk {j : Jrn} {b c : Blk} (h : b ∈ j.blocks) (hbsn : c.bsn = b.bsn) : (j.putBlk c).blk c.bsn = some c := by
  unfold Jrn.blk Jrn.putBlk
  dsimp only
  generalize j.blocks = bs at h
  induction bs with
  | nil => cases h
  | cons x xs ih =>
    rw [List.map_cons]
    by_cases hx : x.bsn = c.bsn
    · simp [hx]
    · have hb : b ∈ xs := (List.mem_cons.mp h).resolve_left fun hb => hx (hb ▸ hbsn.symm)
      simpa [hx] using ih hb

theorem Jrn.mem_putBlk {j : Jrn} {x c : Blk} (h : x ∈ j.blocks) (hne : x.bsn ≠ c.bsn) : x ∈ (j.putBlk c).blocks :=
  List.mem_map.mpr ⟨x, h, if_neg hne⟩

theorem Blk.closed_filled (b : Blk) (rs : List Rec) (hfit : b.used + (rs.map Rec.size).sum ≤ 126) (hopen : b.closed = false) :
    (b.filled rs).closed = false := by
  have hnew := b.filled_index rs hfit
  rw [Blk.closed, Blk.filled_slots, List.any_append, ← Blk.closed, hopen, Bool.false_or, List.any_eq_false]
  intro e he
  have := (hnew e he).2
  simp
  omega

/-- The record slots of a block stay as they are when its seal is programmed. -/
theorem Blk.sealed_slots (b : Blk) (prev : Slot) :
    (b.sealed prev).slots.filter (fun e => decide (e.1 ≠ 127)) = b.slots.filter fun e => decide (e.1 ≠ 127) := by
  simp [Blk.sealed]

theorem Blk.filled_slots_filter (b : Blk) (rs : List Rec) (hfit : b.used + (rs.map Rec.size).sum ≤ 126) :
    (b.filled rs).slots.filter (fun e => decide (e.1 ≠ 127)) = b.slots.filter (fun e => decide (e.1 ≠ 127)) ++
      (rs.map fun r => r.first :: r.more).flatten.zipIdx.map fun e => (b.used + 1 + e.2, e.1) := by
  rw [Blk.filled_slots, List.filter_append]
  congr 1
  exact List.filter_eq_self.mpr fun e he => decide_eq_true (Nat.ne_of_lt (b.filled_index rs hfit e he).2)

/-! ### A flush -/

/-- The journal after the staged records have gone into its open block `b`, which is sealed where it is full (R420). -/
def Jrn.flushedInto (j : Jrn) (b : Blk) : Jrn :=
  let k := { j with staging := [] }.putBlk (b.filled j.staging)
  if 126 ≤ (b.filled j.staging).used then k.sealOpen else k

theorem Field.ovfRing_of_none (f : Field) (h : f.jrn.ovwPend = 0) : f.ovfRing = f := by
  simp [Field.ovfRing, h]

theorem Jrn.sealOpen_ovwPend (j : Jrn) : j.sealOpen.ovwPend = j.ovwPend := by
  unfold Jrn.sealOpen
  split <;> rfl

/-- A routine flush whose records fit into the open block (R418 to R420). -/
theorem Field.flush_fits (f : Field) (b : Blk) (hro : f.jrnRo = false) (hab : f.jrn.abandoned = none) (hovw : f.jrn.ovwPend = 0)
    (hopen : f.jrn.openBlk = some b) (hst : f.jrn.staging ≠ []) (hfit : b.used + f.jrn.stagedSlots ≤ 126) :
    f.flush false = { f with jrn := f.jrn.flushedInto b, tst := (f.flush false).tst } := by
  have hfill := fillBlk_fits f.jrn.staging b hfit
  have hstop : (f.jrn.abandoned.isSome && !f.jrn.roWorn) = false := by rw [hab]; rfl
  have hring (g : Field) (hg : g.jrn.ovwPend = 0) (heq : g = { f with jrn := f.jrn.flushedInto b, tst := g.tst }) :
      g.ovfRing = { f with jrn := f.jrn.flushedInto b, tst := g.ovfRing.tst } := by
    rw [g.ovfRing_of_none hg]
    exact heq
  simp only [Field.flush, hstop, hro, hopen, hfill, Option.isNone_some, Bool.false_or, Bool.false_eq_true, if_false, List.isEmpty_iff, hst,
    decide_eq_true_eq]
  split
  · next hfull =>
    refine hring _ ((Jrn.sealOpen_ovwPend _).trans ?_) ?_
    · exact hovw
    · rw [Jrn.flushedInto, if_pos hfull]
      rfl
  · next hroom =>
    refine hring _ ?_ ?_
    · exact hovw
    · rw [Jrn.flushedInto, if_neg hroom]

/-- What a flush leaves of the journal: the block under its number, with the records; the others. -/
theorem Jrn.flushedInto_blk (j : Jrn) (b : Blk) (hopen : j.openBlk = some b) (hfit : b.used + j.stagedSlots ≤ 126) :
    j.flushedInto b = { j with staging := [], blocks := (j.flushedInto b).blocks } ∧
    (∃ c, (j.flushedInto b).blk b.bsn = some c ∧ c.phys = b.phys ∧ c.closed = decide (b.used + j.stagedSlots = 126) ∧
      c.slots.filter (fun e => decide (e.1 ≠ 127)) = b.slots.filter (fun e => decide (e.1 ≠ 127)) ++
        (j.staging.map fun r => r.first :: r.more).flatten.zipIdx.map fun e => (b.used + 1 + e.2, e.1)) ∧
    ∀ x ∈ j.blocks, x.bsn ≠ b.bsn → x ∈ (j.flushedInto b).blocks := by
  have hmem : b ∈ j.blocks := List.mem_of_find?_eq_some hopen
  have hused := b.used_filled j.staging hfit
  have hclosed := b.closed_filled j.staging hfit (Jrn.closed_of_openBlk hopen)
  have hslots := b.filled_slots_filter j.staging hfit
  have hput := Jrn.openBlk_putBlk (j := { j with staging := [] }) (c := b.filled j.staging) hopen rfl hclosed
  by_cases hfull : 126 ≤ (b.filled j.staging).used
  · have hsum : b.used + j.stagedSlots = 126 := Nat.le_antisymm hfit (hused ▸ hfull)
    have hseal : j.flushedInto b = Jrn.putBlk (Jrn.putBlk { j with staging := [] } (b.filled j.staging)) ((b.filled j.staging).sealed
        (Jrn.sealBefore (Jrn.putBlk { j with staging := [] } (b.filled j.staging)) b.bsn)) := by
      rw [Jrn.flushedInto, if_pos hfull, Jrn.sealOpen, hput]
      rfl
    rw [hseal]
    refine ⟨rfl, ⟨_, Jrn.blk_putBlk (List.mem_of_find?_eq_some hput) rfl, rfl, ?_, (Blk.sealed_slots ..).trans hslots⟩,
      fun x hx hne => ?_⟩
    · simp [Blk.closed, Blk.sealed, hsum]
    · exact Jrn.mem_putBlk (Jrn.mem_putBlk hx hne) hne
  · have hsum : b.used + j.stagedSlots ≠ 126 := fun h => hfull (hused ▸ h.ge)
    rw [Jrn.flushedInto, if_neg hfull]
    refine ⟨rfl, ⟨_, Jrn.blk_putBlk (j := { j with staging := [] }) hmem rfl, rfl, ?_, hslots⟩,
      fun x hx hne => Jrn.mem_putBlk hx hne⟩
    rw [hclosed, decide_eq_false hsum]

/-- A slice of the journal's memory switches domains on. -/
theorem Field.nvmOn_tst (f : Field) (phys : Nat) (program hash : Bool) : ∃ x, f.nvmOn phys program hash = { f with tst := x } := by
  dsimp only [Field.nvmOn, Field.domain]
  cases program <;> cases hash <;> exact ⟨_, rfl⟩

/-- A routine flush slice whose records fit: the plan goes on, the journal takes the records, domains are on. -/
theorem doFlushSlice_fits (f : Field) (corr p n : Nat) (rest : List Req) (b : Blk) (hrun : f.runs = true) (hwdog : f.start.wdog = false)
    (hmount : f.start.mounted = true) (hro : f.jrnRo = false) (hplan : f.sched.plan = ⟨p, n, .flush⟩ :: rest) (hper : noPeriod rest)
    (hab : f.jrn.abandoned = none) (hovw : f.jrn.ovwPend = 0) (hopen : f.jrn.openBlk = some b) (hst : f.jrn.staging ≠ [])
    (hfit : b.used + f.jrn.stagedSlots ≤ 126) (hcorr : corr < 2) :
    ∃ x, doFlushSlice corr f = { f with sched := { f.sched with plan := rest }, jrn := f.jrn.flushedInto b, tst := x } := by
  have htake : takeReq ReqKind.isFlush f.sched.plan = some (⟨p, n, .flush⟩, rest) := by rw [hplan]; rfl
  have hslices : f.slices = true := by simp [Field.slices, hrun, hwdog]
  obtain ⟨x, hx⟩ := Field.nvmOn_tst (f.planLeft rest) f.jrn.workPhys true false
  have hflush := Field.flush_fits ({ f.planLeft rest with tst := x }.sram 0) b hro hab hovw hopen hst hfit
  have hquiet : (decide (2 ≤ corr)) = false := decide_eq_false (by omega)
  simp only [doFlushSlice, htake, hslices, hmount, hquiet, Bool.not_true, Bool.false_and, Bool.false_eq_true, if_false, reduceCtorEq,
    decide_false, hx]
  rw [Field.periodSlices_of_noPeriod _ (by rw [hflush]; exact hper), hflush]
  exact ⟨_, rfl⟩

/-- Settles O33: staging with room again, the flush's request and its priority are each one update of the field side; a flush slice is
`doFlushSlice_fits`, and what it leaves of the blocks `Jrn.flushedInto_blk`. -/
theorem stagedRecordsAreFlushed : Obligations.StagedRecordsAreFlushed := by
  refine ⟨fun s hf hmount hrefused hroom => ⟨_, rfl, ?_⟩, fun s n hf hmount hro hage hdue hnone => ⟨_, rfl, ?_⟩,
    fun s n hf hage hdue => ⟨_, rfl, ?_⟩, fun s corr p n rest b hf hwdog hmount hro hplan hper hab hovw hopen hst hfit hcorr => ?_⟩
  · have hstep : doStagingRoom s.f = Field.stage { s.f with jrn := { s.f.jrn with refused := 0 } }
        (recOvf 4 s.f.clk.stamp s.f.jrn.refused s.f.jrn.refusedFirst 0) := by
      simp [doStagingRoom, hmount, hrefused, hroom]
    rw [hstep]
    exact s.withField_onlyField _ ((Field.stage_jobEv ..).trans hf.2)
  · have hstep : doFlushRequest s.f = s.f.request 5 200 .flush := by
      simp [doFlushRequest, hf.1, hmount, hro, hage, hdue, hnone]
    rw [hstep]
    exact s.withField_onlyField _ hf.2
  · have hstep : doFlushRaise s.f = { s.f with sched := { s.f.sched with
        plan := raiseFlush s.f.sched.plan, deferred := raiseFlush s.f.sched.deferred, arrived := raiseFlush s.f.sched.arrived } } := by
      simp [doFlushRaise, hf.1, hage, hdue]
    rw [hstep]
    exact s.withField_onlyField _ hf.2
  · obtain ⟨x, hstep⟩ := doFlushSlice_fits s.f corr p n rest b hf.1 hwdog hmount hro hplan hper hab hovw hopen hst hfit hcorr
    obtain ⟨hjrn, ⟨b', hblk, hphys, hclosed, hslots⟩, hothers⟩ := s.f.jrn.flushedInto_blk b hopen hfit
    have honly := s.withField_onlyField (doFlushSlice corr s.f) (by rw [hstep]; exact hf.2)
    obtain ⟨hfield, hhost, -⟩ := honly
    have htjrn : (s.withField (doFlushSlice corr s.f)).f.jrn = s.f.jrn.flushedInto b := by rw [hfield, hstep]
    refine ⟨_, b', rfl, hhost, ?_, ?_, ?_, hphys, hclosed, hslots, ?_⟩
    · rw [htjrn, hfield, hstep]
    · rw [htjrn]
      exact hjrn
    · rw [htjrn]
      exact hblk
    · rw [htjrn]
      exact hothers

end Sys2Proof.Machine
end

section
/-! Field commands (02_frame.md section 3, R582): what a command leaves of the field side's work, and the slice that executes it. -/

namespace Sys2Proof.Machine

/-! ### What leaves the plan and the news -/

/-- From `f` to `g` no news were left, and the foreground work stands as it was. -/
def Field.KeepsWork (f g : Field) : Prop := g.jobEv = f.jobEv ∧ g.sched = f.sched

theorem Field.KeepsWork.trans {f g k : Field} (a : f.KeepsWork g) (b : g.KeepsWork k) : f.KeepsWork k :=
  ⟨b.1.trans a.1, b.2.trans a.2⟩

/-- A fold of updates that each leave the work. -/
theorem Field.KeepsWork.foldl {α : Type} (u : Field → α → Field) (hu : ∀ (f : Field) a, f.KeepsWork (u f a)) (l : List α)
    (f : Field) : f.KeepsWork (l.foldl u f) := by
  induction l generalizing f with
  | nil => exact ⟨rfl, rfl⟩
  | cons a l ih => exact (hu f a).trans (ih _)

theorem Field.stageRec_keepsWork (f : Field) (a : Slot) (m : List Slot) : f.KeepsWork (f.stageRec a m) := by
  refine ⟨f.stageRec_jobEv a m, ?_⟩
  unfold Field.stageRec
  split
  · rfl
  · split <;> rfl

theorem Field.send_keepsWork (f : Field) (ty : MsgType) (ws : List Word) : f.KeepsWork (f.send ty ws) := by
  unfold Field.send
  split <;> exact ⟨rfl, rfl⟩

theorem Field.snap_keepsWork (f : Field) : f.KeepsWork f.snap := by
  unfold Field.snap Field.snapAt
  dsimp only
  split <;> exact ⟨rfl, rfl⟩

theorem Field.tripClose_keepsWork (f : Field) (i : Inst) : f.KeepsWork (f.tripClose i) := by
  have hrecs := Field.KeepsWork.foldl (fun (f : Field) (r : Slot × List Slot) => f.stageRec r.1 r.2)
    (fun f r => f.stageRec_keepsWork r.1 r.2)
    (periodRecs f (f.gapNow f.clk.stamp (i.settleAll f.per.hi f.per.lo false (stampFrames f.clk.stamp))) true 5
      (f.gapNow f.clk.stamp (i.settleAll f.per.hi f.per.lo false (stampFrames f.clk.stamp))).partialF false f.clk.stamp)
    { f with per := { f.per with trip := none, psn := f.per.psn + 1 } }
  exact ⟨hrecs.1, hrecs.2⟩

/-! ### The commands that are taken -/

theorem some_pair_inj {α β : Type} {a c : α} {b d : β} (h : some (a, b) = some (c, d)) : c = a ∧ d = b :=
  (Prod.mk.inj (Option.some.inj h)).imp Eq.symm Eq.symm

/-- A field command that the state permits has the effect and the result words of its table, without an error; it plans nothing. -/
theorem Field.command_taken {f g : Field} {c : FieldCmd} {ws : List Word} (h : commandTaken f c = some (g, ws)) :
    f.command c = (g, 0, ws, []) ∧ f.KeepsWork g := by
  cases c with
  | snap =>
    change (if (List.range 4).all (fun n => f.probeType n = 0) then none else some (f.snap, [])) = _ at h
    obtain ⟨hprobe, hres⟩ := Option.ite_none_left_eq_some.mp h
    obtain ⟨rfl, rfl⟩ := some_pair_inj hres
    exact ⟨if_neg hprobe, f.snap_keepsWork⟩
  | tripOpen ident =>
    change (if f.per.trip.isSome then none else some (f.tripOpen ident, [])) = _ at h
    obtain ⟨hclosed, hres⟩ := Option.ite_none_left_eq_some.mp h
    obtain ⟨rfl, rfl⟩ := some_pair_inj hres
    exact ⟨if_neg hclosed, rfl, rfl⟩
  | tripClose =>
    obtain ⟨i, htrip, hres⟩ := Option.map_eq_some_iff.mp h
    obtain ⟨rfl, rfl⟩ := Prod.mk.inj hres
    exact ⟨by simp only [Field.command, htrip], f.tripClose_keepsWork i⟩
  | keepSave =>
    change (if f.sup.sel = .vfld ∨ f.sup.sel = .iso then
      (if f.jrn.mirrorSave.isSome then none
        else some ({ f with jrn := { f.jrn with mirrorSave := some (f.keep.bytes.toList, 0) } }, [])) else none) = _ at h
    obtain ⟨hmain, hsave⟩ := Option.ite_none_right_eq_some.mp h
    obtain ⟨hidle, hres⟩ := Option.ite_none_left_eq_some.mp hsave
    obtain ⟨rfl, rfl⟩ := some_pair_inj hres
    have hok : (f.sup.sel = .vbat || f.sup.sel = .vbk || f.jrn.mirrorSave.isSome) = false := by
      rcases hmain with hsel | hsel <;> simp [hsel, hidle]
    exact ⟨by simp only [Field.command, Field.keepSave, hok, Bool.false_eq_true, if_false], rfl, rfl⟩
  | note t =>
    change (if 1 ≤ t.length ∧ t.length ≤ 20 ∧ t.all (fun c => decide (0x20 ≤ c.toNat ∧ c.toNat ≤ 0x7E)) then
      some (f.stage (recNote t f.clk.stamp), []) else none) = _ at h
    obtain ⟨⟨hmin, hmax, hchars⟩, hres⟩ := Option.ite_none_right_eq_some.mp h
    obtain ⟨rfl, rfl⟩ := some_pair_inj hres
    have hgood : (t.length < 1 || 20 < t.length || t.any (fun c => c.toNat < 0x20 || 0x7E < c.toNat)) = false := by
      simp only [Bool.or_eq_false_iff, decide_eq_false_iff_not, List.any_eq_false]
      simp only [List.all_eq_true, decide_eq_true_eq] at hchars
      exact ⟨⟨by omega, by omega⟩, fun c hc => by have := hchars c hc; simp; omega⟩
    exact ⟨by simp only [Field.command, Field.note, hgood, Bool.false_eq_true, if_false], f.stageRec_keepsWork ..⟩
  | jErase =>
    change (if f.jrn.roWorn || f.jrn.job.isSome || f.jrn.eraseJob || f.erasable.isNone then none
      else some ({ f with jrn := { f.jrn with eraseJob := true } }, [BitVec.ofNat 32 f.jrn.exported])) = _ at h
    obtain ⟨hfree, hres⟩ := Option.ite_none_left_eq_some.mp h
    obtain ⟨rfl, rfl⟩ := some_pair_inj hres
    simp only [Bool.or_eq_true, not_or, Bool.not_eq_true, Option.isNone_eq_false_iff] at hfree
    obtain ⟨⟨⟨hworn, hjob⟩, herase⟩, hblk⟩ := hfree
    obtain ⟨b, hb⟩ := Option.isSome_iff_exists.mp hblk
    exact ⟨by simp [Field.command, Field.startErase, Jrn.busy, hworn, hjob, herase, hb], rfl, rfl⟩
  | calCommit =>
    obtain ⟨rfl, rfl⟩ := some_pair_inj h
    exact ⟨rfl, rfl, rfl⟩
  | calLoad n bs =>
    change (if bs.length = 16 ∧ n ≤ 33 then
      some ({ f with cal := { f.cal with load := f.cal.load.filter (fun (e : Nat × List Byte) => e.1 ≠ n) ++ [(n, bs)] } }, [])
      else none) = _ at h
    obtain ⟨⟨hlen, hline⟩, hres⟩ := Option.ite_none_right_eq_some.mp h
    obtain ⟨rfl, rfl⟩ := some_pair_inj hres
    exact ⟨by simp only [Field.command, Field.calLoad, hlen, not_lt.mpr hline, ne_eq, not_true, if_false], rfl, rfl⟩
  | testFail code idx measured limit =>
    obtain ⟨rfl, rfl⟩ := some_pair_inj h
    exact ⟨rfl, (f.setBit sbTestFail).stageRec_keepsWork ..⟩
  | evq n => cases h
  | tq n => cases h
  | keepLoad => cases h
  | jExport r => cases h
  | jVerify r => cases h
  | sealKey p t => cases h
  | calRun item i => cases h
  | calLoadGo => cases h
  | test b => cases h

/-! ### The slice of a field command -/

/-- A planned field command executes; its `RSPX` and what it reads go out. -/
theorem doFieldCommand_plan (f : Field) {p n : Nat} {q : BitVec 4} {c : FieldCmd} {rest : List Req} {g : Field} {e : Nat} {ws : List Word}
    {more : List (MsgType × List Word)} (hrun : f.runs = true) (hwdog : f.start.wdog = false)
    (hplan : f.sched.plan = ⟨p, n, .command q c⟩ :: rest) (hper : noPeriod rest)
    (hcmd : (f.planLeft rest).command c = (g, e, ws, more)) (hg : (f.planLeft rest).KeepsWork g) :
    doFieldCommand f = more.foldl (fun k t => k.send t.1 t.2) (g.send .rspx (rspxWord (cmdKind c) ws.length e q :: ws)) ∧
      f.jobEv = (doFieldCommand f).jobEv := by
  have htake : takeReq ReqKind.isCommand f.sched.plan = some (⟨p, n, .command q c⟩, rest) := by rw [hplan]; rfl
  have hslices : f.slices = true := by simp [Field.slices, hrun, hwdog]
  have hsent := (hg.trans (g.send_keepsWork .rspx (rspxWord (cmdKind c) ws.length e q :: ws))).trans
    (.foldl (fun (k : Field) (t : MsgType × List Word) => k.send t.1 t.2) (fun k t => k.send_keepsWork t.1 t.2) more _)
  obtain ⟨hnews, hsched⟩ := hsent
  simp only [doFieldCommand, htake, hslices, hcmd, Bool.not_true, Bool.false_eq_true, if_false]
  rw [Field.periodSlices_of_noPeriod _ (by rw [hsched]; exact hper)]
  exact ⟨rfl, hnews.symm⟩

theorem fieldCommandSlice_executes (s : State) {p n : Nat} {q : BitVec 4} {c : FieldCmd} {rest : List Req} {g : Field} {e : Nat}
    {ws : List Word} {more : List (MsgType × List Word)} (hf : FieldUp s) (hwdog : s.f.start.wdog = false)
    (hplan : s.f.sched.plan = ⟨p, n, .command q c⟩ :: rest) (hper : noPeriod rest)
    (hcmd : (s.f.planLeft rest).command c = (g, e, ws, more)) (hg : (s.f.planLeft rest).KeepsWork g) :
    ∃ t, exec .fieldCommandSlice s = .next t ∧
      OnlyField s t (more.foldl (fun k t => k.send t.1 t.2) (g.send .rspx (rspxWord (cmdKind c) ws.length e q :: ws))) := by
  obtain ⟨hstep, hnews⟩ := doFieldCommand_plan s.f hf.1 hwdog hplan hper hcmd hg
  have honly := s.withField_onlyField (doFieldCommand s.f) (hnews.symm.trans hf.2)
  rw [hstep] at honly
  exact ⟨_, rfl, hstep ▸ honly⟩

theorem length_evtSends (n : Nat) (q : List EvEntry) : (evtSends n q).length = min n q.length := by
  simp [evtSends]

/-- Settles O39: `fieldCommandSlice_executes` for a command that is taken (`Field.command_taken`), for `EV?` and for a `TRIP.CLOSE` with no
trip open; another kind of slice first in the plan leaves the command row without effect. -/
theorem fieldCommandsExecute : Obligations.FieldCommandsExecute := by
  refine ⟨fun s p n q c rest g ws hf hwdog hplan hper htaken => ?_, fun s p n q k rest hf hwdog hplan hper hmin hmax => ?_,
    fun s p n q rest hf hwdog hplan hper htrip => ?_, fun s r rest hf hplan hkind => ⟨_, rfl, ?_⟩⟩
  · exact fieldCommandSlice_executes s hf hwdog hplan hper (Field.command_taken htaken).1 (Field.command_taken htaken).2
  · have hcmd : (s.f.planLeft rest).command (.evq k) = (s.f.planLeft rest, 0, [BitVec.ofNat 32 (min k s.f.ev.queue.length)],
        (evtSends k s.f.ev.queue).map fun ws => (MsgType.evt, ws)) := by
      have hrange : ¬ (k < 1) ∧ ¬ (32 < k) := ⟨by omega, by omega⟩
      simp [Field.command, hrange, Field.planLeft, length_evtSends]
    obtain ⟨t, ht, honly⟩ := fieldCommandSlice_executes s hf hwdog hplan hper hcmd ⟨rfl, rfl⟩
    rw [List.foldl_map] at honly
    exact ⟨t, ht, honly⟩
  · have hcmd : (s.f.planLeft rest).command .tripClose = (s.f.planLeft rest, 22, [], []) := by
      simp [Field.command, Field.planLeft, htrip]
    exact fieldCommandSlice_executes s hf hwdog hplan hper hcmd ⟨rfl, rfl⟩
  · have hstep : doFieldCommand s.f = s.f := by
      simp [doFieldCommand, takeReq, hplan, hkind]
    rw [hstep]
    exact s.withField_onlyField _ hf.2

end Sys2Proof.Machine
end

section
/-! The line of one command (15_command_line.md section 6): what its end hands to TXD, where its command answers. -/

namespace Sys2Proof.Machine

/-- The response lines of a command that answers OK, a value or a block (R558). -/
def answerLines : CmdRes → Option (List Text)
  | .ok => some okLines
  | .val t => some (valueLines t)
  | .block ls => some (blockLines ls)
  | _ => none

/-- The record of a line of one command while its command executes as number `place` of its frame. -/
def lineCur (place : Nat) : Cur := { oneLine with place := place }

/-- The line of one command as its command finds it: the host side is awake, and holds the line. -/
def State.lineOf (s : State) (i : Instr) (place : Nat) : Lx :=
  ⟨⟨s.f, { s.h with domNow := s.h.ran.domNow, line := { s.h.line with cur := some ((ownLine i).cur place) } }, s.pending⟩,
    lineCur place⟩

theorem State.lineOf_s (s : State) (i : Instr) (place : Nat) : (s.lineOf i place).s =
    (s.host HostSide.ran).host fun h => { h with line := { h.line with cur := some ((ownLine i).cur place) } } := by
  simp only [State.lineOf, State.host, HostSide.ran, HostSide.domain]

/-- From `c` to `d` the line has taken answers of its accesses, or its snapshot. -/
def Cur.Goes (c d : Cur) : Prop := d = { c with ans := d.ans, used := d.used, snap := d.snap }

theorem Cur.Goes.refl (c : Cur) : c.Goes c := rfl

theorem Cur.Goes.trans {c d e : Cur} (a : c.Goes d) (b : d.Goes e) : c.Goes e := by
  unfold Cur.Goes at *
  rw [b, a]

/-- The host side without a line that executes. -/
def HostSide.lineDone (h : HostSide) : HostSide := { h with line := { h.line with cur := none } }

theorem HostSide.lineDone_of_none {h : HostSide} (hc : h.line.cur = none) : h.lineDone = h := by
  unfold HostSide.lineDone
  rw [← hc]

/-- The end of a line without a tag whose one command has left the lines `ls` (R558): they go to TXD. -/
theorem Lx.settle_done (l : Lx) (ls : List Text) (htag : l.c.tag = none) (herr : l.c.err = none) (hwait : l.c.wait = none)
    (hrefused : l.c.refused = none) (hwrites : l.c.writes = []) (hafter : l.c.after = TxAfter.none) (hls : l.c.response none = ls) :
    l.settle = { l.s with h := (l.s.h.respond none false ls TxAfter.none).lineDone } := by
  have hfail : l.c.failure = none := by simp [Cur.failure, herr, hrefused]
  simp only [Lx.settle, hwait, Option.isSome_none, Bool.false_eq_true, if_false, Lx.finish, hwrites, HostSide.putRegs, List.foldl_nil,
    HostSide.answer, hfail, hls, htag, hafter, LineSt.cached, TxAfter.none, Bool.or_false]
  rfl

/-- The record of a line of one command whose command has answered with results `rs`. -/
def answeredCur (place : Nat) (c : Cur) (rs : List Text) (value block : Bool) : Cur :=
  { lineCur place with snap := c.snap, results := rs, value := value, block := block }

/-- After its one command has answered, the line has named no group and waits for nothing. -/
theorem Lx.runRest_answered (s : State) (i : Instr) (place : Nat) (k : Lx) (r : CmdRes) (ls : List Text)
    (hrun : runCmd i (s.lineOf i place) = (k, r)) (hr : answerLines r = some ls) (hk : (lineCur place).Goes k.c) :
    ∃ rs v b, Lx.runRest [.cmd i] ⟨(s.lineOf i place).s, (ownLine i).cur place⟩ = ⟨k.s, answeredCur place k.c rs v b⟩ ∧
      (answeredCur place k.c rs v b).response none = ls := by
  obtain ⟨t, c⟩ := k
  change c = _ at hk
  have hcmd : Lx.command ⟨(s.lineOf i place).s, { (ownLine i).cur place with rest := [], k := ((ownLine i).cur place).k + 1 }⟩
      (.cmd i) = (⟨t, c⟩, r) := hrun
  rw [Lx.runRest, hcmd, hk]
  cases r with
  | ok => cases hr; exact ⟨[], false, false, rfl, rfl⟩
  | val x => cases hr; exact ⟨_, true, false, rfl, rfl⟩
  | block bs => cases hr; exact ⟨bs, false, true, rfl, rfl⟩
  | err e => cases hr
  | wait w => cases hr
  | ask x => cases hr

/-- A line of one command whose command answers. -/
theorem State.startLine_answered (s : State) (i : Instr) (place : Nat) (k : Lx) (r : CmdRes) (ls : List Text)
    (hrun : runCmd i (s.lineOf i place) = (k, r)) (hr : answerLines r = some ls) (hk : (lineCur place).Goes k.c) :
    s.startLine (ownLine i) place = { k.s with h := (k.s.h.respond none false ls TxAfter.none).lineDone } := by
  obtain ⟨rs, v, b, hline, hls⟩ := Lx.runRest_answered s i place k r ls hrun hr hk
  rw [s.startLine_own i place, ← s.lineOf_s i place]
  exact (congrArg Lx.settle hline).trans (Lx.settle_done _ ls rfl rfl rfl rfl rfl rfl hls)

/-- A command of its own on an idle host side, which answers. -/
theorem State.textCmd_answered (s : State) (i : Instr) (hs : HostIdle s) (k : Lx) (r : CmdRes) (ls : List Text)
    (hrun : runCmd i (s.lineOf i 0) = (k, r)) (hr : answerLines r = some ls) (hk : (lineCur 0).Goes k.c) :
    s.textCmd i = { k.s with h := (k.s.h.respond none false ls TxAfter.none).lineDone } := by
  rw [s.textCmd_idle i hs]
  exact s.startLine_answered i 0 k r ls hrun hr hk

/-- A line whose command has only answered leaves the rest of the state: its response is on the way. -/
theorem State.startLine_answered_only (s : State) (i : Instr) (place : Nat) (r : CmdRes) (ls : List Text) (hc : s.h.line.cur = none)
    (hrun : runCmd i (s.lineOf i place) = (s.lineOf i place, r)) (hr : answerLines r = some ls) :
    s.startLine (ownLine i) place = s.host (sent · ls) := by
  have hdone : (sent s.h ls).lineDone = sent s.h ls := HostSide.lineDone_of_none hc
  rw [s.startLine_answered i place _ r ls hrun hr (.refl _), State.host, ← hdone]
  rfl

end Sys2Proof.Machine
end

section
/-! The host frame (02_frame.md sections 4 and 6): its boundary, the lines that it executes, those that came too late. -/

namespace Sys2Proof.Machine

/-! ### The boundary without a line -/

theorem State.runLines_empty (n : Nat) (s : State) (h : s.h.line.lines = []) : s.runLines n = s := by
  cases n with
  | zero => rfl
  | succ n =>
    unfold State.runLines
    split
    · rfl
    · rw [h]

/-- The barrier's host end after the boundary of a frame (R137, R142, R143). -/
def HostSide.frameBar (h : HostSide) : HBar :=
  let quiet := decide (0 < h.bar.since.toNat)
  { h.bar with
    mir := if (quiet || !h.bar.link) && h.awake then h.bar.mir + 2 ^ 26 else h.bar.mir,
    frames := if quiet && h.bar.link then h.bar.frames + 1 else h.bar.frames,
    lane := if !h.bar.link && quiet then h.bar.lane ++ [idleTxn] else h.bar.lane }

/-- The boundary of a host frame in which no line executes. -/
theorem HostSide.frame_idle (h : HostSide) (hc : h.line.cur = none) : h.frame = { h.domBoundary with
    hf := h.hf + 1, pwrqAge := h.pwrqAge + 1, uart := { h.uart with idle := h.uart.idle + 1 },
    rot := { h.rot with since := min (h.rot.since + 1) 65536 },
    table := { h.table with merge := h.table.merge.map (· - 1) }, bar := h.frameBar } := by
  have hcur : h.domBoundary.line.cur = none := hc
  have hawake : h.domBoundary.awake = h.awake := rfl
  dsimp only [HostSide.frame, HostSide.frameBar]
  rw [hcur, Option.map_none, ← hcur, hawake]
  by_cases hidle : (!h.bar.link && decide (0 < h.bar.since.toNat)) = true
  · rw [if_pos (show (!h.domBoundary.bar.link && decide (0 < h.domBoundary.bar.since.toNat)) = true from hidle), if_pos hidle]
    rfl
  · rw [if_neg (show ¬ (!h.domBoundary.bar.link && decide (0 < h.domBoundary.bar.since.toNat)) = true from hidle), if_neg hidle]
    rfl

theorem HostSide.frameEnd_idle (h : HostSide) (hl : h.line.lines = []) :
    h.frameEnd = { h with bar := { h.bar with since := satAdd h.bar.since 1 } } := by
  have hline : ({ h.line with lines := h.line.lines.map fun (l : HLine) => { l with late := false } } : LineSt) = h.line := by
    rw [hl, List.map_nil, ← hl]
  unfold HostSide.frameEnd
  rw [hline]

/-! ### Lines that execute -/

/-- The lines of a single `ID?` that have come in time execute, up to `n` of them, and those behind them wait. -/
theorem State.runLines_idLines (m : Nat) : ∀ (n : Nat) (s : State), s.h.line.cur = none → s.h.line.resetReq = false →
    s.h.line.lines = List.replicate n (idLine false) →
    (s.runLines m).f = s.f ∧ (s.runLines m).h.line.cur = none ∧ (s.runLines m).h.line.lines = List.replicate (n - m) (idLine false) ∧
      (s.runLines m).h.line.tx.length = s.h.line.tx.length + min n m := by
  induction m with
  | zero => exact fun n s hc _ hl => ⟨rfl, hc, hl, by simp [State.runLines]⟩
  | succ m ih =>
    intro n s hc hr hl
    cases n with
    | zero =>
      rw [s.runLines_empty _ hl]
      exact ⟨rfl, hc, by rw [hl]; simp, by simp⟩
    | succ n =>
      let next : State := s.host fun h => { h with line := { h.line with lines := List.replicate n (idLine false) } }
      obtain ⟨t, ht⟩ : ∃ t, runCmd .idQuery (next.lineOf .idQuery (3 - m)) = (next.lineOf .idQuery (3 - m), .val t) := ⟨_, rfl⟩
      have hstart : next.startLine (idLine false) (3 - m) = next.host (sent · (valueLines t)) :=
        next.startLine_answered_only .idQuery (3 - m) _ _ hc ht rfl
      have hrun : s.runLines (m + 1) = (next.host (sent · (valueLines t))).runLines m := by
        rw [← hstart]
        simp [State.runLines, hc, hr, hl, List.replicate_succ, idLine, next]
      obtain ⟨hf, hcur, hlines, htx⟩ := ih n (next.host (sent · (valueLines t))) hc hr rfl
      rw [hrun]
      refine ⟨hf.trans ((next.host_f _).trans (s.host_f _)), hcur, by rw [hlines]; congr 1; omega, htx.trans ?_⟩
      have hone : (next.host (sent · (valueLines t))).h.line.tx.length = s.h.line.tx.length + 1 := by
        simp [sent, HostSide.respond, next, HostSide.ran, HostSide.domain]
      omega

/-! ### The boundary as a step -/

theorem HostSide.defer_eq (h : HostSide) (full : Bool) : h.defer full = { h with
    ovrH := (if full && h.slicesDue then satAdd h.ovrH 1 else h.ovrH),
    latched := (if full && h.slicesDue then withBit h.latched sbOverrun true else h.latched) } := by
  unfold HostSide.defer
  split <;> rfl

/-- The host frame boundary: the frame begins, its lines execute, and it ends. -/
theorem exec_hostFrameBoundary (s : State) (full : Bool) (hr : s.h.run = true) :
    exec (.hostFrameBoundary full) s = .next (((s.host HostSide.frame).runLines 4).host fun h => (h.defer full).frameEnd) :=
  congrArg _ (if_pos hr)

/-- A frame in which no line executes. -/
theorem hostFrameBoundary_idle (s : State) (full : Bool) (hs : HostIdle s) :
    ∃ t, exec (.hostFrameBoundary full) s = .next t ∧ OnlyHost s t { s.h.domBoundary with
        hf := s.h.hf + 1, pwrqAge := s.h.pwrqAge + 1, uart := { s.h.uart with idle := s.h.uart.idle + 1 },
        rot := { s.h.rot with since := min (s.h.rot.since + 1) 65536 },
        table := { s.h.table with merge := s.h.table.merge.map (· - 1) },
        ovrH := (if full && s.h.slicesDue then satAdd s.h.ovrH 1 else s.h.ovrH),
        latched := (if full && s.h.slicesDue then withBit s.h.latched sbOverrun true else s.h.latched),
        bar := { s.h.frameBar with since := satAdd s.h.bar.since 1 } } := by
  obtain ⟨hr, hc, hl, -⟩ := hs
  have hlines : (s.host HostSide.frame).h.line.lines = [] := by
    rw [State.host_h, s.h.frame_idle hc]
    exact hl
  refine ⟨_, exec_hostFrameBoundary s full hr, ?_⟩
  rw [State.runLines_empty 4 _ hlines]
  refine ⟨?_, rfl, rfl⟩
  rw [State.host_h, State.host_h, s.h.frame_idle hc, HostSide.defer_eq]
  exact HostSide.frameEnd_idle _ hl

theorem HostSide.frameEnd_idLines (h : HostSide) (n : Nat) (hl : h.line.lines = List.replicate n (idLine false)) :
    h.frameEnd.line.lines = List.replicate n (idLine false) := by
  simp [HostSide.frameEnd, hl, idLine]

theorem HostSide.frameEnd_tx (h : HostSide) (full : Bool) :
    (h.defer full).frameEnd.line.tx = h.line.tx ∧ (h.defer full).frameEnd.line.cur = h.line.cur ∧
      (h.defer full).line.lines = h.line.lines := by
  rw [h.defer_frame full]
  exact ⟨rfl, rfl, rfl⟩

/-- Settles O50: a boundary without a line is `hostFrameBoundary_idle`, one with lines of one `ID?` is `State.runLines_idLines`; a line that
came late stops those behind it. -/
theorem hostFramesRunLines : Obligations.HostFramesRunLines := by
  refine ⟨fun s d hs => ?_, fun s d n hr hc hq hl => ?_, fun s d rest hr hc hq hl => ?_⟩
  · obtain ⟨t, ht, honly⟩ := hostFrameBoundary_idle s d hs
    have hfresh : satAdd (0#8) 1 = 1#8 := by decide
    have hold : s.h.bar.since ≠ 0#8 → 0 < s.h.bar.since.toNat := fun hne => Nat.pos_of_ne_zero fun h0 => hne (BitVec.eq_of_toNat_eq h0)
    have hawake : s.h.bar.link = false → s.h.awake = true := fun hlink => by simp [HostSide.awake, hlink]
    refine ⟨t, _, ht, honly, fun hlink hsince => ?_, fun hlink hsince => ?_, fun hlink hsince => ?_, fun hlink hsince => ?_⟩
    · simp [HostSide.frameBar, hlink, hsince, hfresh]
    · simp [HostSide.frameBar, hlink, hold hsince]
    · simp [HostSide.frameBar, hlink, hsince, hfresh, hawake hlink]
    · simp [HostSide.frameBar, hlink, hold hsince, hawake hlink, idleTxn]
  · have hframe := s.h.frame_idle hc
    obtain ⟨hf, hcur, hlines, htx⟩ := State.runLines_idLines 4 n (s.host HostSide.frame) (by rw [State.host_h, hframe]; exact hc)
      (by rw [State.host_h, hframe]; exact hq) (by rw [State.host_h, hframe]; exact hl)
    obtain ⟨hendtx, hendcur, hendlines⟩ := ((s.host HostSide.frame).runLines 4).h.frameEnd_tx d
    refine ⟨_, exec_hostFrameBoundary s d hr, hf, hendcur.trans hcur, ?_, ?_⟩
    · exact HostSide.frameEnd_idLines _ _ (hendlines.trans hlines)
    · rw [State.host_h, hendtx, htx, State.host_h, hframe]
      rfl
  · have hframe := s.h.frame_idle hc
    have hstop : (s.host HostSide.frame).runLines 4 = s.host HostSide.frame := by
      have hlines : (s.host HostSide.frame).h.line.lines = idLine true :: rest := by
        rw [State.host_h, hframe]
        exact hl
      simp only [State.runLines, hlines, idLine, if_true, ite_self]
    refine ⟨_, exec_hostFrameBoundary s d hr, ?_⟩
    obtain ⟨hendtx, -, hendlines⟩ := (s.host HostSide.frame).h.frameEnd_tx d
    rw [hstop]
    refine ⟨rfl, ?_, ?_⟩
    · rw [State.host_h, hendtx, State.host_h, hframe]
      rfl
    · have hmap : ((s.host HostSide.frame).h.defer d).frameEnd.line.lines =
          (s.host HostSide.frame).h.line.lines.map fun (l : HLine) => { l with late := false } := by
        rw [← hendlines]
        rfl
      rw [State.host_h, hmap, State.host_h, hframe]
      exact congrArg (List.map _) hl

end Sys2Proof.Machine
end

section
/-! The queries that the host side answers by itself (16_commands.md). -/

namespace Sys2Proof.Machine

/-- A text command that only answers leaves the rest of the state: its response is on the way. -/
theorem State.answers_only (s : State) (i : Instr) (ls : List Text) (r : CmdRes) (hs : HostIdle s) (hexec : exec i s = .next (s.textCmd i))
    (hrun : runCmd i (s.lineOf i 0) = (s.lineOf i 0, r)) (hr : answerLines r = some ls) :
    ∃ t, exec i s = .next t ∧ OnlyHost s t (sent s.h ls) := by
  refine ⟨_, hexec, ?_⟩
  rw [s.textCmd_idle i hs, s.startLine_answered_only i 0 r ls hs.2.1 hrun hr]
  exact ⟨s.host_h _, s.host_f _, s.host_pending _⟩

/-- The groups of items that the host side holds alone need no read of a field register. -/
theorem telReads_of_host {g : TelGroup} (h : telField g = false) : telReads g = [] := by
  cases g <;> simp_all [telField, telReads]

/-- The lines of a group are the same while a line executes. -/
theorem State.telLines_lineOf (s : State) (i : Instr) (place : Nat) (g : TelGroup) : (s.lineOf i place).s.telLines g = s.telLines g := by
  cases g <;> rfl

/-- The result of a transmission that is kept (R662). -/
theorem cmdRftx_found (l : Lx) (n : Nat) (e : Byte × TxResult × Option HStamp)
    (he : l.s.h.radio.results.find? (fun e => e.1.toNat = n) = some e) : cmdRftx n l = (l, .val (commas ['T' :: decText e.1.toNat,
      e.2.1.name, match e.2.2 with | some x => natStamp x.stamp | none => txt "-"])) := by
  obtain ⟨id, x, st⟩ := e
  simp only [cmdRftx, he] <;> rfl

/-- A part of the Layout Table (R610). -/
theorem descQuery_answers (s : State) (o len : Nat) (ls : List Text) (hs : HostIdle s) (h : hostAnswer s (.descQuery o len) = some ls) :
    ∃ t, exec (.descQuery o len) s = .next t ∧ OnlyHost s t (sent s.h ls) := by
  obtain ⟨⟨hmin, hmax, hserved, hlen⟩, hls⟩ := Option.ite_none_right_eq_some.mp h
  have hrange : ¬ (decide (len < 1) || decide (1024 < len)) = true := by simp; omega
  have hready : ¬ (!s.h.table.served) = true := by simp [hserved]
  have hrun : runCmd (.descQuery o len) (s.lineOf (.descQuery o len) 0) =
      (s.lineOf (.descQuery o len) 0, .block (s.h.table.lines s.f.fuse 32 o len)) :=
    (if_neg hrange).trans ((if_neg hready).trans (if_neg (Nat.not_lt.mpr hlen)))
  exact s.answers_only (.descQuery o len) ls (.block _) hs rfl hrun hls

/-- The entries of the Layout Table, of one type or of all (R701, R702). -/
theorem descListQuery_answers (s : State) (ty : Option Nat) (ls : List Text) (hs : HostIdle s)
    (h : hostAnswer s (.descListQuery ty) = some ls) : ∃ t, exec (.descListQuery ty) s = .next t ∧ OnlyHost s t (sent s.h ls) := by
  cases ty with
  | some n =>
    obtain ⟨⟨hmin, hmax, hserved⟩, hls⟩ := Option.ite_none_right_eq_some.mp h
    have hrange : ¬ (decide (n < 1) || decide (12 < n)) = true := by simp; omega
    have hready : ¬ (!s.h.table.served) = true := by simp [hserved]
    exact s.answers_only (.descListQuery (some n)) ls (.block _) hs rfl ((if_neg hrange).trans (if_neg hready)) hls
  | none =>
    obtain ⟨hserved, hls⟩ := Option.ite_none_right_eq_some.mp h
    have hready : ¬ (!s.h.table.served) = true := by simp [hserved]
    exact s.answers_only (.descListQuery none) ls (.block _) hs rfl (if_neg hready) hls

/-- Settles O1: each query's command answers from the state at once, and `State.answers_only` is its line. -/
theorem hostQueriesAnswer : Obligations.HostQueriesAnswer := by
  intro s i ls hs h
  unfold hostAnswer at h
  split at h
  · exact s.answers_only .idQuery ls (.val _) hs rfl rfl h
  · exact s.answers_only .modeQuery ls (.val _) hs rfl rfl h
  · exact s.answers_only .uartBaudQuery ls (.val _) hs rfl rfl h
  · exact s.answers_only .stQuery ls (.val _) hs rfl rfl h
  · exact s.answers_only (.jobQuery none) ls (.block _) hs rfl rfl h
  · next n =>
    obtain ⟨hn, hls⟩ := Option.ite_none_right_eq_some.mp h
    exact s.answers_only (.jobQuery (some n)) ls (.val _) hs rfl (if_neg (by omega)) hls
  · next n o c =>
    obtain ⟨⟨hn, hmin, hmax, hst, ho⟩, hls⟩ := Option.ite_none_right_eq_some.mp h
    have hrange : ¬ (decide (3 < n) || decide (c < 1) || decide (64 < c)) = true := by simp; omega
    have hrun : runCmd (.jobPartQuery n o c) (s.lineOf (.jobPartQuery n o c) 0) =
        (s.lineOf (.jobPartQuery n o c) 0, .block (((s.h.jobOf n).lines.drop o).take c)) :=
      (if_neg hrange).trans ((if_neg hst).trans (if_neg (Nat.not_lt.mpr ho)))
    exact s.answers_only (.jobPartQuery n o c) ls (.block _) hs rfl hrun hls
  · obtain ⟨hlink, hls⟩ := Option.ite_none_left_eq_some.mp h
    have hdown : (!s.h.bar.link) = true := by simpa using hlink
    exact s.answers_only .testQuery ls (.block _) hs rfl (if_pos hdown) hls
  · next g =>
    obtain ⟨hhost, hls⟩ := Option.ite_none_left_eq_some.mp h
    simp only [Bool.or_eq_true, not_or, Bool.not_eq_true] at hhost
    obtain ⟨hbad, hfield⟩ := hhost
    have hrun : runCmd (.telQuery (some g)) (s.lineOf (.telQuery (some g)) 0) =
        (s.lineOf (.telQuery (some g)) 0, .block (s.telLines g)) := by
      have hup : ¬ (telField g && !s.h.bar.link) = true := by simp [hfield]
      refine (if_neg (Bool.not_eq_true _ ▸ hbad)).trans ((if_neg hup).trans ?_)
      rw [telReads_of_host hfield]
      exact congrArg (fun x => (s.lineOf (.telQuery (some g)) 0, CmdRes.block x)) (s.telLines_lineOf _ 0 g)
    exact s.answers_only (.telQuery (some g)) ls (.block _) hs rfl hrun hls
  · exact s.answers_only .ppsQuery ls (.block _) hs rfl rfl h
  · exact s.answers_only .rfQuery ls (.val _) hs rfl rfl h
  · next n =>
    obtain ⟨e, he, hls⟩ := Option.map_eq_some_iff.mp h
    have hrun := cmdRftx_found (s.lineOf (.rftxQuery n) 0) n e he
    exact s.answers_only (.rftxQuery n) ls (.val _) hs rfl hrun (congrArg some hls)
  · exact s.answers_only .rfqQuery ls (.block _) hs rfl rfl h
  · exact descQuery_answers s _ _ ls hs h
  · exact descListQuery_answers s _ ls hs h
  · exact descListQuery_answers s _ ls hs h
  · cases h

end Sys2Proof.Machine
end

section
/-! Accesses of a line to the field window (04_barrier.md section 3): on quiet lanes an access is answered within the step
(notes/assumptions/34.md), and leaves the lanes quiet for the next one. -/

namespace Sys2Proof.Machine

/-! ### States that an exchange relates -/

/-- What an exchange may change beside its effect, written out. -/
theorem exchanged_iff {s t : State} {h : HostSide} {f : Field} : Exchanged s t h f ↔
    ∃ q d n a, (d = h.domNow ∨ d = h.msgDomains.domNow) ∧ t = ⟨{ f with bar := { f.bar with lastSeq := n, lastAns := a } },
      { h with bar := { h.bar with nextSeq := q }, domNow := d }, s.pending⟩ := by
  constructor
  · rintro ⟨hh, hd, hf, hp⟩
    refine ⟨t.h.bar.nextSeq, t.h.domNow, t.f.bar.lastSeq, t.f.bar.lastAns, hd, ?_⟩
    exact (State.mk.injEq ..).mpr ⟨hf, hh, hp⟩
  · rintro ⟨q, d, n, a, hd, rfl⟩
    exact ⟨rfl, hd, rfl, rfl⟩

/-- The domains of a message, once on, stay on. -/
theorem HostSide.msgDomains_twice (h : HostSide) (d : BitVec 56) (hd : d = h.domNow ∨ d = h.msgDomains.domNow) :
    HostSide.domNow (HostSide.msgDomains { h with domNow := d }) = h.msgDomains.domNow := by
  have hmask (x : BitVec 56) : HostSide.domNow (HostSide.msgDomains { h with domNow := x }) =
      x ||| (1#56 <<< 12 ||| (1#56 <<< 13 ||| (1#56 <<< 14 ||| 1#56 <<< 15))) := by
    simp only [HostSide.msgDomains, HostSide.domain_domNow, BitVec.or_assoc]
  have hown := hmask h.domNow
  rcases hd with rfl | rfl
  · rfl
  · rw [hmask, show h.msgDomains.domNow = _ from hown, BitVec.or_assoc, BitVec.or_self]

/-- The host side with another polarity of PON_H held, the field side with other writes that wait: what accesses of a line leave, beside
their own bookkeeping. -/
def Lx.Asks (l k : Lx) (p : PonH) (w : List PendW) : Prop :=
  Exchanged l.s k.s { l.s.h with pon := p } { l.s.f with pendW := w } ∧ l.c.Goes k.c

theorem Lx.Asks.refl (l : Lx) : l.Asks l l.s.h.pon l.s.f.pendW := ⟨⟨rfl, .inl rfl, rfl, rfl⟩, .refl _⟩

theorem Lx.Asks.trans {l k m : Lx} {p p' : PonH} {w w' : List PendW} (a : l.Asks k p w) (b : k.Asks m p' w') : l.Asks m p' w' := by
  refine ⟨?_, a.2.trans b.2⟩
  obtain ⟨q, d, n, x, hd, hk⟩ := exchanged_iff.mp a.1
  obtain ⟨q', d', n', x', hd', hm⟩ := exchanged_iff.mp b.1
  refine exchanged_iff.mpr ⟨q', d', n', x', ?_, ?_⟩
  · rw [hk] at hd'
    have hmsg := HostSide.msgDomains_twice l.s.h d hd
    rcases hd' with rfl | rfl
    · exact hd
    · exact .inr hmsg
  · rw [hm, hk]

/-! ### A line on quiet lanes -/

/-- The line's next access is answered within the step. -/
def Lx.Ready (l : Lx) : Prop := l.s.h.bar.link = true ∧ l.s.quiet = true ∧ l.c.ans.length ≤ l.c.used

theorem State.quiet_iff (s : State) : s.quiet = true ↔ s.f.barReady = true ∧ s.f.bar.sendTick = true ∧ s.h.bar.unans = none ∧
    s.h.bar.queue = [] ∧ s.h.bar.lane.all (fun t => t.ty = .idle) = true ∧ s.f.bar.lane = [] ∧
    s.f.bar.lastSeq ≠ some s.h.bar.nextSeq := by
  simp [State.quiet, and_assoc]

theorem next_seq_ne (q : BitVec 4) : some q ≠ some (q + 1) := by
  revert q
  decide

/-- A write of `PON_CFG` may reach the polarity that the host side holds, and nothing else does. -/
theorem HostSide.copied_pon (h : HostSide) (x : Acc) (e q d : _) :
    HostSide.copied { h with bar := { h.bar with nextSeq := q }, domNow := d } x e =
      { h with pon := (h.copied x e).pon, bar := { h.bar with nextSeq := q }, domNow := d } := by
  cases x with
  | read a => rfl
  | write a w =>
    unfold HostSide.copied
    dsimp only
    split <;> rfl
  | stClr m => rfl

/-- The state after an access that leaves writes `w` to wait and is answered `a`. -/
theorem State.access_served (s : State) (x : Acc) (w : List PendW) (a : Txn)
    (hserve : s.f.serve s.h.bar.nextSeq x = ({ s.f with pendW := w }, a)) : s.access x =
      (⟨{ s.f with pendW := w, bar := { s.f.bar with lastSeq := some s.h.bar.nextSeq, lastAns := some a } },
        { s.h with
          pon := (s.h.copied x (resultOf a).1).pon, bar := { s.h.bar with nextSeq := s.h.bar.nextSeq + 1 },
          domNow := s.h.msgDomains.domNow }, s.pending⟩, resultOf a) := by
  have hcopied := s.h.copied_pon x (resultOf a).1 (s.h.bar.nextSeq + 1) s.h.msgDomains.domNow
  have hmsg : ({ s.h.msgDomains with bar := { s.h.bar with nextSeq := s.h.bar.nextSeq + 1 } } : HostSide) =
      { s.h with bar := { s.h.bar with nextSeq := s.h.bar.nextSeq + 1 }, domNow := s.h.msgDomains.domNow } := by
    simp only [HostSide.msgDomains, HostSide.domain]
  simp only [State.access, hserve, hmsg, hcopied]

/-- On quiet lanes an access that leaves the field end as it is has its answer, and the next one will. -/
theorem Lx.access_ready (l : Lx) (x : Acc) (w : List PendW) (a : Txn) (hl : l.Ready)
    (hserve : l.s.f.serve l.s.h.bar.nextSeq x = ({ l.s.f with pendW := w }, a)) :
    ∃ k, l.access x = (k, some (resultOf a)) ∧ l.Asks k (l.s.h.copied x (resultOf a).1).pon w ∧ k.Ready := by
  obtain ⟨hlink, hquiet, hans⟩ := hl
  have hnone : l.c.ans[l.c.used]? = none := List.getElem?_eq_none hans
  have hacc := l.s.access_served x w a hserve
  refine ⟨⟨(l.s.access x).1, { l.c with ans := l.c.ans ++ [resultOf a], used := l.c.used + 1 }⟩, ?_, ⟨?_, rfl⟩, ?_, ?_, ?_⟩
  · rw [Lx.access, hnone]
    simp only [hlink, hquiet, hacc, Bool.not_true, Bool.false_eq_true, if_false, if_true]
  · rw [hacc]
    exact exchanged_iff.mpr ⟨_, _, _, _, .inr rfl, rfl⟩
  · rw [hacc]
    exact hlink
  · rw [hacc, State.quiet_iff]
    obtain ⟨hready, htick, hunans, hqueue, hlane, hfield, -⟩ := l.s.quiet_iff.mp hquiet
    exact ⟨hready, htick, hunans, hqueue, hlane, hfield, next_seq_ne _⟩
  · simpa using hans

/-! ### Reads in turn -/

/-- A mapped register whose read checks no KEEP byte. -/
def plainReg (a : Nat) : Bool := fieldMapped a && (regIdx 0x1300 64 a).isNone

/-- What a register of the field window shows as a line reads it. -/
def Field.shows (f : Field) (a : Nat) : Text := hexText 8 ((f.regValue f.clk a).getD 0#32).toNat

theorem Lx.readWord_ready (l : Lx) (a : Nat) (hl : l.Ready) (ha : plainReg a = true) :
    ∃ k, l.readWord a = (k, .val (l.s.f.shows a)) ∧ l.Asks k l.s.h.pon l.s.f.pendW ∧ k.Ready := by
  obtain ⟨hmap, hkeep⟩ := Bool.and_eq_true_iff.mp ha
  obtain ⟨v, hv⟩ := Option.isSome_iff_exists.mp ((l.s.f.regValue_isSome l.s.f.clk a).trans hmap)
  have hchecks : l.s.f.readChecks a = l.s.f := by
    rw [Field.readChecks, Option.isNone_iff_eq_none.mp hkeep]
  have hserve := l.s.f.answerRead_mapped l.s.h.bar.nextSeq a v (hchecks.symm ▸ hv)
  rw [hchecks] at hserve
  obtain ⟨k, hacc, hasks, hk⟩ := l.access_ready (.read a) l.s.f.pendW _ hl hserve
  refine ⟨k, ?_, hasks, hk⟩
  simp only [Lx.readWord, hacc, Field.shows, hv]
  rfl

/-- What stands on the field side apart from the barrier's bookkeeping shows the same. -/
theorem Lx.Asks.shows {l k : Lx} {p : PonH} (h : l.Asks k p l.s.f.pendW) (a : Nat) : k.s.f.shows a = l.s.f.shows a := by
  obtain ⟨q, d, n, x, -, hk⟩ := exchanged_iff.mp h.1
  rw [hk]
  exact congrArg (fun o => hexText 8 (Option.getD o 0#32).toNat) (Field.regValue_bar _ _ _ _ rfl rfl rfl)

theorem Lx.Asks.keeps {l k : Lx} {p : PonH} {w : List PendW} (h : l.Asks k p w) : k.s.h.pon = p ∧ k.s.f.pendW = w := by
  obtain ⟨q, d, n, x, -, hk⟩ := exchanged_iff.mp h.1
  rw [hk]
  exact ⟨rfl, rfl⟩

/-- Accesses that each leave what waits. -/
theorem Lx.Asks.step {l k m : Lx} (a : l.Asks k l.s.h.pon l.s.f.pendW) (b : k.Asks m k.s.h.pon k.s.f.pendW) :
    l.Asks m l.s.h.pon l.s.f.pendW := by
  obtain ⟨hp, hw⟩ := a.keeps
  exact a.trans (hp ▸ hw ▸ b)

theorem Lx.reads_ready (as : List Nat) (l : Lx) (hl : l.Ready) (has : as.all plainReg = true) :
    ∃ k, Lx.reads as l = (k, .ok) ∧ l.Asks k l.s.h.pon l.s.f.pendW ∧ k.Ready := by
  induction as generalizing l with
  | nil => exact ⟨l, rfl, .refl l, hl⟩
  | cons a as ih =>
    obtain ⟨ha, has⟩ := Bool.and_eq_true_iff.mp has
    obtain ⟨k, hread, hk, hkr⟩ := l.readWord_ready a hl ha
    obtain ⟨m, hreads, hm, hmr⟩ := ih k hkr has
    refine ⟨m, ?_, hk.step hm, hmr⟩
    simp only [Lx.reads, hread, thenDo, hreads]

/-- A query of plain registers shows what they stand for, beside the barrier's bookkeeping. -/
theorem Lx.query_ready (l : Lx) (as : List Nat) (g : Field → CmdRes) (hl : l.Ready) (has : as.all plainReg = true) :
    ∃ k n x, l.query as g = (k, g { l.s.f with bar := { l.s.f.bar with lastSeq := n, lastAns := x } }) ∧
      l.Asks k l.s.h.pon l.s.f.pendW := by
  obtain ⟨k, hreads, hk, -⟩ := Lx.reads_ready as l hl has
  obtain ⟨q, d, n, x, -, hks⟩ := exchanged_iff.mp hk.1
  refine ⟨k, n, x, ?_, hk⟩
  simp only [Lx.query, hreads, thenDo, hks]

/-- On quiet lanes the two reads of `FRAME` around the snapshot set agree (R211). -/
theorem Lx.readSet_ready (l : Lx) (hl : l.Ready) : ∃ k, (∀ g, l.readSet g = g k true) ∧ l.Asks k l.s.h.pon l.s.f.pendW := by
  obtain ⟨k1, hfirst, h1, hr1⟩ := l.readWord_ready 0x1020 hl (by decide +kernel)
  obtain ⟨k2, hset, h2, hr2⟩ := Lx.reads_ready snapshotAddrs k1 hr1 (by decide +kernel)
  obtain ⟨k3, hlast, h3, -⟩ := k2.readWord_ready 0x1020 hr2 (by decide +kernel)
  have hsame : k2.s.f.shows 0x1020 = l.s.f.shows 0x1020 := (h1.step h2).shows _
  refine ⟨k3, fun g => ?_, (h1.step h2).step h3⟩
  simp only [Lx.readSet, hfirst, hset, hlast, thenDo, hsame, decide_true]

/-- A query of the snapshot shows the values of the frame in which it was taken (R210). -/
theorem Lx.snapped_ready (l : Lx) (g : Clk → Text) (hl : l.Ready) (hsnap : l.c.snap = none) :
    ∃ k, l.snapped (fun l => (l, .val (g l.clk))) = (k, .val (g l.s.f.clk)) ∧ l.Asks k l.s.h.pon l.s.f.pendW := by
  obtain ⟨k, hset, hk⟩ := l.readSet_ready hl
  have hclk : k.s.f.clk = l.s.f.clk := by
    obtain ⟨q, d, n, x, -, hks⟩ := exchanged_iff.mp hk.1
    rw [hks]
  refine ⟨{ k with c := { k.c with snap := some k.s.f.clk, ans := k.c.ans.drop k.c.used, used := 0 } }, ?_, hk.1, hk.2.trans rfl⟩
  simp only [Lx.snapped, hsnap, hset, if_true, Lx.clk, Option.getD_some, hclk]

/-! ### Writes -/

theorem Lx.writeField_ready (l : Lx) (a : Nat) (w v : Word) (hl : l.Ready) (hv : accepted a w = some v) :
    ∃ k, l.writeField a w = (k, .ok) ∧ l.Asks k (l.s.h.copied (.write a w) 0).pon (l.s.f.pendW ++ [.reg a v]) ∧ k.Ready := by
  obtain ⟨k, hacc, hasks, hk⟩ := l.access_ready (.write a w) (l.s.f.pendW ++ [PendW.reg a v]) (ackOf .regwr l.s.h.bar.nextSeq) hl
    (l.s.f.answerWrite_accepted l.s.h.bar.nextSeq hv)
  refine ⟨k, ?_, hasks, hk⟩
  simp only [Lx.writeField, Lx.send, hacc]
  rfl

/-- A write of any register but `PON_CFG` leaves the polarity that the host side holds (R729). -/
theorem HostSide.copied_other (h : HostSide) {a : Nat} (w : Word) (e : Nat) (ha : a ≠ 0x122C) : h.copied (.write a w) e = h := by
  simp [HostSide.copied, ha]

theorem Lx.writeField_plain (l : Lx) (a : Nat) (w v : Word) (hl : l.Ready) (ha : a ≠ 0x122C) (hv : accepted a w = some v) :
    ∃ k, l.writeField a w = (k, .ok) ∧ l.Asks k l.s.h.pon (l.s.f.pendW ++ [.reg a v]) ∧ k.Ready := by
  have h := l.writeField_ready a w v hl hv
  rwa [l.s.h.copied_other w 0 ha] at h

/-- Writes that every register accepts wait for the commit, in turn (R55). -/
theorem Lx.writeAll_ready (ws : List (Nat × Word)) (ps : List PendW) (l : Lx) (hl : l.Ready) (ha : ∀ e ∈ ws, e.1 ≠ 0x122C)
    (hps : pendAll ws = some ps) : ∃ k, l.writeAll ws = (k, .ok) ∧ l.Asks k l.s.h.pon (l.s.f.pendW ++ ps) ∧ k.Ready := by
  induction ws generalizing l ps with
  | nil =>
    cases hps
    exact ⟨l, rfl, (List.append_nil l.s.f.pendW).symm ▸ .refl l, hl⟩
  | cons e ws ih =>
    obtain ⟨a, w⟩ := e
    obtain ⟨v, hv, hrest⟩ := Option.bind_eq_some_iff.mp hps
    obtain ⟨qs, hqs, rfl⟩ := Option.map_eq_some_iff.mp hrest
    obtain ⟨k, hwrite, hk, hkr⟩ := l.writeField_plain a w v hl (ha _ (List.mem_cons_self ..)) hv
    obtain ⟨m, hall, hm, hmr⟩ := ih qs k hkr (fun e he => ha e (List.mem_cons_of_mem _ he)) hqs
    obtain ⟨hpon, hpend⟩ := hk.keeps
    rw [hpon, hpend, List.append_assoc] at hm
    refine ⟨m, ?_, hk.trans hm, hmr⟩
    simp only [Lx.writeAll, hwrite, thenDo, hall]

/-- What waits for a register, and its value, stand beside the barrier's own state. -/
theorem Field.pendValue_bar (f : Field) (b : FBar) (a : Nat) (hcrc : b.crcHF = f.bar.crcHF) (hretry : b.retryF = f.bar.retryF)
    (hdup : b.dupF = f.bar.dupF) : ({ f with bar := b } : Field).pendValue a = f.pendValue a := by
  unfold Field.pendValue
  exact congrArg (fun o => f.pendW.foldl _ (Option.getD o 0#32)) (f.regValue_bar b f.clk a hcrc hretry hdup)

/-- A text command that sets fields of a register reads it, and writes it with what waits (notes/assumptions/35.md). -/
theorem Lx.setField_ready (l : Lx) (a : Nat) (g : Word → Word) (v : Word) (hl : l.Ready) (ha : plainReg a = true)
    (hv : accepted a (g (l.s.f.pendValue a)) = some v) : ∃ k, l.setField a g = (k, .ok) ∧
      l.Asks k (l.s.h.copied (.write a (g (l.s.f.pendValue a))) 0).pon (l.s.f.pendW ++ [.reg a v]) ∧ k.Ready := by
  obtain ⟨k, hread, hk, hkr⟩ := l.readWord_ready a hl ha
  obtain ⟨q, d, n, x, -, hks⟩ := exchanged_iff.mp hk.1
  have hvalue : k.s.f.pendValue a = l.s.f.pendValue a := by
    rw [hks]
    exact Field.pendValue_bar _ _ a rfl rfl rfl
  obtain ⟨m, hwrite, hm, hmr⟩ := k.writeField_ready a (g (l.s.f.pendValue a)) v hkr hv
  have hcopied : (k.s.h.copied (.write a (g (l.s.f.pendValue a))) 0).pon = (l.s.h.copied (.write a (g (l.s.f.pendValue a))) 0).pon := by
    have hh : k.s.h = { l.s.h with bar := { l.s.h.bar with nextSeq := q }, domNow := d } := by rw [hks]
    rw [hh, l.s.h.copied_pon]
  obtain ⟨-, hpend⟩ := hk.keeps
  rw [hcopied, hpend] at hm
  refine ⟨m, ?_, hk.trans hm, hmr⟩
  simp only [Lx.setField, hread, thenDo, hvalue, hwrite]

/-! ### A line of its own on quiet lanes -/

theorem State.lineOf_ready (s : State) (i : Instr) (hs : Linked s) : (s.lineOf i 0).Ready := by
  obtain ⟨-, hlink, -, hquiet⟩ := hs
  exact ⟨hlink, hquiet, Nat.le_refl 0⟩

/-- The response of a line whose accesses were answered within the step: what they left, and the lines of the response. -/
theorem State.textCmd_exchanged (s : State) (i : Instr) (ls : List Text) (r : CmdRes) (k : Lx) (p : PonH) (w : List PendW) (hs : HostIdle s)
    (hrun : runCmd i (s.lineOf i 0) = (k, r)) (hr : answerLines r = some ls) (hk : (s.lineOf i 0).Asks k p w) :
    Exchanged s (s.textCmd i) (sent { s.h with pon := p } ls) { s.f with pendW := w } := by
  obtain ⟨q, d, n, x, hd, hks⟩ := exchanged_iff.mp hk.1
  rw [s.textCmd_answered i hs k r ls hrun hr hk.2, hks]
  have hdone : (sent { s.h with pon := p } ls).lineDone = sent { s.h with pon := p } ls := HostSide.lineDone_of_none hs.2.1
  refine exchanged_iff.mpr ⟨q, d, n, x, hd, ?_⟩
  rw [← hdone]
  rfl

end Sys2Proof.Machine
end

section
/-! The queries of the field side (16_commands.md). -/

namespace Sys2Proof.Machine

/-- A query whose accesses were answered within the step. -/
theorem State.answers_query (s : State) (i : Instr) (ls : List Text) (r : CmdRes) (k : Lx) (hs : Linked s)
    (hexec : exec i s = .next (s.textCmd i)) (hrun : runCmd i (s.lineOf i 0) = (k, r)) (hr : answerLines r = some ls)
    (hk : (s.lineOf i 0).Asks k s.h.pon s.f.pendW) : ∃ t, exec i s = .next t ∧ Exchanged s t (sent s.h ls) s.f :=
  ⟨_, hexec, s.textCmd_exchanged i ls r k s.h.pon s.f.pendW hs.1 hrun hr hk⟩

/-- A query of registers, whose text no state of the barrier changes. -/
theorem State.answers_registers (s : State) (i : Instr) (ls : List Text) (as : List Nat) (g : Field → CmdRes) (hs : Linked s)
    (hexec : exec i s = .next (s.textCmd i)) (hrun : runCmd i (s.lineOf i 0) = (s.lineOf i 0).query as g) (has : as.all plainReg = true)
    (hg : ∀ n x, g { s.f with bar := { s.f.bar with lastSeq := n, lastAns := x } } = g s.f) (hr : answerLines (g s.f) = some ls) :
    ∃ t, exec i s = .next t ∧ Exchanged s t (sent s.h ls) s.f := by
  obtain ⟨k, n, x, hquery, hk⟩ := (s.lineOf i 0).query_ready as g (s.lineOf_ready i hs) has
  exact s.answers_query i ls _ k hs hexec (hrun.trans hquery) ((congrArg answerLines (hg n x)).trans hr) hk

/-- The registers of a group of items are plain. -/
theorem telReads_plain {g : TelGroup} (hg : telBad g = false) : (telReads g).all plainReg = true := by
  have hdom : ∀ i, i < 92 → plainReg (0x1A00 + 4 * i) = true := by decide +kernel
  cases g with
  | domF i =>
    have hi : i < 92 := by simpa [telBad] using hg
    simp [telReads, hdom i hi]
  | frame | uart | bar | sup | nvm | tdc | cal | rf | flag | test => decide +kernel
  | domH i => rfl

/-- The lines of a group, beside the barrier's bookkeeping. -/
theorem Lx.Asks.telLines {l k : Lx} (h : l.Asks k l.s.h.pon l.s.f.pendW) (g : TelGroup) : k.s.telLines g = l.s.telLines g := by
  obtain ⟨q, d, n, x, -, hk⟩ := exchanged_iff.mp h.1
  rw [hk]
  cases g <;> rfl

/-- The registers of alarm `n`, and what `AL?` shows of it. -/
def alarmRegs (n : Nat) : List Nat :=
  let base := 0x1200 + 0x10 * (n - 1)
  [base, base + 4, base + 8, base + 12]
def alarmAnswer (n : Nat) (f : Field) : CmdRes :=
  match f.al[n - 1]? with
  | none => .err 20
  | some a => .val (a.text n)

/-- Settles O2: the queries of registers are `State.answers_registers`, those of the snapshot `Lx.snapped_ready`. -/
theorem fieldQueriesAnswer : Obligations.FieldQueriesAnswer := by
  intro s i ls hs h
  have hup : ¬ (!s.h.bar.link) = true := by simp [hs.2.1]
  unfold fieldAnswer at h
  split at h
  · exact s.answers_registers .testQuery ls [0x1784, 0x1788] (fun f => .block [testText "+F" f.tst.rot 30, testText "+H" s.h.rot 13]) hs
      rfl (if_neg hup) (by decide +kernel) (fun _ _ => rfl) h
  · next g =>
    obtain ⟨hg, hls⟩ := Option.ite_none_right_eq_some.mp h
    simp only [Bool.and_eq_true, Bool.not_eq_true'] at hg
    have hlink : ¬ (telField g && !s.h.bar.link) = true := by simp [hs.2.1]
    obtain ⟨k, hreads, hk, -⟩ := Lx.reads_ready (telReads g) (s.lineOf (.telQuery (some g)) 0) (s.lineOf_ready _ hs)
      (telReads_plain hg.2)
    have hlines : k.s.telLines g = s.telLines g := (hk.telLines g).trans (s.telLines_lineOf _ 0 g)
    have hrun : runCmd (.telQuery (some g)) (s.lineOf (.telQuery (some g)) 0) = (k, .block (s.telLines g)) := by
      refine (if_neg (Bool.not_eq_true _ ▸ hg.2)).trans ((if_neg hlink).trans ?_)
      rw [hreads, ← hlines]
      rfl
    exact s.answers_query (.telQuery (some g)) ls _ k hs rfl hrun hls hk
  · obtain ⟨k, hrun, hk⟩ := (s.lineOf .timeQuery 0).snapped_ready Clk.timeText (s.lineOf_ready _ hs) rfl
    exact s.answers_query .timeQuery ls _ k hs rfl hrun h hk
  · obtain ⟨k, hrun, hk⟩ := (s.lineOf .stampQuery 0).snapped_ready Clk.stampText (s.lineOf_ready _ hs) rfl
    exact s.answers_query .stampQuery ls _ k hs rfl hrun h hk
  · exact s.answers_registers .localQuery ls _ (fun f => .val (intText f.per.localOfs.toInt)) hs rfl rfl (by decide +kernel)
      (fun _ _ => rfl) h
  · exact s.answers_registers .refQuery ls _ (fun f => .val f.refText) hs rfl rfl (by decide +kernel) (fun _ _ => rfl) h
  · next k =>
    exact s.answers_registers (.refSetQuery (some k)) ls [0x10C0, 0x10C4] (fun f => .val (f.refKeyText k)) hs rfl (if_neg hup)
      (by decide +kernel) (fun _ _ => by cases k <;> rfl) h
  · exact s.answers_registers .rateQuery ls _ (fun f => .val f.rateText) hs rfl rfl (by decide +kernel) (fun _ _ => rfl) h
  · exact s.answers_registers .trimQuery ls _ (fun f => .val (commas [intText (sField f.rate.cfg 0 9), decText (fieldOf f.rate.cfg 9 4)]))
      hs rfl rfl (by decide +kernel) (fun _ _ => rfl) h
  · exact s.answers_registers .rateEnQuery ls _ (fun f => .val (commas [bitText (bitOf f.rate.cfg 13), bitText (bitOf f.rate.cfg 14)]))
      hs rfl rfl (by decide +kernel) (fun _ _ => rfl) h
  · next n =>
    obtain ⟨hn, hmap⟩ := Option.ite_none_left_eq_some.mp h
    obtain ⟨a, ha, hls⟩ := Option.map_eq_some_iff.mp hmap
    obtain ⟨hlt, -⟩ := Vector.getElem?_eq_some_iff.mp ha
    have hrange : ¬ (decide (n < 1) || decide (2 < n)) = true := by simp; omega
    have hplain : ∀ n, n < 3 → (alarmRegs n).all plainReg = true := by decide +kernel
    have htext : alarmAnswer n s.f = .val (a.text n) := by rw [alarmAnswer, ha]
    exact s.answers_registers (.alQuery n) ls (alarmRegs n) (alarmAnswer n) hs rfl ((if_neg hup).trans (if_neg hrange))
      (hplain n (by omega)) (fun _ _ => rfl) (by rw [htext]; exact congrArg some hls)
  · exact s.answers_registers .ponQuery ls _ (fun f => .val f.wake.ponText) hs rfl rfl (by decide +kernel) (fun _ _ => rfl) h
  · next set a =>
    obtain ⟨hrange, hmatch⟩ := Option.ite_none_left_eq_some.mp h
    refine s.answers_registers (.perQuery set a) ls [0x1240, 0x1244] (fun f => f.perText set a) hs rfl
      ((if_neg hup).trans (if_neg hrange)) (by decide +kernel) (fun _ _ => rfl) ?_
    split at hmatch
    · next t ht =>
      rw [ht]
      exact hmatch
    · cases hmatch
  · next i =>
    obtain ⟨hi, hls⟩ := Option.ite_none_right_eq_some.mp h
    have hplain : ∀ i, i ≤ 7 → [0x1400 + 4 * i].all plainReg = true := by decide +kernel
    exact s.answers_registers (.evCfgQuery i) ls [0x1400 + 4 * i] (fun f => .val (evCfgText (f.evCfg i))) hs rfl
      ((if_neg hup).trans (if_neg (Nat.not_lt.mpr hi))) (hplain i hi) (fun _ _ => rfl) hls
  · exact s.answers_registers .jQuery ls _ (fun f => .val f.jText) hs rfl rfl (by decide +kernel) (fun _ _ => rfl) h
  · exact s.answers_registers .sealQuery ls _ (fun f => .val f.sealText) hs rfl rfl (by decide +kernel) (fun _ _ => rfl) h
  · exact s.answers_registers .calQuery ls _ (fun f => .val f.calText) hs rfl rfl (by decide +kernel) (fun _ _ => rfl) h
  · exact s.answers_registers .calSaveQuery ls _
      (fun f => .block (imageLines (calImage f.cal.ws f.uid f.cal.csn (stampSec f.clk.stamp)))) hs rfl rfl (by decide +kernel)
      (fun _ _ => rfl) h
  · exact s.answers_registers .supQuery ls _ (fun f => .val f.supText) hs rfl rfl (by decide +kernel) (fun _ _ => rfl) h
  · cases h

end Sys2Proof.Machine
end

section
/-! The settings of the field side, and `W` of its registers (16_commands.md, R55, R612). -/

namespace Sys2Proof.Machine

/-- A setting whose writes are all accepted waits for the commit. -/
theorem State.sets_waiting (s : State) (i : Instr) (k : Lx) (p : PonH) (w : List PendW) (hs : Linked s)
    (hexec : exec i s = .next (s.textCmd i)) (hrun : runCmd i (s.lineOf i 0) = (k, .ok)) (hk : (s.lineOf i 0).Asks k p w) :
    ∃ t, exec i s = .next t ∧ Exchanged s t (sent { s.h with pon := p } okLines) { s.f with pendW := w } :=
  ⟨_, hexec, s.textCmd_exchanged i okLines .ok k p w hs.1 hrun rfl hk⟩

/-- A setting that writes its registers whole. -/
theorem State.sets_writeAll (s : State) (i : Instr) {ws : List (Nat × Word)} {ps : List PendW} (hs : Linked s)
    (hexec : exec i s = .next (s.textCmd i)) (hrun : runCmd i (s.lineOf i 0) = (s.lineOf i 0).writeAll ws)
    (ha : ∀ e ∈ ws, e.1 ≠ 0x122C) (hps : pendAll ws = some ps) :
    ∃ t, exec i s = .next t ∧ Exchanged s t (sent s.h okLines) { s.f with pendW := s.f.pendW ++ ps } := by
  obtain ⟨k, hwrite, hk, -⟩ := Lx.writeAll_ready ws ps (s.lineOf i 0) (s.lineOf_ready i hs) ha hps
  exact s.sets_waiting i k s.h.pon (s.f.pendW ++ ps) hs hexec (hrun.trans hwrite) hk

theorem pendAll_one {a : Nat} {w : Word} {ps : List PendW} (h : pendAll [(a, w)] = some ps) :
    ∃ v, accepted a w = some v ∧ ps = [PendW.reg a v] := by
  obtain ⟨v, hv, hrest⟩ := Option.bind_eq_some_iff.mp h
  cases hrest
  exact ⟨v, hv, rfl⟩

/-- A setting that writes one register whole. -/
theorem State.sets_writeField (s : State) (i : Instr) (a : Nat) (w : Word) {ws : List (Nat × Word)} {ps : List PendW} (hs : Linked s)
    (hexec : exec i s = .next (s.textCmd i)) (hrun : runCmd i (s.lineOf i 0) = (s.lineOf i 0).writeField a w) (ha : a ≠ 0x122C)
    (hws : some [(a, w)] = some ws) (hps : pendAll ws = some ps) :
    ∃ t, exec i s = .next t ∧ Exchanged s t (sent s.h okLines) { s.f with pendW := s.f.pendW ++ ps } := by
  cases hws
  obtain ⟨v, hv, rfl⟩ := pendAll_one hps
  obtain ⟨k, hwrite, hk, -⟩ := (s.lineOf i 0).writeField_plain a w v (s.lineOf_ready i hs) ha hv
  exact s.sets_waiting i k s.h.pon (s.f.pendW ++ [PendW.reg a v]) hs hexec (hrun.trans hwrite) hk

/-- A setting that sets fields of a register. -/
theorem State.sets_setField (s : State) (i : Instr) (a : Nat) (g : Word → Word) {ws : List (Nat × Word)} {ps : List PendW}
    (hs : Linked s) (hexec : exec i s = .next (s.textCmd i)) (hrun : runCmd i (s.lineOf i 0) = (s.lineOf i 0).setField a g)
    (hplain : plainReg a = true) (ha : a ≠ 0x122C) (hws : some [(a, g (nowAt s a))] = some ws) (hps : pendAll ws = some ps) :
    ∃ t, exec i s = .next t ∧ Exchanged s t (sent s.h okLines) { s.f with pendW := s.f.pendW ++ ps } := by
  cases hws
  obtain ⟨v, hv, rfl⟩ := pendAll_one hps
  obtain ⟨k, hset, hk, -⟩ := (s.lineOf i 0).setField_ready a g v (s.lineOf_ready i hs) hplain hv
  rw [HostSide.copied_other _ _ 0 ha] at hk
  exact s.sets_waiting i k s.h.pon (s.f.pendW ++ [PendW.reg a v]) hs hexec (hrun.trans hset) hk

/-- A setting of the field side waits for the commit: its command's case of the table, with its arguments in range. -/
theorem settingWaits (s : State) (i : Instr) (ws : List (Nat × Word)) (ps : List PendW) (hs : Linked s)
    (h : settingWrites s i = some ws) (hps : pendAll ws = some ps) :
    ∃ t, exec i s = .next t ∧ Exchanged s t (sent s.h okLines) { s.f with pendW := s.f.pendW ++ ps } := by
  have hup : ¬ (!s.h.bar.link) = true := by simp [hs.2.1]
  have hrefcfg : plainReg 0x10C0 = true := by decide +kernel
  have hratecfg : plainReg 0x1100 = true := by decide +kernel
  have hsupcfg : plainReg 0x1680 = true := by decide +kernel
  unfold settingWrites at h
  split at h
  · next v =>
    obtain ⟨hv, hws⟩ := Option.ite_none_right_eq_some.mp h
    exact s.sets_setField (.refSet (some .ppsen) v) 0x10C0 (fun w => withBit w 0 (decide (v = 1))) hs rfl
      ((if_neg hup).trans (if_neg (by omega))) hrefcfg (by decide) hws hps
  · next v =>
    obtain ⟨hv, hws⟩ := Option.ite_none_right_eq_some.mp h
    exact s.sets_setField (.refSet (some .rfen) v) 0x10C0 (fun w => withBit w 1 (decide (v = 1))) hs rfl
      ((if_neg hup).trans (if_neg (by omega))) hrefcfg (by decide) hws hps
  · next v =>
    obtain ⟨hv, hws⟩ := Option.ite_none_right_eq_some.mp h
    exact s.sets_setField (.refSet (some .rank) v) 0x10C0 (fun w => withBit w 2 (decide (v = 1))) hs rfl
      ((if_neg hup).trans (if_neg (by omega))) hrefcfg (by decide) hws hps
  · next v =>
    obtain ⟨hv, hws⟩ := Option.ite_none_right_eq_some.mp h
    exact s.sets_setField (.refSet (some .leap) v) 0x10C0 (fun w => withBit w 3 (decide (v = 1))) hs rfl
      ((if_neg hup).trans (if_neg (by omega))) hrefcfg (by decide) hws hps
  · next v =>
    obtain ⟨hv, hws⟩ := Option.ite_none_right_eq_some.mp h
    exact s.sets_setField (.refSet (some .bw) v) 0x10C0 (fun w => withField w 4 4 v) hs rfl
      ((if_neg hup).trans (if_neg (by omega))) hrefcfg (by decide) hws hps
  · next v =>
    obtain ⟨hv, hws⟩ := Option.ite_none_right_eq_some.mp h
    exact s.sets_setField (.refSet (some .rfint) v) 0x10C0 (fun w => withField w 8 8 v) hs rfl
      ((if_neg hup).trans (if_neg (by omega))) hrefcfg (by decide) hws hps
  · next v =>
    obtain ⟨hv, hws⟩ := Option.ite_none_right_eq_some.mp h
    exact s.sets_writeField (.refSet (some .step) v) 0x10C4 (BitVec.ofNat 32 v) hs rfl
      ((if_neg hup).trans (if_neg (by omega))) (by decide) hws hps
  · next n w =>
    obtain ⟨hv, hws⟩ := Option.ite_none_right_eq_some.mp h
    exact s.sets_setField (.trim n w) 0x1100 (fun x => withField (withField x 0 9 (n % 512).toNat) 9 4 w) hs rfl
      ((if_neg hup).trans (if_neg (by simp; omega))) hratecfg (by decide) hws hps
  · next c e =>
    obtain ⟨hv, hws⟩ := Option.ite_none_right_eq_some.mp h
    exact s.sets_setField (.rateEn c e) 0x1100 (fun x => withField (withField x 13 1 c) 14 1 e) hs rfl
      ((if_neg hup).trans (if_neg (by simp; omega))) hratecfg (by decide) hws hps
  · next ev acts =>
    obtain ⟨hv, hws⟩ := Option.ite_none_left_eq_some.mp h
    exact s.sets_writeField (.perEvt ev acts) 0x1220 (BitVec.ofNat 32 (ev.toNat + acts.toNat * 2 ^ 8)) hs rfl
      ((if_neg hup).trans (if_neg hv)) (by decide) hws hps
  · exact s.sets_setField (.ticker .off) 0x1224 (fun w => withBit w 24 false) hs rfl (if_neg hup) (by decide +kernel) (by decide) h hps
  · next n acts =>
    obtain ⟨⟨hmin, hmax, hacts⟩, hws⟩ := Option.ite_none_right_eq_some.mp h
    have hrange : ¬ (decide (n < 1) || decide (2 ^ 24 < n) || acts.getLsbD 0) = true := by
      rw [hacts]
      simp
      omega
    exact s.sets_writeField (.ticker (.run n acts)) 0x1224 (BitVec.ofNat 32 (n - 1 + 2 ^ 24 + acts.toNat * 2 ^ 25)) hs rfl
      ((if_neg hup).trans (if_neg hrange)) (by decide) hws hps
  · exact s.sets_writeField (.ponRel .ponH) 0x1230 1#32 hs rfl rfl (by decide) h hps
  · exact s.sets_writeField (.ponRel .ponF) 0x1230 2#32 hs rfl rfl (by decide) h hps
  · next n hi lo =>
    obtain ⟨⟨hn, hlo, hle, hhi⟩, hws⟩ := Option.ite_none_right_eq_some.mp h
    cases hws
    exact s.sets_writeAll (.perTh n hi lo) hs rfl ((if_neg hup).trans (if_neg (by simp; omega))) (by simp; omega) hps
  · next n bs =>
    obtain ⟨⟨hne, hlen, hfit⟩, hws⟩ := Option.ite_none_right_eq_some.mp h
    cases hws
    have hpos : 0 < bs.length := List.length_pos_iff.mpr hne
    refine s.sets_writeAll (.keep n bs) hs rfl ((if_neg hup).trans (if_neg (by simp [hne]; omega))) (fun e he => ?_) hps
    obtain ⟨x, -, rfl⟩ := List.mem_map.mp he
    dsimp only
    omega
  · next i edge filt jrn =>
    obtain ⟨hv, hws⟩ := Option.ite_none_right_eq_some.mp h
    exact s.sets_writeField (.evCfg i edge filt jrn) (0x1400 + 4 * i) (BitVec.ofNat 32 (1 + 2 * edge + 8 * filt + 64 * jrn)) hs rfl
      ((if_neg hup).trans (if_neg (by simp; omega))) (by omega) hws hps
  · next i =>
    obtain ⟨hv, hws⟩ := Option.ite_none_right_eq_some.mp h
    have hplain : ∀ i, i ≤ 7 → plainReg (0x1400 + 4 * i) = true := by decide +kernel
    exact s.sets_setField (.evOff i) (0x1400 + 4 * i) (fun w => withBit w 0 false) hs rfl
      ((if_neg hup).trans (if_neg (by omega))) (hplain i hv) (by omega) hws hps
  · next n k =>
    obtain ⟨hv, hws⟩ := Option.ite_none_right_eq_some.mp h
    exact s.sets_setField (.tPlan n (some k)) 0x1500 (fun w => withBit (withField w (8 * n) 5 k) (8 * n + 7) true) hs rfl
      ((if_neg hup).trans (if_neg (by simp; omega))) (by decide +kernel) (by decide) hws hps
  · next n =>
    obtain ⟨hv, hws⟩ := Option.ite_none_right_eq_some.mp h
    exact s.sets_setField (.tPlan n none) 0x1500 (fun w => withBit w (8 * n + 7) false) hs rfl
      ((if_neg hup).trans (if_neg (by simp; omega))) (by decide +kernel) (by decide) hws hps
  · next n v =>
    obtain ⟨hv, hws⟩ := Option.ite_none_right_eq_some.mp h
    exact s.sets_writeField (.tOfs n v) (0x1520 + 4 * n) ((BitVec.ofInt 16 (roundDiv (v * 1024) 1000)).setWidth 32) hs rfl
      ((if_neg hup).trans (if_neg (by simp; omega))) (by omega) hws hps
  · next n m =>
    obtain ⟨hv, hws⟩ := Option.ite_none_right_eq_some.mp h
    exact s.sets_writeField (.tLead n m) (0x1530 + 4 * n) (BitVec.ofNat 32 m) hs rfl
      ((if_neg hup).trans (if_neg (by simp; omega))) (by omega) hws hps
  · next wrap => exact s.sets_writeField (.jPolicy wrap) 0x1600 (BitVec.ofNat 32 wrap.toNat) hs rfl rfl (by decide) h hps
  · next v =>
    obtain ⟨hv, hws⟩ := Option.ite_none_right_eq_some.mp h
    exact s.sets_setField (.supVsw v) 0x1680 (fun w => withField w 0 4 (v - 24)) hs rfl
      ((if_neg hup).trans (if_neg (by simp; omega))) hsupcfg (by decide) hws hps
  · next v =>
    obtain ⟨hv, hws⟩ := Option.ite_none_right_eq_some.mp h
    exact s.sets_setField (.supBatlow v) 0x1680 (fun w => withField w 4 4 (v - 22)) hs rfl
      ((if_neg hup).trans (if_neg (by simp; omega))) hsupcfg (by decide) hws hps
  · exact s.sets_setField (.batPlan .on) 0x1680 (fun w => withBit w 12 true) hs rfl (if_neg hup) hsupcfg (by decide) h hps
  · exact s.sets_setField (.batPlan .off) 0x1680 (fun w => withBit w 12 false) hs rfl (if_neg hup) hsupcfg (by decide) h hps
  · next m p =>
    obtain ⟨hv, hws⟩ := Option.ite_none_right_eq_some.mp h
    exact s.sets_setField (.batPlan (.plan m p)) 0x1680 (fun w => withBit (withField (withField w 8 4 m) 16 16 p) 12 true) hs rfl
      ((if_neg hup).trans (if_neg (by simp; omega))) hsupcfg (by decide) hws hps
  · cases h

/-! ### `PON` (R329, R330, R729) -/

/-- The fields of `PON_CFG` that `PON` sets. -/
def ponFields (o : WakeOut) (pulse : Bool) (len : Option Nat) (high : Option Bool) (w : Word) : Word :=
  let at' := if o = .ponH then 0 else 16
  let w := withBit w at' pulse
  let w := match len with | some n => withField w (at' + 8) 8 n | none => w
  match high with | some b => withBit w 1 b | none => w

/-- A `PON` in range sets its fields. -/
theorem cmdPon_setField (s : State) (l : Lx) (o : WakeOut) (pulse : Bool) (len : Option Nat) (high : Option Bool) (w : Word)
    (hl : l.s.h.bar.link = true) (hw : ponWord s o pulse len high = some w) :
    cmdPon o pulse len high l = l.setField 0x122C (ponFields o pulse len high) ∧ w = ponFields o pulse len high (nowAt s 0x122C) := by
  have hup : ¬ (!l.s.h.bar.link) = true := by simp [hl]
  have hok (bad : Bool) (hbad : bad = false) : (if (!l.s.h.bar.link) = true then l.fail 60
      else if bad = true then l.fail 20 else l.setField 0x122C (ponFields o pulse len high)) =
      l.setField 0x122C (ponFields o pulse len high) := by
    rw [if_neg hup, hbad, if_neg Bool.false_ne_true]
  cases o with
  | ponH =>
    cases len with
    | none => exact ⟨hok _ rfl, (Option.some.inj hw).symm⟩
    | some n =>
      obtain ⟨hn, hws⟩ := Option.ite_none_right_eq_some.mp hw
      have hn := of_decide_eq_true hn
      exact ⟨hok _ (by simp; omega), (Option.some.inj hws).symm⟩
  | ponF =>
    cases high with
    | some b => cases hw
    | none =>
      cases len with
      | none => exact ⟨hok _ rfl, (Option.some.inj hw).symm⟩
      | some n =>
        obtain ⟨hn, hws⟩ := Option.ite_none_right_eq_some.mp hw
        exact ⟨hok _ (by simp; omega), (Option.some.inj hws).symm⟩

theorem ponWaits (s : State) (o : WakeOut) (pulse : Bool) (len : Option Nat) (high : Option Bool) (w v : Word) (hs : Linked s)
    (hw : ponWord s o pulse len high = some w) (hv : accepted 0x122C w = some v) :
    ∃ t, exec (.pon o pulse len high) s = .next t ∧
      Exchanged s t (sent (s.h.ponHeld v) okLines) { s.f with pendW := s.f.pendW ++ [.reg 0x122C v] } := by
  obtain ⟨hrun, rfl⟩ := cmdPon_setField s (s.lineOf (.pon o pulse len high) 0) o pulse len high w hs.2.1 hw
  obtain ⟨k, hset, hk, -⟩ := (s.lineOf (.pon o pulse len high) 0).setField_ready 0x122C (ponFields o pulse len high) v
    (s.lineOf_ready _ hs) (by decide +kernel) hv
  obtain ⟨r, hr, rfl, -⟩ := exists_rule_of_accepted hv
  cases hr
  exact s.sets_waiting (.pon o pulse len high) k _ _ hs rfl (hrun.trans hset) hk

/-! ### `W` of a field register (R612) -/

/-- A register that takes writes on its own applies no pair group. -/
theorem bitGroup_of_accepted {a : Nat} {w v : Word} (h : accepted a w = some v) : bitGroup a w = none := by
  obtain ⟨r, hr, -, -⟩ := exists_rule_of_accepted h
  have hp : (rwRule a).isSome = true := by rw [hr]; rfl
  have hne (b : Nat) (hn : (rwRule b).isSome = false) : a ≠ b := ne_of_holds (p := fun a => (rwRule a).isSome) hp hn
  have hidx (base n : Nat) (hn : ((List.range n).all fun i => !(rwRule (base + 4 * i)).isSome) = true) : regIdx base n a = none :=
    regIdx_eq_none (p := fun a => (rwRule a).isSome) hp hn
  simp (disch := decide +kernel) only [bitGroup, hne, hidx, if_false, Option.map_none, ite_self]

/-- `W` of a field register that accepts the value is its `REGWR`. -/
theorem cmdW_accepted (l : Lx) (a : BitVec 16) (w v : Word) (ha : 0x1000 ≤ a.toNat) (hv : accepted a.toNat w = some v) :
    cmdW a w l = l.writeField a.toNat w := by
  obtain ⟨r, hr, -, -⟩ := exists_rule_of_accepted hv
  have hmap : l.s.mapped a.toNat = true := by
    rw [State.mapped, if_pos ha, Field.regValue_isSome]
    exact fieldMapped_of_rwRule hr
  simp only [cmdW, if_pos ha, hmap, bitGroup_of_accepted hv, Bool.not_true, Bool.false_eq_true, if_false]

theorem registerWriteWaits (s : State) (a : BitVec 16) (w v : Word) (hs : Linked s) (ha : 0x1000 ≤ a.toNat) (hne : a.toNat ≠ 0x122C)
    (hv : accepted a.toNat w = some v) : ∃ t, exec (.registerWrite a w) s = .next t ∧
      Exchanged s t (sent s.h okLines) { s.f with pendW := s.f.pendW ++ [.reg a.toNat v] } :=
  s.sets_writeField (.registerWrite a w) a.toNat w hs rfl (cmdW_accepted _ a w v ha hv) hne rfl
    (by rw [pendAll, hv]; rfl)

/-! ### `W` on busy lanes (R108, R111) -/

/-- A transaction of the host stream does not look at the lines. -/
theorem HostSide.send_line (h : HostSide) (x : LineSt) (ty : MsgType) (ws : List Word) (cmd : Option FieldCmd) :
    HostSide.send { h with line := x } ty ws cmd = { h.send ty ws cmd with line := x } := by
  unfold HostSide.send HostSide.pump
  dsimp only
  split
  · rfl
  · split
    · rfl
    · unfold HostSide.launch
      dsimp only
      split <;> rfl

/-- A transaction of the host stream leaves the lines. -/
theorem HostSide.send_keeps_line (h : HostSide) (ty : MsgType) (ws : List Word) (cmd : Option FieldCmd) :
    (h.send ty ws cmd).line = h.line := by
  have hsame : h.send ty ws cmd = { h.send ty ws cmd with line := h.line } := h.send_line h.line ty ws cmd
  rw [hsame]

/-- A line whose one access has to be sent waits for its answer. -/
theorem State.textCmd_asks (s : State) (i : Instr) (x : Acc) (hs : HostIdle s) (hrun : runCmd i (s.lineOf i 0) = (s.lineOf i 0, .ask x)) :
    OnlyHost s (s.textCmd i) ((s.h.ran.send x.type (x.words 0) none).lineAsks i x) := by
  have hcmd : Lx.command ⟨(s.lineOf i 0).s, { (ownLine i).cur 0 with rest := [], k := ((ownLine i).cur 0).k + 1 }⟩ (.cmd i) =
      (s.lineOf i 0, .ask x) := hrun
  have hrest : Lx.runRest [.cmd i] ⟨(s.lineOf i 0).s, (ownLine i).cur 0⟩ =
      Lx.hold ⟨(s.lineOf i 0).s, { lineCur 0 with rest := [.cmd i], k := 0 }⟩ x := by
    rw [Lx.runRest, hcmd]
    rfl
  have hh : (s.lineOf i 0).s.h = { s.h.ran with line := { s.h.line with cur := some ((ownLine i).cur 0) } } := by
    rw [s.lineOf_s i 0]
    rfl
  have hline : s.h.ran.line = s.h.line := rfl
  rw [s.textCmd_idle i hs, s.startLine_own i 0, ← s.lineOf_s i 0, hrest]
  refine ⟨?_, rfl, rfl⟩
  simp only [Lx.hold, Lx.settle, Option.isSome_some, if_true, State.host, hh, HostSide.send_line, HostSide.lineAsks,
    HostSide.send_keeps_line, hline]
  rfl

theorem registerWriteAsks (s : State) (a : BitVec 16) (w v : Word) (hs : HostIdle s) (hlink : s.h.bar.link = true)
    (hquiet : s.quiet = false) (ha : 0x1000 ≤ a.toNat) (hv : accepted a.toNat w = some v) :
    ∃ t, exec (.registerWrite a w) s = .next t ∧
      OnlyHost s t ((s.h.ran.send .regwr [regWord 0 a.toNat, w] none).lineAsks (.registerWrite a w) (.write a.toNat w)) := by
  have hbusy : (s.lineOf (.registerWrite a w) 0).access (.write a.toNat w) = (s.lineOf (.registerWrite a w) 0, none) := by
    have hl : ¬ (!s.h.bar.link) = true := by simp [hlink]
    have hq : ¬ s.quiet = true := by simp [hquiet]
    exact (if_neg hl).trans (if_neg hq)
  refine ⟨_, rfl, s.textCmd_asks (.registerWrite a w) (.write a.toNat w) hs ((cmdW_accepted _ a w v ha hv).trans ?_)⟩
  rw [Lx.writeField, Lx.send, hbusy]

/-- Settles O4: a setting is `settingWaits`, `PON` is `ponWaits`, `W` is `registerWriteWaits`, and `registerWriteAsks` on busy lanes. -/
theorem fieldSettingsWait : Obligations.FieldSettingsWait :=
  ⟨settingWaits, ponWaits, registerWriteWaits, registerWriteAsks⟩

end Sys2Proof.Machine
end

section
/-! Time at a frame boundary (02_frame.md section 2, R32, R195): what the operations of housekeeping leave of time. -/

namespace Sys2Proof.Machine

/-! ### What time is made of -/

/-- The time that a frame boundary moves: stamp, phase, ticks and frame number, and whether item 1 has been done. -/
def Clk.time (c : Clk) : Stamp × Word × Nat × Nat × Bool := (c.stamp, c.phase, c.ticks, c.fno, c.item1)

/-- From `f` to `g` time stands, with hold-up, the writes that wait and the marks of the frame. -/
def Field.KeepsTime (f g : Field) : Prop :=
  g.clk.time = f.clk.time ∧ g.start.holdUp = f.start.holdUp ∧ g.pendW = f.pendW ∧ g.refs.marksNow = f.refs.marksNow

theorem Field.KeepsTime.refl (f : Field) : f.KeepsTime f := ⟨rfl, rfl, rfl, rfl⟩

theorem Field.KeepsTime.trans {f g k : Field} (a : f.KeepsTime g) (b : g.KeepsTime k) : f.KeepsTime k := by
  obtain ⟨hclk, hhold, hpend, hmarks⟩ := a
  obtain ⟨kclk, khold, kpend, kmarks⟩ := b
  exact ⟨kclk.trans hclk, khold.trans hhold, kpend.trans hpend, kmarks.trans hmarks⟩

/-- A last operation, from `g` to `k`, in which time stands may be left out. -/
theorem Field.KeepsTime.iff {f g k : Field} (b : g.KeepsTime k) : f.KeepsTime k ↔ f.KeepsTime g := by
  obtain ⟨hclk, hhold, hpend, hmarks⟩ := b
  simp only [Field.KeepsTime, hclk, hhold, hpend, hmarks]

/-- A fold of updates in which time stands. -/
theorem Field.KeepsTime.foldl {α : Type} {u : Field → α → Field} (hu : ∀ f a, Field.KeepsTime f (u f a)) (l : List α) (f : Field) :
    f.KeepsTime (l.foldl u f) := by
  induction l generalizing f with
  | nil => exact .refl f
  | cons a l ih => exact (hu f a).trans (ih _)

theorem Field.keepsTime_ite {f g k : Field} {p : Prop} [Decidable p] :
    f.KeepsTime (if p then g else k) ↔ if p then f.KeepsTime g else f.KeepsTime k := by
  split <;> rfl

section
variable (f g : Field) (fuse : Fuse) (clk : Clk) (tset : Tset) (start : Start) (sup : Sup) (stat : Stat) (sched : Sched) (bar : FBar)
  (refs : Refs) (rate : Rate) (al : Vector Alarm 2) (wake : Wake) (keep : Keep) (per : Per) (ev : Ev) (temp : Temp) (jrn : Jrn)
  (cal : Cal) (tst : Tst) (ovl : Ovl) (jobEv : List JobEv) (freeCtr : Nat)

/-- An update of `g` that reaches nothing of its time may be left out. -/
theorem Field.keepsTime_mk (hclk : clk.time = g.clk.time) (hstart : start.holdUp = g.start.holdUp)
    (hrefs : refs.marksNow = g.refs.marksNow) :
    f.KeepsTime ⟨fuse, clk, tset, start, sup, stat, sched, bar, refs, rate, al, wake, keep, per, ev, temp, jrn, cal, tst, ovl, g.pendW,
      jobEv, freeCtr⟩ ↔ f.KeepsTime g := by
  simp only [Field.KeepsTime, hclk, hstart, hrefs]

end

/-! ### Records, status bits, requests, messages -/

theorem Field.stageRec_time (f : Field) (a : Slot) (m : List Slot) : f.KeepsTime (f.stageRec a m) := by
  simp only [Field.stageRec, keepsTime_ite, keepsTime_mk, KeepsTime.refl, ite_self]

theorem Field.stage_time (f : Field) (a : Slot) : f.KeepsTime (f.stage a) := f.stageRec_time a []

theorem Field.setBit_time (f : Field) (i : Nat) : f.KeepsTime (f.setBit i) := ⟨rfl, rfl, rfl, rfl⟩

theorem Field.clrBit_time (f : Field) (i : Nat) : f.KeepsTime (f.clrBit i) := ⟨rfl, rfl, rfl, rfl⟩

theorem Field.request_time (f : Field) (p n : Nat) (k : ReqKind) : f.KeepsTime (f.request p n k) := ⟨rfl, rfl, rfl, rfl⟩

theorem Field.send_time (f : Field) (ty : MsgType) (ws : List Word) : f.KeepsTime (f.send ty ws) := by
  simp only [Field.send, keepsTime_ite, keepsTime_mk, KeepsTime.refl, ite_self]

theorem Field.sendWake_time (f : Field) (w : Word) (a : Option Firing) : f.KeepsTime (f.sendWake w a) := by
  simp only [Field.sendWake, keepsTime_ite, (send_time _ _ _).iff, keepsTime_mk, KeepsTime.refl, ite_self]

theorem Field.bootRec_time (f : Field) (c : Nat) (st : Stamp) : f.KeepsTime (f.bootRec c st) := f.stage_time _

theorem Field.finishSets_time (f : Field) : f.KeepsTime f.finishSets := by
  simp only [Field.finishSets, (KeepsTime.foldl (fun f (s : SetRec) => f.stage_time s.record) _ _).iff, keepsTime_mk, KeepsTime.refl]

/-! ### Epoch and references (06_calendar.md, 07_references.md) -/

theorem Field.newEpoch_time (f : Field) (e : BitVec 54) (c : Nat) : f.KeepsTime (f.newEpoch e c) := by
  simp only [Field.newEpoch, (stage_time _ _).iff, (setBit_time _ _).iff, (clrBit_time _ _).iff]
  exact ⟨rfl, rfl, rfl, (apply_ite Refs.marksNow _ _ _).trans (ite_self _)⟩

theorem Field.step_time (f : Field) (o : Rat) (forced leap : Bool) : f.KeepsTime (f.step o forced leap).1 := by
  simp only [Field.step, apply_ite Prod.fst, keepsTime_ite, keepsTime_mk, (newEpoch_time _ _ _).iff, ite_self, KeepsTime.refl]

theorem Field.applyOffset_time (f : Field) (o : Rat) (leap : Bool) : f.KeepsTime (f.applyOffset o leap).1 := by
  simp only [Field.applyOffset, apply_ite Prod.fst, keepsTime_ite, keepsTime_mk, (step_time _ _ _ _).iff, ite_self, KeepsTime.refl]

theorem Field.refChange_time (f : Field) (c : Nat) (l t : Tref) (a : Nat) (d : Rat) (st : Stamp) :
    f.KeepsTime (f.refChange c l t a d st) := f.stage_time _

theorem Refs.put_marksNow (r : Refs) (s : RefSrc) (x : Ref) : (r.put s x).marksNow = r.marksNow := by
  cases s <;> rfl

theorem Field.adopt_time (f : Field) (run : RefRun) : f.KeepsTime (f.adopt run) := by
  refine Field.KeepsTime.trans ?_ (refChange_time ..)
  have hoffset := f.applyOffset_time (lineAt run.first run.last f.clk.stamp.toNat)
    (leapRun run (lineAt run.first run.last f.clk.stamp.toNat))
  obtain ⟨g, hg⟩ : ∃ g, (f.applyOffset (lineAt run.first run.last f.clk.stamp.toNat)
    (leapRun run (lineAt run.first run.last f.clk.stamp.toNat))).1 = g := ⟨_, rfl⟩
  rw [hg] at hoffset ⊢
  split
  · exact hoffset
  · exact hoffset.trans ⟨rfl, rfl, rfl, Refs.put_marksNow g.refs ..⟩

theorem Field.applyAdopts_time (f : Field) (tset : Bool) : f.KeepsTime (f.applyAdopts tset) := by
  have hone (f : Field) (r : RefRun) : f.KeepsTime (
      let o := lineAt r.first r.last f.clk.stamp.toNat
      if tset && !f.refs.slews o (leapRun r o) && stepMoves o then f else f.adopt r) := by
    simp only [keepsTime_ite, KeepsTime.refl, adopt_time, ite_self]
  simp only [Field.applyAdopts, (KeepsTime.foldl hone _ _).iff, keepsTime_mk, KeepsTime.refl]

theorem Field.toHold_time (f : Field) : f.KeepsTime f.toHold := ⟨rfl, rfl, rfl, rfl⟩

theorem Field.select_time (f : Field) (t : Tref) (c : Nat) : f.KeepsTime (f.select t c) := by
  simp only [Field.select]
  split
  · simp only [keepsTime_ite, (refChange_time _ _ _ _ _ _ _).iff, toHold_time, KeepsTime.refl, ite_self]
  · simp only [keepsTime_ite, (refChange_time _ _ _ _ _ _ _).iff, (step_time _ _ _ _).iff, (clrBit_time _ _).iff, keepsTime_mk,
      KeepsTime.refl, ite_self]

/-- A planned selection at a boundary. -/
theorem Field.applySelects_time (f : Field) : f.KeepsTime f.applySelects := by
  have hone (f : Field) (p : Planned) : f.KeepsTime (match p with
      | .select t c => if t = f.refs.tref then f else f.select t c
      | _ => f) := by
    cases p with
    | select t c => simp only [keepsTime_ite, KeepsTime.refl, select_time, ite_self]
    | adopt r => exact .refl f
  have hall := KeepsTime.foldl hone f.refs.planned { f with refs := { f.refs with planned := [] } }
  exact (KeepsTime.trans ⟨rfl, rfl, rfl, rfl⟩ hall)

theorem Field.handoverEnd_time (f : Field) (tset : Bool) : f.KeepsTime (f.handoverEnd tset) := by
  unfold Field.handoverEnd
  split
  · exact .refl f
  · simp only [keepsTime_ite, keepsTime_mk, (step_time _ _ _ _).iff, KeepsTime.refl, ite_self]

theorem Field.refConfig_time (f : Field) : f.KeepsTime f.refConfig := by
  have hoff (s : RefSrc) (r : Refs) :
      (if r.enabled s then r else r.put s { (r.get s) with st := .idle, run := none, misses := 0 }).marksNow = r.marksNow := by
    simp only [apply_ite Refs.marksNow, Refs.put_marksNow, ite_self]
  unfold Field.refConfig
  extract_lets off r g best
  have hr : r.marksNow = f.refs.marksNow := (hoff .pps _).trans (hoff .rf _)
  split
  · exact ⟨rfl, rfl, rfl, hr⟩
  · rw [(select_time _ _ _).iff]
    refine ⟨rfl, rfl, rfl, ?_⟩
    change Refs.marksNow (match srcOf r.tref with | some s => r.put s ((r.get s).disqualify g.clk.fno false) | none => r) = _
    split
    · exact (Refs.put_marksNow ..).trans hr
    · exact hr

end Sys2Proof.Machine
end

section
/-! Time at a frame boundary: what calibration, rate, supply and the commit of writes leave of time (R55, R459, R461). -/

namespace Sys2Proof.Machine

/-! ### Calibration (13_calibration.md) -/

theorem Field.calEnded_time (f : Field) (item : CalItem) (lane : Nat) : f.KeepsTime (f.calEnded item lane) := ⟨rfl, rfl, rfl, rfl⟩

theorem Field.tell_time (f : Field) (e : JobEv) : f.KeepsTime (f.tell e) := ⟨rfl, rfl, rfl, rfl⟩

theorem Field.recomp_time (f : Field) : f.KeepsTime f.recomp := ⟨rfl, rfl, rfl, rfl⟩

theorem Field.calReject_time (f : Field) (item : CalItem) (lane : Nat) (v : Verdict) : f.KeepsTime (f.calReject item lane v) := by
  simp only [Field.calReject, (tell_time _ _).iff, (calEnded_time _ _ _).iff, (stage_time _ _).iff, keepsTime_ite, (setBit_time _ _).iff,
    keepsTime_mk, KeepsTime.refl, ite_self]

theorem Field.calApplied_time (f : Field) (item : CalItem) (lane : Nat) (v : Verdict) (record : Bool) (new old : Int) :
    f.KeepsTime (f.calApplied item lane v record new old) := by
  simp only [Field.calApplied, (tell_time _ _).iff, (calEnded_time _ _ _).iff, (stage_time _ _).iff, keepsTime_ite, keepsTime_mk,
    KeepsTime.refl, ite_self]

theorem Field.applyTdc_time (f : Field) (lane : Nat) (v : Verdict) (a b : CalMeas) : f.KeepsTime (f.applyTdc lane v a b) := by
  simp only [Field.applyTdc, (calApplied_time _ _ _ _ _ _ _).iff, keepsTime_mk, KeepsTime.refl]

theorem Field.applyXl_time (f : Field) (v : Verdict) (a b : CalMeas) : f.KeepsTime (f.applyXl v a b) := by
  simp only [Field.applyXl, (calApplied_time _ _ _ _ _ _ _).iff, keepsTime_mk, keepsTime_ite, (recomp_time _).iff, (stage_time _ _).iff,
    KeepsTime.refl, ite_self]

theorem Field.applyBar_time (f : Field) (v : Verdict) (a b : CalMeas) : f.KeepsTime (f.applyBar v a b) := by
  simp only [Field.applyBar, (calApplied_time _ _ _ _ _ _ _).iff, keepsTime_mk, KeepsTime.refl]

theorem Field.applyAdc_time (f : Field) (v : Verdict) (r0 r1 s0 s1 : AdcRun) : f.KeepsTime (f.applyAdc v r0 r1 s0 s1) := by
  simp only [Field.applyAdc, (calApplied_time _ _ _ _ _ _ _).iff, keepsTime_mk, KeepsTime.refl]

theorem Field.calDrop_time (f : Field) (item : CalItem) (lane : Nat) : f.KeepsTime (f.calDrop item lane) := ⟨rfl, rfl, rfl, rfl⟩

/-- A calibration that is under way, and that `drops` names, is dropped. -/
theorem Field.calAbandon_time (f : Field) (p : CalItem → Nat → Bool) : f.KeepsTime (f.calAbandon p) := by
  have hact : f.KeepsTime (match f.cal.act with
      | some a => if p a.item a.lane && a.res2.isNone then f.calDrop a.item a.lane else f
      | none => f) := by
    split
    · simp only [keepsTime_ite, calDrop_time, KeepsTime.refl, ite_self]
    · exact .refl f
  unfold Field.calAbandon
  extract_lets g
  change f.KeepsTime g at hact
  split
  · simp only [keepsTime_ite, (calDrop_time _ _ _).iff, hact, ite_self]
  · exact hact

theorem Field.yieldCal_time (f : Field) : f.KeepsTime f.yieldCal := by
  unfold Field.yieldCal
  extract_lets hit g
  have hact : f.KeepsTime g := by
    unfold g
    split
    · simp only [keepsTime_ite, calDrop_time, KeepsTime.refl, ite_self]
    · exact .refl f
  split
  · simp only [keepsTime_ite, (calDrop_time _ _ _).iff, hact, ite_self]
  · exact hact

/-- At a boundary the verdicts that are reached take effect. -/
theorem Field.calBoundary_time (f : Field) : f.KeepsTime f.calBoundary := by
  unfold Field.calBoundary
  extract_lets _ f1 _ g1 f2 _ g2
  have hlane : f.KeepsTime f2 := by
    have hfree : f.KeepsTime g1 := ⟨rfl, rfl, rfl, rfl⟩
    unfold f2
    split
    · dsimp only
      split
      · exact hfree.trans (calReject_time ..)
      · split
        · exact hfree.trans (applyTdc_time ..)
        · exact hfree.trans (applyXl_time ..)
        · exact hfree.trans (applyBar_time ..)
    · exact ⟨rfl, rfl, rfl, rfl⟩
  have hfree : f.KeepsTime g2 := hlane
  split
  · simp only [keepsTime_ite, keepsTime_mk, (applyAdc_time _ _ _ _ _ _).iff, (calReject_time _ _ _ _).iff, hfree, hlane, ite_self]
  · simp only [keepsTime_ite, keepsTime_mk, hlane, ite_self]
  · exact hlane

theorem Field.calDueInit_time (f : Field) : f.KeepsTime f.calDueInit := by
  simp only [Field.calDueInit, keepsTime_ite, keepsTime_mk, KeepsTime.refl, ite_self]

theorem Field.commitImage_time (f : Field) (img : List Byte) : f.KeepsTime (f.commitImage img) := by
  simp only [Field.commitImage, (recomp_time _).iff, (stage_time _ _).iff, keepsTime_mk, calAbandon_time]

/-! ### The commit of writes (R55) -/

theorem Field.regRec_time (f : Field) (a : Nat) (old new : Word) : f.KeepsTime (f.regRec a old new) := f.stage_time _

theorem Field.wsCommit_time (f : Field) (a : Nat) (old new : Word) (ws : WSet) (item : CalItem) (lane : Nat) :
    f.KeepsTime (f.wsCommit a old new ws item lane) := by
  simp only [Field.wsCommit, (regRec_time _ _ _ _).iff, (calAbandon_time _ _).iff, keepsTime_mk, KeepsTime.refl]

theorem Field.rateInput_time (f : Field) : f.KeepsTime f.rateInput := ⟨rfl, rfl, rfl, rfl⟩

theorem Field.commitRate_time (f : Field) (a : Nat) (w : Word) : f.KeepsTime (f.commitRate a w) := by
  cases hltab : regIdx 0x1140 33 a <;>
    simp only [Field.commitRate, hltab, keepsTime_ite, (regRec_time _ _ _ _).iff, (wsCommit_time _ _ _ _ _ _ _).iff,
      (rateInput_time _).iff, keepsTime_mk, KeepsTime.refl, ite_self]

theorem Field.commitCal_time (f : Field) (a : Nat) (w : Word) : f.KeepsTime (f.commitCal a w) := by
  cases hadc : regIdx 0x1740 8 a <;> cases hinl : regIdx 0x1800 64 a <;>
    simp only [Field.commitCal, hadc, hinl, keepsTime_ite, wsCommit_time, keepsTime_mk, KeepsTime.refl, ite_self]

theorem Field.commitTemp_time (f : Field) (a : Nat) (w : Word) : f.KeepsTime (f.commitTemp a w) := by
  cases hofs : regIdx 0x1520 4 a <;> cases hlead : regIdx 0x1530 4 a <;> cases hsh : regIdx 0x1560 12 a <;>
    simp only [Field.commitTemp, hofs, hlead, hsh, keepsTime_ite, (regRec_time _ _ _ _).iff, keepsTime_mk, KeepsTime.refl, ite_self]

theorem Field.releaseH_time (f : Field) : f.KeepsTime f.releaseH := by
  simp only [Field.releaseH, keepsTime_ite, (sendWake_time _ _ _).iff, keepsTime_mk, KeepsTime.refl, ite_self]

theorem Field.releaseF_time (f : Field) : f.KeepsTime f.releaseF := ⟨rfl, rfl, rfl, rfl⟩

theorem Field.ponRelease_time (f : Field) (w : Word) : f.KeepsTime (f.ponRelease w) := by
  simp only [Field.ponRelease, keepsTime_ite, (releaseH_time _).iff, (releaseF_time _).iff, KeepsTime.refl, ite_self]

theorem Field.commitWake_time (f : Field) (a : Nat) (w : Word) : f.KeepsTime (f.commitWake a w) := by
  cases hhi : regIdx 0x1250 4 a <;> cases hlo : regIdx 0x1260 4 a <;> cases hkeep : regIdx 0x1300 64 a <;>
    simp only [Field.commitWake, hhi, hlo, hkeep, keepsTime_ite, keepsTime_mk, ponRelease_time, (regRec_time _ _ _ _).iff,
      KeepsTime.refl, ite_self]

theorem Field.openGap_time (f : Field) (c : Nat) (st : Stamp) : f.KeepsTime (f.openGap c st) := ⟨rfl, rfl, rfl, rfl⟩

theorem Field.closeGap_time (f : Field) (st : Stamp) : f.KeepsTime (f.closeGap st) := by
  unfold Field.closeGap
  split
  · exact .refl f
  · simp only [(stage_time _ _).iff, keepsTime_mk, KeepsTime.refl]

theorem Field.supCommit_time (f : Field) (w : Word) : f.KeepsTime (f.supCommit w) := by
  simp only [Field.supCommit, keepsTime_ite, (closeGap_time _ _).iff, (openGap_time _ _ _).iff, keepsTime_mk, KeepsTime.refl, ite_self]

theorem Field.domClr_time (f : Field) (i : Nat) : f.KeepsTime (f.domClr i) := ⟨rfl, rfl, rfl, rfl⟩

theorem Field.commitRest_time (f : Field) (a : Nat) (w : Word) : f.KeepsTime (f.commitRest a w) := by
  have hwrap (b : Bool) : Clk.time { f.clk with calWrap := b } = f.clk.time := rfl
  cases hev : regIdx 0x1400 8 a <;> cases hdom : regIdx 0x1A00 92 a <;>
    simp only [Field.commitRest, hev, hdom, keepsTime_ite, keepsTime_mk, hwrap, supCommit_time, domClr_time, KeepsTime.refl, ite_self]

theorem Field.commitReg_time (f : Field) (a : Nat) (w : Word) : f.KeepsTime (f.commitReg a w) := by
  simp only [Field.commitReg, keepsTime_ite, (refConfig_time _).iff, keepsTime_mk, commitRate_time, commitWake_time, commitTemp_time,
    commitCal_time, commitRest_time, KeepsTime.refl, ite_self]

theorem Field.evovfCleared_time (f : Field) : f.KeepsTime f.evovfCleared := by
  simp only [Field.evovfCleared, (stage_time _ _).iff, keepsTime_mk, KeepsTime.refl]

theorem Field.clrStatus_time (f : Field) (m : Word) : f.KeepsTime (f.clrStatus m) := by
  simp only [Field.clrStatus, keepsTime_ite, (evovfCleared_time _).iff, keepsTime_mk, KeepsTime.refl, ite_self]

theorem Field.prbCommit_time (f : Field) (n : Nat) (w : Word) : f.KeepsTime (f.prbCommit n w) := by
  simp only [Field.prbCommit, (finishSets_time _).iff, (stage_time _ _).iff, keepsTime_mk, KeepsTime.refl]

/-- A write that commits leaves time as it is, case by case of the kinds of write. -/
theorem Field.commitOne_time (f : Field) (p : PendW) : f.KeepsTime (f.commitOne p) := by
  cases p with
  | reg a w => exact f.commitReg_time a w
  | stClr m => exact f.clrStatus_time m
  | alarm n t d c =>
    unfold Field.commitOne
    dsimp only
    split <;> exact ⟨rfl, rfl, rfl, rfl⟩
  | perb l c => exact ⟨rfl, rfl, rfl, rfl⟩
  | prb n c => exact f.prbCommit_time n c
  | tset b => exact f.newEpoch_time ..
  | calImage img => exact f.commitImage_time img

/-- All the writes commit: none waits any longer. -/
theorem Field.commitAll_time (f : Field) : Field.KeepsTime { f with pendW := [] } f.commitAll :=
  .foldl commitOne_time f.pendW { f with pendW := [] }

end Sys2Proof.Machine
end

section
/-! Time at a frame boundary: the items of housekeeping, and the boundary (02_frame.md section 2, R32, R193 to R195). -/

namespace Sys2Proof.Machine

/-! ### Item 1 -/

theorem Field.releaseHeld_time (f : Field) (n : Nat) : f.KeepsTime (f.releaseHeld n) := by
  unfold Field.releaseHeld
  split
  · exact .refl f
  · split
    · exact .refl f
    · simp only [(request_time _ _ _ _).iff, keepsTime_mk, KeepsTime.refl]

theorem Field.startCount_time (f : Field) : f.KeepsTime f.startCount := by
  simp only [Field.startCount, keepsTime_ite, (finishSets_time _).iff, (releaseHeld_time _ _).iff, keepsTime_mk, KeepsTime.refl, ite_self]

theorem Field.wrapCheck_time (f : Field) (old : Int) : f.KeepsTime (f.wrapCheck old) := by
  have hwrap (b : Bool) (e : Byte) : Clk.time { f.clk with calWrap := b, ecause := e } = f.clk.time := rfl
  simp only [Field.wrapCheck, keepsTime_ite, (stage_time _ _).iff, keepsTime_mk, hwrap, KeepsTime.refl, ite_self]

theorem Field.newRate_time (f : Field) : f.KeepsTime f.newRate := ⟨rfl, rfl, rfl, rfl⟩

/-- The commit where time has stood since `f`. -/
theorem Field.KeepsTime.commitAll {f g : Field} (h : f.KeepsTime g) : Field.KeepsTime { f with pendW := [] } g.commitAll := by
  obtain ⟨hclk, hhold, -, hmarks⟩ := h
  have hdone : Field.KeepsTime { f with pendW := [] } { g with pendW := [] } := ⟨hclk, hhold, rfl, hmarks⟩
  exact hdone.trans g.commitAll_time

/-- Where time has stood since `f` but that its writes have committed, no write waits. -/
theorem Field.KeepsTime.emptied {f g : Field} (h : Field.KeepsTime { f with pendW := [] } g) :
    g.clk.time = f.clk.time ∧ g.start.holdUp = f.start.holdUp ∧ g.pendW = [] := by
  obtain ⟨hclk, hhold, hpend, -⟩ := h
  exact ⟨hclk, hhold, hpend⟩

theorem Clk.time_update (c : Clk) (st : Stamp) (ph : Word) (tk n : Nat) (past : List (Stamp × BitVec 54 × BitVec 16)) :
    Clk.time { c with stamp := st, phase := ph, ticks := tk, fno := n, past := past } = (st, ph, tk, n, c.item1) := rfl

/-- R195: the time that the frame which ends leaves. -/
theorem Field.advance_time (f : Field) : f.advance.clk.time =
    (BitVec.ofNat 72 ((f.clk.acc + f.clk.frameLen * f.clk.incr) / 2 ^ 32), BitVec.ofNat 32 (f.clk.acc + f.clk.frameLen * f.clk.incr),
      f.clk.ticks + f.clk.frameLen, f.clk.fno + 1, f.clk.item1) :=
  f.clk.time_update ..

theorem Field.start_update (f : Field) (c : Clk) (r : Refs) : Field.start { f with clk := c, refs := r } = f.start := rfl

theorem Field.advance_start (f : Field) : f.advance.start = f.start := f.start_update _ _

/-- Item 1 moves time by the frame that ended, and leaves no write waiting, whatever commits. -/
theorem Field.item1_time (f : Field) :
    f.item1.clk.time = f.advance.clk.time ∧ f.item1.start.holdUp = f.start.holdUp ∧ f.item1.pendW = [] := by
  rw [← f.advance_start]
  refine Field.KeepsTime.emptied ?_
  unfold Field.item1
  extract_lets old tset f1 _ f2 f3 _ f4 f5
  have hstart : f.advance.KeepsTime f2 := startCount_time _
  have hwrap : f.advance.KeepsTime f3 := by
    simp only [f3, keepsTime_ite, (wrapCheck_time _ _).iff, hstart, ite_self]
  have hrate : f.advance.KeepsTime f4 := hwrap
  have hown : f.advance.KeepsTime f5 := ((hrate.trans (yieldCal_time _)).trans (calBoundary_time _)).trans (applyAdopts_time ..)
  rw [(newRate_time _).iff]
  split
  · exact (hown.commitAll.trans (applySelects_time _)).trans (handoverEnd_time ..)
  · exact ((hown.trans (applySelects_time _)).trans (handoverEnd_time ..)).commitAll

/-! ### Between item 1 and item 3 -/

theorem Field.keepCheckAll_time (f : Field) : f.KeepsTime f.keepCheckAll := by
  simp only [Field.keepCheckAll, keepsTime_ite, (setBit_time _ _).iff, keepsTime_mk, KeepsTime.refl, ite_self]

theorem Field.startClears_time (f : Field) : f.KeepsTime f.startClears := ⟨rfl, rfl, rfl, rfl⟩

theorem Field.wdogBoundary_time (f : Field) : f.KeepsTime f.wdogBoundary := by
  simp only [Field.wdogBoundary, keepsTime_ite, (bootRec_time _ _ _).iff, (keepCheckAll_time _).iff, (startClears_time _).iff,
    keepsTime_mk, KeepsTime.refl, ite_self]

theorem Field.ringDomains_time (f : Field) : f.KeepsTime f.ringDomains := by
  have hone (f : Field) (k : Nat) : f.KeepsTime ((f.domain (16 + 2 * k)).domain (17 + 2 * k)) := ⟨rfl, rfl, rfl, rfl⟩
  exact .foldl hone _ f

theorem Field.periodFrame_time (f : Field) : f.KeepsTime f.periodFrame := ⟨rfl, rfl, rfl, rfl⟩

/-! ### Items 3 to 7 -/

theorem Field.sendTickMsg_time (f : Field) : f.KeepsTime f.sendTickMsg := by
  unfold Field.sendTickMsg
  extract_lets f1 starts _ _ f2
  have hheld : f.KeepsTime f2 := by
    unfold f2
    split <;> exact ⟨rfl, rfl, rfl, rfl⟩
  simp only [keepsTime_ite, keepsTime_mk, hheld, ite_self]

theorem Field.countFiring_time (f : Field) (n : Nat) (flags : BitVec 4) : f.KeepsTime (f.countFiring n flags) := by
  simp only [Field.countFiring, (setBit_time _ _).iff]
  split <;> simp only [keepsTime_mk, KeepsTime.refl]

theorem Field.compareAlarm_time (f : Field) (n : Nat) : f.KeepsTime (f.compareAlarm n) := by
  unfold Field.compareAlarm
  split
  · exact .refl f
  · dsimp only
    split
    · exact .refl f
    · split
      · exact .refl f
      · split
        · exact ⟨rfl, rfl, rfl, rfl⟩
        · split
          · simp only [(request_time _ _ _ _).iff, countFiring_time]
          · split
            · exact countFiring_time ..
            · simp only [keepsTime_mk, countFiring_time]

theorem Field.periodicEvents_time (f : Field) : f.KeepsTime f.periodicEvents := by
  simp only [Field.periodicEvents, keepsTime_ite, request_time, KeepsTime.refl, ite_self]

theorem Field.alarmItem_time (f : Field) : f.KeepsTime f.alarmItem := by
  simp only [Field.alarmItem, keepsTime_ite, (periodicEvents_time _).iff, (compareAlarm_time _ _).iff, KeepsTime.refl, ite_self]

theorem Field.closeDay_time (f : Field) (i : Inst) (cause : Nat) (p v : Bool) (st : Stamp) (extra : List (Slot × List Slot)) :
    f.KeepsTime (f.closeDay i cause p v st extra) := by
  simp only [Field.closeDay, (request_time _ _ _ _).iff, keepsTime_mk, KeepsTime.refl]

theorem Field.dayBoundary_time (f : Field) (zero : Bool) : f.KeepsTime (f.dayBoundary zero) := by
  unfold Field.dayBoundary
  extract_lets st _ nl en localChg enClr enSet mid steps day was f1
  have hday : f.KeepsTime f1 := ⟨rfl, rfl, rfl, rfl⟩
  split
  · split
    · simp only [keepsTime_ite, keepsTime_mk, KeepsTime.refl, ite_self]
    · exact .refl f
  · split
    · exact .refl f
    · split
      · simp only [keepsTime_ite, keepsTime_mk, hday, ite_self]
      · dsimp only
        split
        · exact hday
        · simp only [keepsTime_ite, keepsTime_mk, (closeDay_time _ _ _ _ _ _ _).iff, hday, ite_self]

theorem Field.spendSteps_time (f : Field) : f.KeepsTime f.spendSteps := by
  have hspent (r : Option Int) : Clk.time { f.clk with steps := [], repeatEnd := r } = f.clk.time := rfl
  simp only [Field.spendSteps, keepsTime_ite, keepsTime_mk, hspent, KeepsTime.refl, ite_self]

theorem Field.tickerItem_time (f : Field) : f.KeepsTime f.tickerItem := by
  simp only [Field.tickerItem, keepsTime_ite, (request_time _ _ _ _).iff, keepsTime_mk, KeepsTime.refl, ite_self]

theorem Field.sendStat_time (f : Field) : f.KeepsTime f.sendStat := by
  simp only [Field.sendStat, keepsTime_ite, (send_time _ _ _).iff, keepsTime_mk, KeepsTime.refl, ite_self]

theorem Field.heldResult_time (f : Field) (c : Nat) : f.KeepsTime (f.heldResult c) := by
  unfold Field.heldResult
  split
  · exact .refl f
  · simp only [keepsTime_ite, (finishSets_time _).iff, keepsTime_mk, KeepsTime.refl, ite_self]

theorem Field.planItem_time (f : Field) : f.KeepsTime f.planItem := by
  simp only [Field.planItem, keepsTime_ite, (finishSets_time _).iff, keepsTime_mk, KeepsTime.refl, ite_self]

theorem Field.blockCore_time (f : Field) (c : Nat) : f.KeepsTime (f.blockCore c) := by
  unfold Field.blockCore
  extract_lets busy free
  split
  · exact .refl f
  · split <;> exact ⟨rfl, rfl, rfl, rfl⟩

theorem Field.tempItem_time (f : Field) : f.KeepsTime f.tempItem := by
  simp only [Field.tempItem, keepsTime_ite, (blockCore_time _ _).iff, (planItem_time _).iff, (heldResult_time _ _).iff, KeepsTime.refl,
    ite_self]

theorem Field.testBoundary_time (f : Field) : f.KeepsTime f.testBoundary := by
  unfold Field.testBoundary
  dsimp only
  split
  · exact ⟨rfl, rfl, rfl, rfl⟩
  · simp only [keepsTime_ite, (tell_time _ _).iff, Field.testOver, (KeepsTime.foldl (fun _ _ => request_time ..) _ _).iff, keepsTime_mk,
      KeepsTime.refl, ite_self]

theorem Field.learnOpen_time (f : Field) : f.KeepsTime f.learnOpen := by
  simp only [Field.learnOpen, keepsTime_ite, keepsTime_mk, KeepsTime.refl, ite_self]

theorem Field.learnFrame_time (f : Field) : f.KeepsTime f.learnFrame := by
  unfold Field.learnFrame
  extract_lets f1
  have hlearn : f.KeepsTime f1 := by
    simp only [f1, keepsTime_ite, keepsTime_mk, KeepsTime.refl, ite_self]
  split
  · exact hlearn.trans (learnOpen_time _)
  · simp only [keepsTime_ite, keepsTime_mk, hlearn, ite_self]

theorem Field.makePlan_time (f : Field) : f.KeepsTime f.makePlan := by
  simp only [Field.makePlan, keepsTime_ite, (setBit_time _ _).iff, keepsTime_mk, KeepsTime.refl, ite_self]

theorem Field.periodHead_time (k : Nat) (f : Field) : f.KeepsTime (f.periodHead k) := by
  induction k generalizing f with
  | zero => exact .refl f
  | succ k ih =>
    unfold Field.periodHead
    split
    · simp only [(ih _).iff, (setBit_time _ _).iff, (KeepsTime.foldl (fun _ _ => stageRec_time ..) _ _).iff, Field.sram, Field.planLeft,
        keepsTime_mk, KeepsTime.refl]
    · exact .refl f

theorem Field.periodSlices_time (f : Field) : f.KeepsTime f.periodSlices := by
  simp only [Field.periodSlices, keepsTime_ite, periodHead_time, KeepsTime.refl, ite_self]

/-- Items 3 to 7 leave time, and hand the marks of the frame on. -/
theorem Field.itemsRun_time (f : Field) :
    f.itemsRun.clk.time = f.clk.time ∧ f.itemsRun.pendW = f.pendW ∧ f.itemsRun.refs.marksNow = [] := by
  have hsent : f.KeepsTime ((((f.sendTickMsg).alarmItem.dayBoundary
      (f.sendTickMsg.alarmItem.clk.frame = 0 && !f.sendTickMsg.alarmItem.bit sbTimeInvalid)).spendSteps.tickerItem).sendStat) := by
    simp only [(sendStat_time _).iff, (tickerItem_time _).iff, (spendSteps_time _).iff, (dayBoundary_time _ _).iff,
      (alarmItem_time _).iff, sendTickMsg_time]
  obtain ⟨hclk, hhold, hpend, -⟩ := hsent
  have hall : Field.KeepsTime { f with refs := { f.refs with marksNow := [] } } f.itemsRun := by
    simp only [Field.itemsRun, (periodSlices_time _).iff, (makePlan_time _).iff, (learnFrame_time _).iff, (testBoundary_time _).iff,
      (tempItem_time _).iff]
    exact ⟨hclk, hhold, hpend, rfl⟩
  obtain ⟨kclk, -, kpend, kmarks⟩ := hall
  exact ⟨kclk, kpend, kmarks⟩

/-! ### The boundary -/

/-- What comes between item 1 and item 3 leaves time. -/
theorem Field.item2_time (f : Field) : f.KeepsTime ((f.wdogBoundary.calDueInit).ringDomains.periodFrame) :=
  ((wdogBoundary_time f).trans (calDueInit_time _)).trans ((ringDomains_time _).trans (periodFrame_time _))

theorem Field.domBoundary_clk (f : Field) : f.domBoundary.clk = f.clk := rfl

/-- At a boundary without hold-up whose item 1 is still to do, items 1 to 7 run: time moves by the frame that ended, no write
stays, and no mark of the frame. -/
theorem doFrameBoundary_time (f : Field) (halive : f.start.alive = true) (hhold : f.start.holdUp = false) (hitem1 : f.clk.item1 = false) :
    (doFrameBoundary f).clk.time = f.domBoundary.advance.clk.time ∧ (doFrameBoundary f).pendW = [] ∧
      (doFrameBoundary f).refs.marksNow = [] := by
  unfold doFrameBoundary
  rw [if_neg (by simp [halive])]
  extract_lets f1 _ f2 f3
  have hfirst : f2 = f1.item1 := if_neg (by simp [f1, f.domBoundary_clk, hitem1])
  obtain ⟨hclk, hup, hpend⟩ := f1.item1_time
  rw [← hfirst] at hclk hup hpend
  obtain ⟨gclk, gup, gpend, -⟩ := f2.item2_time
  have hrun : f3.start.holdUp = false := gup.trans (hup.trans hhold)
  rw [if_neg (by rw [hrun]; decide)]
  obtain ⟨kclk, kpend, kmarks⟩ := f3.itemsRun_time
  exact ⟨kclk.trans (gclk.trans hclk), kpend.trans (gpend.trans hpend), kmarks⟩

/-! ### The news of field work -/

theorem Field.endTest_time (f : Field) (p x n : Nat) : f.KeepsTime (f.endTest p x n) := by
  simp only [Field.endTest, (stage_time _ _).iff, Field.testOver, keepsTime_mk, KeepsTime.refl]

theorem State.testEnd_time (s : State) (i : Nat) : s.f.KeepsTime (s.testEnd i).f := by
  unfold State.testEnd
  split
  · exact Field.endTest_time ..
  · exact .refl s.f

/-- Telling a fold of job slots leaves time, where telling one does. -/
theorem State.foldl_time {α : Type} {u : State → α → State} (hu : ∀ s a, Field.KeepsTime s.f (u s a).f) (l : List α) (s : State) :
    s.f.KeepsTime (l.foldl u s).f := by
  induction l generalizing s with
  | nil => exact .refl s.f
  | cons a l ih => exact (hu s a).trans (ih _)

/-- Only the end of a test that is told touches the field side, and it leaves time. -/
theorem State.jobEvent_time (s : State) (e : JobEv) : s.f.KeepsTime (s.jobEvent e).f := by
  cases e with
  | testSlice line verdict =>
    refine State.foldl_time (fun s i => ?_) _ s
    split
    · exact State.testEnd_time ..
    · exact .refl s.f
  | _ => exact .refl s.f

theorem State.withField_time (s : State) (g : Field) : g.KeepsTime (s.withField g).f :=
  State.foldl_time State.jobEvent_time g.jobEv { s with f := { g with jobEv := [] } }

/-- Settles O16: housekeeping item 1 alone moves time; nothing that commits there or follows moves it. -/
theorem frameBoundaryAdvancesTime : Obligations.FrameBoundaryAdvancesTime := by
  intro s hup hitem1
  obtain ⟨halive, hhold⟩ := Bool.and_eq_true_iff.mp hup.1
  obtain ⟨hclk, hpend, hmarks⟩ := doFrameBoundary_time s.f halive ((Bool.not_eq_true' _).mp hhold) hitem1
  obtain ⟨kclk, -, kpend, kmarks⟩ := s.withField_time (doFrameBoundary s.f)
  have htime := kclk.trans (hclk.trans s.f.domBoundary.advance_time)
  rw [s.f.domBoundary_clk, hitem1] at htime
  obtain ⟨hstamp, hphase, hticks, hfno, hitem⟩ : _ ∧ _ ∧ _ ∧ _ ∧ _ := by simpa only [Clk.time, Prod.mk.injEq] using htime
  exact ⟨_, rfl, hstamp, hphase, hticks, hfno, hitem, kpend.trans hpend, kmarks.trans hmarks⟩

end Sys2Proof.Machine
end

section
/-! Measurements of the die temperature and of the coin cell (08_rate.md, 03_power_fabric.md section 7): what a read holds, and how
BATLOW follows it. -/

namespace Sys2Proof.Machine

/-! ### A step of the field side, a bit of a word that is written -/

/-- A step of the field side is what its operation leaves of the field side, where that has no news. -/
theorem State.fieldStep (s : State) (i : Instr) {g k : Field} (hexec : exec i s = .next (s.withField g)) (hg : g = k)
    (hnews : k.jobEv = []) : ∃ t, exec i s = .next t ∧ OnlyField s t k :=
  ⟨_, hexec, hg ▸ s.withField_onlyField g (hg ▸ hnews)⟩

/-- A bit that is written reads as it was written, the others as they were. -/
theorem bitOf_withBit (w : Word) {i : Nat} (b : Bool) (j : Nat) (hi : i < 32) :
    bitOf (withBit w i b) j = if j = i then b else bitOf w j := by
  by_cases hj : j < 32
  · simp only [bitOf, withBit, withField, BitVec.getLsbD_or, BitVec.getLsbD_and, BitVec.getLsbD_not, BitVec.getLsbD_ofNat,
      Nat.testBit_shiftLeft, hj]
    rcases lt_trichotomy j i with hlt | rfl | hgt
    · simp [hlt.ne, Nat.not_le.mpr hlt]
    · cases b <;> simp
    · have hone : Nat.testBit 1 (j - i) = false := Nat.testBit_lt_two_pow (Nat.one_lt_two_pow (by omega))
      cases b <;> simp [hgt.ne', hone]
  · have hne : j ≠ i := by omega
    rw [if_neg hne, bitOf, bitOf, BitVec.getLsbD_of_ge _ _ (by omega), BitVec.getLsbD_of_ge _ _ (by omega)]

theorem Field.bit_setBit (f : Field) {i : Nat} (hi : i < 32) : (f.setBit i).bit i = true := by
  rw [Field.bit, f.setBit_latched, bitOf_withBit _ _ _ hi, if_pos rfl]

theorem Field.bit_clrBit (f : Field) {i : Nat} (hi : i < 32) : (f.clrBit i).bit i = false :=
  (bitOf_withBit _ _ _ hi).trans (if_pos rfl)

/-! ### Reads of the die temperature (R289 to R293) -/

/-- The abort of a learning window leaves the rate terms and the reads. -/
theorem Rate.abort_rest (r : Rate) :
    r.abort = { r with learn := r.abort.learn, lrnAbt := r.abort.lrnAbt, sumAbt := r.abort.sumAbt } := by
  unfold Rate.abort
  split <;> rfl

/-- From `r` to `q` only the learning window differs, with its counts. -/
def Rate.WindowOnly (r q : Rate) : Prop := q = { r with learn := q.learn, lrnAbt := q.lrnAbt, sumAbt := q.sumAbt }

/-- A read that is due is held, with what COMP gives at it for the coming boundary; the first one begins fast mode. -/
theorem doDieTempRead_due (f : Field) (v : BitVec 16) (hdue : f.readDue = true) :
    ∃ r, doDieTempRead v f = { f with rate := r } ∧ r.tdie = v ∧ r.tvalid = true ∧ (f.rate.tvalid = false → r.fast = true) ∧
      r.rcNext = some (compRate f.rate.cfg f.cal.ws.compPar f.cal.ws.ltab ((v.toInt : Rat) / 64)) ∧
      r.cfg = f.rate.cfg ∧ r.rc = f.rate.rc := by
  unfold doDieTempRead
  rw [if_neg (by simp [hdue])]
  extract_lets now x first slope quick still fast calm fast' _ rate out
  have hfast : f.rate.tvalid = false → fast' = true := by
    intro h
    have hcalm : calm = 0 := by simp [calm, fast, first, h]
    simp [fast', hcalm, fast, first, h]
  have hout : rate.WindowOnly out := by
    unfold out
    split
    · rfl
    · dsimp only
      split
      · exact Rate.abort_rest _
      · rfl
  refine ⟨out, rfl, ?_⟩
  rw [hout]
  exact ⟨rfl, rfl, hfast, rfl, rfl, rfl⟩

/-! ### The loaded measurement of VBAT (R86, R87) -/

/-- The field side after a measurement of `v` mV: BATLOW follows the threshold `th` with 0.1 V of hysteresis. -/
theorem doVbatMeasure_due (f : Field) (mv v th : Nat) (hdue : f.measDue = true) (hv : v = min ((mv + 5) / 10 * 10) 4090)
    (hth : th = 2200 + 100 * fieldOf f.sup.cfg 4 4) :
    ∃ at' st, doVbatMeasure mv f = { f with
        sup := { f.sup with batMeas := true, vbatMv := BitVec.ofNat 12 v, measAt := at' }, stat := st } ∧
      bitOf st.latched sbBatlow =
        (if v < th ∨ f.sup.vbatOk = false then true else if th + 100 ≤ v then false else f.bit sbBatlow) := by
  unfold doVbatMeasure
  rw [if_neg (by simp [hdue]), ← hv, ← hth]
  extract_lets _ _ _ g
  by_cases hlow : v < th ∨ f.sup.vbatOk = false
  · rw [if_pos (by simpa [g] using hlow), if_pos hlow]
    exact ⟨_, _, rfl, g.bit_setBit (by decide)⟩
  · rw [if_neg (by simpa [g] using hlow), if_neg hlow]
    by_cases hhigh : th + 100 ≤ v
    · rw [if_pos hhigh, if_pos hhigh]
      exact ⟨_, _, rfl, g.bit_clrBit (by decide)⟩
    · rw [if_neg hhigh, if_neg hhigh]
      exact ⟨_, _, rfl, rfl⟩

/-- Settles O24: `doDieTempRead_due` and `doVbatMeasure_due`, which leave no news. -/
theorem measurementsAreTaken : Obligations.MeasurementsAreTaken := by
  refine ⟨fun s v hf hdue => ?_, fun s mv v th hf hdue hv hth => ?_⟩
  · obtain ⟨r, hread, htdie, hvalid, hfast, hnext, hcfg, hrc⟩ := doDieTempRead_due s.f v hdue
    obtain ⟨t, ht, hfield, hhost, -⟩ := s.fieldStep (.dieTempRead v) rfl hread hf.2
    refine ⟨t, ht, ?_⟩
    rw [hfield]
    exact ⟨rfl, hhost, htdie, hvalid, hfast, hnext, hcfg, hrc⟩
  · obtain ⟨at', st, hmeas, hlow⟩ := doVbatMeasure_due s.f mv v th hdue hv hth
    obtain ⟨t, ht, hfield, hhost, hpend⟩ := s.fieldStep (.vbatMeasure mv) rfl hmeas hf.2
    refine ⟨t, ht, ?_⟩
    rw [hfield]
    exact ⟨rfl, rfl, hlow, rfl, hhost, hpend⟩

end Sys2Proof.Machine
end

section
/-! A commit to hold-up while a calibration waits for its verdict (R74, R464): the calibrations under way are abandoned but for one whose
second run has completed, and that one stays. -/

namespace Sys2Proof.Machine

/-- A part that VBK powers since its source fell, its demotion still to be decided, while both runs of a crystal load calibration
have completed in this frame and its verdict waits for the boundary. -/
def fallenBeforeVerdict : State := { State.reset with f := { State.reset.f with
  start := { State.reset.f.start with alive := true, por := false },
  sup := { State.reset.f.sup with pend := true, path := .vbk },
  cal := { State.reset.f.cal with act := some ⟨.xl, 0, true, 32, some ⟨[], 0#32, 0#32⟩, some ⟨[], 0#32, 0#32⟩⟩ } } }

/-- Its demotion commits to hold-up, and the calibration is still under way. -/
theorem fallenBeforeVerdict_keeps_calibration : (match exec (.demotionDecide 0 false) fallenBeforeVerdict with
    | .next t => t.f.start.holdUp && t.f.cal.act.isSome
    | _ => false) = true := rfl

/-- Refutes O27: its last clause has no calibration under way after a commit to hold-up, yet R464 abandons only one whose second run has
not completed. -/
theorem not_sourcesFallAndDemote : ¬ Obligations.SourcesFallAndDemote := by
  rintro ⟨-, -, -, -, hholdUp⟩
  obtain ⟨t, hexec, -, -, -, -, -, hact, -⟩ := hholdUp fallenBeforeVerdict 0 (by decide) rfl rfl
  have hkept := fallenBeforeVerdict_keeps_calibration
  rw [hexec] at hkept
  simp [hact] at hkept

end Sys2Proof.Machine
end

section
/-! What supplies and starts decide on the field side (03_power_fabric.md, 05_first_second.md): the named operations, each by what it
leaves of it. -/

namespace Sys2Proof.Machine

/-- What supplies and starts decide: time and references, the start, the sources, the drive of PON_F, the link. -/
structure Power where
  clk : Clk
  refs : Refs
  tset : Tset
  start : Start
  sel : Source
  path : Source
  pend : Bool
  vfldOk : Bool
  isoOk : Bool
  vbatOk : Bool
  swCommit : BitVec 16
  ponF : Bool
  linked : Bool

def Field.power (f : Field) : Power :=
  ⟨f.clk, f.refs, f.tset, f.start, f.sup.sel, f.sup.path, f.sup.pend, f.sup.vfldOk, f.sup.isoOk, f.sup.vbatOk, f.sup.swCommit,
    f.wake.ponF, f.bar.linked⟩

/-! ### Records, gaps, results -/

@[simp] theorem Field.stageRec_power (f : Field) (a : Slot) (m : List Slot) : (f.stageRec a m).power = f.power := by
  unfold Field.stageRec
  split
  · rfl
  · split <;> rfl

@[simp] theorem Field.stage_power (f : Field) (a : Slot) : (f.stage a).power = f.power := f.stageRec_power a []

@[simp] theorem Field.bootRec_power (f : Field) (c : Nat) (st : Stamp) : (f.bootRec c st).power = f.power := f.stage_power _

/-- A fold of updates that leave it. -/
theorem Field.foldl_power {α : Type} {u : Field → α → Field} (hu : ∀ f a, (u f a).power = f.power) (l : List α) (f : Field) :
    (l.foldl u f).power = f.power := by
  induction l generalizing f with
  | nil => rfl
  | cons a l ih => exact (ih _).trans (hu f a)

@[simp] theorem Field.finishSets_power (f : Field) : f.finishSets.power = f.power :=
  Field.foldl_power (fun f (s : SetRec) => f.stage_power s.record) _ _

@[simp] theorem Field.openGap_power (f : Field) (c : Nat) (st : Stamp) : (f.openGap c st).power = f.power := rfl

@[simp] theorem Field.closeGap_power (f : Field) (st : Stamp) : (f.closeGap st).power = f.power := by
  unfold Field.closeGap
  split
  · rfl
  · exact Field.stage_power _ _

/-! ### Work that a supply ends -/

@[simp] theorem Field.calAbandon_power (f : Field) (p : CalItem → Nat → Bool) : (f.calAbandon p).power = f.power := by
  unfold Field.calAbandon
  extract_lets g
  have hg : g.power = f.power := by
    unfold g
    split
    · split <;> rfl
    · rfl
  split
  · split
    · exact hg
    · exact hg
  · exact hg

@[simp] theorem Field.dropTest_power (f : Field) : f.dropTest.power = f.power := by
  unfold Field.dropTest
  split <;> rfl

@[simp] theorem Field.planStop_power (f : Field) : f.planStop.power = f.power := Field.finishSets_power _

@[simp] theorem Field.urgentFlush_power (f : Field) (k : Nat) : (f.urgentFlush k).power = f.power := by
  unfold Field.urgentFlush
  split
  · rfl
  · split <;> rfl

@[simp] theorem Field.wakesLost_power (f : Field) : f.wakesLost.power = f.power := by
  unfold Field.wakesLost
  extract_lets lost pulse _ w g
  have hg : g.power = f.power := by
    unfold g
    split <;> rfl
  refine (Field.foldl_power (fun f a => ?_) lost g).trans hg
  rw [Field.stage_power]
  unfold Field.noteDropped
  split <;> rfl

/-- An unlinked field side has heard no message (R122, R140). -/
theorem Field.unlink_power (f : Field) :
    f.unlink.power = { f.power with start := { f.start with heldMsg := false }, linked := false } := by
  have hwork : f.linkWorkEnds.power = f.power := by
    unfold Field.linkWorkEnds
    rw [Field.calAbandon_power]
    exact f.wakesLost_power
  have hself : f.unlink.power =
      { f.linkWorkEnds.power with start := { f.linkWorkEnds.power.start with heldMsg := false }, linked := false } := rfl
  rw [hself, hwork]
  rfl

/-! ### Committed switches (R65 to R68) -/

theorem Field.supplyRec_power (f : Field) (c : Nat) (old new : Source) (st : Stamp) :
    (f.supplyRec c old new st).power = { f.power with swCommit := satAdd f.sup.swCommit 1 } := by
  unfold Field.supplyRec
  extract_lets v g
  have hg : g.power = f.power := f.stage_power _
  exact congrArg (fun p : Power => { p with swCommit := satAdd p.swCommit 1 }) hg

theorem Field.enterSource_power (f : Field) (new : Source) (st : Stamp) (k : Nat) :
    (f.enterSource new st k).power = { f.power with sel := new, path := new, pend := false } := by
  unfold Field.enterSource
  extract_lets _ g stopped abandoned dropped _ measured gone
  have hdropped : dropped.power = g.power := by simp [dropped, abandoned, stopped]
  have hgone : gone.power = g.power := by
    unfold gone
    split <;> exact hdropped
  split
  · exact (gone.urgentFlush_power k).trans hgone
  · rfl

/-- A promotion commits to its source (R67, R68). -/
theorem Field.promote_power (f : Field) (src : Source) (k : Nat) : (f.promote src k).power =
    { f.power with sel := src, path := src, pend := false, swCommit := satAdd f.sup.swCommit 1 } := by
  unfold Field.promote
  extract_lets st old g
  rw [Field.enterSource_power, apply_ite Field.power, Field.closeGap_power, ite_self, Field.supplyRec_power]

/-! ### Starts and stops (05_first_second.md) -/

@[simp] theorem Field.keepCheckAll_power (f : Field) : f.keepCheckAll.power = f.power := by
  unfold Field.keepCheckAll
  dsimp only
  split <;> rfl

/-- A warm start moves what references hold alone (R278). -/
theorem Field.refsWarm_power (f : Field) (holdAt : Stamp) : ∃ refs, (f.refsWarm holdAt).power = { f.power with refs := refs } := by
  unfold Field.refsWarm
  dsimp only
  split
  · exact ⟨_, Field.stage_power _ _⟩
  · exact ⟨_, rfl⟩

/-- The start sequence begins again, warm; nothing of a time set stays staged (R216, Table 5-3). -/
def Power.warm (p : Power) : Power :=
  { p with
    tset := ⟨Vector.replicate 8 0#8, false, 0#8, false⟩,
    start := { p.start with
      holdUp := false, kind := .warm, frames := 0, s0 := true, restored := false, mounted := false, wdog := false } }

/-- A warm start ends hold-up on its source (R78). -/
theorem Field.warmStart_power (f : Field) (src : Source) (st : Stamp) (k : Nat) :
    ∃ refs, (f.warmStart src st k).power = { f.power.warm with
      refs := refs, sel := src, path := src, pend := false, swCommit := satAdd f.sup.swCommit 1 } := by
  unfold Field.warmStart
  extract_lets supplied gaps told first _ _ woken checked booted _ _ _ _ begun cleared
  have htold : told.power = supplied.power := Field.foldl_power (fun f g => f.stage_power _) gaps supplied
  have hbooted : booted.power = supplied.power := by
    rw [Field.bootRec_power, Field.keepCheckAll_power]
    exact htold
  obtain ⟨refs, hcleared⟩ := begun.startClears.refsWarm_power begun.sup.holdAt
  have hbegun : begun.startClears.power = booted.power.warm := rfl
  refine ⟨refs, ?_⟩
  rw [Field.enterSource_power, hcleared, hbegun, hbooted, f.supplyRec_power]
  rfl

/-! ### The news of field work -/

theorem Field.endTest_power (f : Field) (p x n : Nat) : (f.endTest p x n).power = f.power := Field.stage_power _ _

theorem State.testEnd_power (s : State) (i : Nat) : (s.testEnd i).f.power = s.f.power := by
  unfold State.testEnd
  split
  · exact Field.endTest_power ..
  · rfl

/-- Telling a fold of job slots leaves it, where telling one does. -/
theorem State.foldl_power {α : Type} {u : State → α → State} (hu : ∀ s a, (u s a).f.power = s.f.power) (l : List α) (s : State) :
    (l.foldl u s).f.power = s.f.power := by
  induction l generalizing s with
  | nil => rfl
  | cons a l ih => exact (ih _).trans (hu s a)

theorem State.jobEvent_power (s : State) (e : JobEv) : (s.jobEvent e).f.power = s.f.power := by
  cases e with
  | testSlice line verdict =>
    refine State.foldl_power (fun s i => ?_) _ s
    split
    · exact State.testEnd_power ..
    · rfl
  | _ => rfl

@[simp] theorem State.withField_power (s : State) (g : Field) : (s.withField g).f.power = g.power :=
  State.foldl_power State.jobEvent_power g.jobEv { s with f := { g with jobEv := [] } }

/-! ### Sources that qualify (R59, R67, R68, R78) -/

def Power.ok (p : Power) : Source → Bool
  | .vfld => p.vfldOk
  | .iso => p.isoOk
  | .vbat => p.vbatOk
  | .vbk => true

theorem Field.power_ok (f : Field) (src : Source) : f.power.ok src = f.sup.ok src := by cases src <;> rfl

/-- The field side with a source qualified. -/
def Field.qualified (f : Field) (src : Source) : Field := { f with sup := f.sup.putOk src true }

theorem Field.qualified_swCommit (f : Field) (src : Source) : (f.qualified src).sup.swCommit = f.sup.swCommit := by cases src <;> rfl

theorem Sup.ok_putOk (s : Sup) (src : Source) : (s.putOk src true).ok src = true := by cases src <;> rfl

/-- A source above its rise threshold qualifies: while the power-on reset stands that is all; in hold-up a warm start follows. -/
theorem doSourceQualify_start (f : Field) {src : Source} {k mv vb : Nat} (hsrc : src ≠ .vbk) (hrise : f.sup.aboveRise src mv vb = true) :
    (f.start.por = true → doSourceQualify src k mv vb f = f.qualified src) ∧
    (f.start.alive = true → f.start.holdUp = true → f.start.por = false →
      doSourceQualify src k mv vb f = (f.qualified src).warmStart src (f.clk.atTick k) k) := by
  refine ⟨fun hpor => ?_, fun halive hhold hpor => ?_⟩
  · simp [doSourceQualify, Field.qualified, hsrc, hrise, hpor]
  · simp [doSourceQualify, Field.qualified, hsrc, hrise, halive, hhold, hpor]

/-- On a field side that runs, with no demotion pending, a qualified source is promoted where it ranks higher. -/
theorem doSourceQualify_runs (f : Field) {src : Source} {k mv vb : Nat} (hrun : f.runs = true) (hpor : f.start.por = false)
    (hsrc : src ≠ .vbk) (hpend : f.sup.pend = false) (hrise : f.sup.aboveRise src mv vb = true) :
    doSourceQualify src k mv vb f =
      if sourceCode src < sourceCode f.sup.sel then (f.qualified src).promote src k else f.qualified src := by
  obtain ⟨halive, hhold⟩ := Bool.and_eq_true_iff.mp hrun
  have hsel : (f.sup.putOk src true).sel = f.sup.sel := by cases src <;> rfl
  simp [doSourceQualify, Field.qualified, hsrc, hrise, halive, (Bool.not_eq_true' _).mp hhold, hpor, hpend, hsel]

/-- Settles O28: a qualified source is promoted (`Field.promote_power`), starts the field side out of hold-up (`Field.warmStart_power`), or
is only qualified. -/
theorem sourcesQualify : Obligations.SourcesQualify := by
  refine ⟨fun s src k mv vb hnews hpor hsrc hrise => ?_, fun s src k mv vb hf hpor hsrc hpend hrise hrank => ?_,
    fun s src k mv vb hf hpor hsrc hpend hrise hrank => ?_, fun s src k mv vb halive hhold hpor hsrc hrise => ?_⟩
  · exact s.fieldStep (.sourceQualify src k mv vb) rfl ((doSourceQualify_start (s.f.atTick k) hsrc hrise).1 hpor) hnews
  · have hstep := (doSourceQualify_runs (k := k) (s.f.atTick k) hf.1 hpor hsrc hpend hrise).trans (if_pos hrank)
    have hpower := (s.withField_power _).trans ((congrArg Field.power hstep).trans (Field.promote_power _ src k))
    have hok := (congrArg (Power.ok · src) hpower).trans (Field.power_ok _ src)
    exact ⟨_, rfl, congrArg Power.sel hpower, congrArg Power.path hpower,
      (Field.power_ok _ src).symm.trans (hok.trans (s.f.sup.ok_putOk src)),
      (congrArg Power.swCommit hpower).trans (congrArg (satAdd · 1) ((s.f.atTick k).qualified_swCommit src)),
      congrArg Power.clk hpower, congrArg Power.refs hpower⟩
  · have hstep := (doSourceQualify_runs (k := k) (s.f.atTick k) hf.1 hpor hsrc hpend hrise).trans (if_neg (Nat.not_lt.mpr hrank))
    exact s.fieldStep (.sourceQualify src k mv vb) rfl hstep hf.2
  · have hstep := (doSourceQualify_start (k := k) (s.f.atTick k) hsrc hrise).2 halive hhold hpor
    obtain ⟨refs, hwarm⟩ := ((s.f.atTick k).qualified src).warmStart_power src ((s.f.atTick k).clk.atTick k) k
    have hpower := (s.withField_power _).trans ((congrArg Field.power hstep).trans hwarm)
    have hstart := congrArg Power.start hpower
    exact ⟨_, rfl, congrArg Start.holdUp hstart, congrArg Start.kind hstart, congrArg Start.s0 hstart, congrArg Start.restored hstart,
      congrArg Start.mounted hstart, congrArg Power.sel hpower, congrArg Power.path hpower,
      congrArg (fun p => p.clk.stamp) hpower, congrArg (fun p => p.tset.filled) hpower,
      (congrArg Power.swCommit hpower).trans (congrArg (satAdd · 1) ((s.f.atTick k).qualified_swCommit src))⟩

end Sys2Proof.Machine
end

section
/-! The end of hold-up by VBK's fall, and the cold start (03_power_fabric.md section 6, 05_first_second.md section 2). -/

namespace Sys2Proof.Machine

/-- VBK falls while it powers the field side: the field side stands, unlinked, until a cold start (R77, R153). -/
theorem doVbkPor_power (f : Field) (hvbk : f.start.holdUp = true ∨ f.start.alive = true ∧ f.sup.path = .vbk) :
    (doVbkPor f).power = { f.power with
      start := { f.start with alive := false, holdUp := false, por := true, heldMsg := false },
      sel := .vbk, path := .vbk, pend := false, ponF := false, linked := false } := by
  unfold doVbkPor
  rw [if_pos (by simpa using hvbk), Field.unlink_power]
  rfl

/-- The field side with a record of one slot staged. -/
def Field.staged (f : Field) (a : Slot) : Field :=
  { f with jrn := { f.jrn with staging := f.jrn.staging ++ [⟨a, [], f.clk.fno⟩] } }

/-- A record is staged where the journal is not read-only and staging has room (R418). -/
theorem Field.stage_room (f : Field) (a : Slot) (hro : f.jrnRo = false) (hroom : f.jrn.stagedSlots < Config.stagingSlots) :
    f.stage a = f.staged a := by
  have hfit : f.jrn.stagedSlots + (1 + ([] : List Slot).length) ≤ Config.stagingSlots := hroom
  rw [Field.stage, Field.stageRec, if_neg (by simp [hro]), if_pos hfit]
  rfl

/-- The coin-cell plan is enabled at a cold start (Table 20-4), so that VBAT does not leave the field side without sampling (R85). -/
theorem Field.cold_idleOnVbat (f : Field) (best : Source) : (f.cold best).idleOnVbat = false := by
  have hplan : bitOf (f.cold best).sup.cfg 12 = true := (by decide : bitOf 0x012C1F33#32 12 = true)
  rw [Field.idleOnVbat, hplan, Bool.not_true, Bool.and_false]

/-- `TIME_INVALID` and `KEEP_LOST` stand after a cold start (R188, R336). -/
theorem Field.cold_bits (f : Field) {best : Source} : (f.cold best).bit sbTimeInvalid = true ∧ (f.cold best).bit sbKeepLost = true :=
  (by decide : bitOf 0x60#32 5 = true ∧ bitOf 0x60#32 6 = true)

/-- The records of a cold start: BOOT 0x01 and EPOCH (R154, R163). -/
def coldBoot (f : Field) : Slot := recBoot 1 0#72 (satAdd f.start.bootStored 1) true true
def coldEpoch : Slot := recEpoch 0 0#72 0#16 0#16 0 0#54

/-- At the release of the power-on reset, with a source qualified, the field side starts cold, and its two records are staged. -/
theorem doColdStart_starts (f : Field) (hpor : f.start.por = true) (hbest : f.sup.best ≠ .vbk) (hro : f.jrnRo = false) :
    doColdStart f = ((f.cold f.sup.best).staged (coldBoot f)).staged coldEpoch := by
  have hboot : (f.cold f.sup.best).bootRec 1 (f.cold f.sup.best).clk.stamp = (f.cold f.sup.best).staged (coldBoot f) := by
    rw [Field.bootRec, f.cold_bits.1, f.cold_bits.2]
    exact Field.stage_room _ (coldBoot f) hro (by decide : 0 < 256)
  have hepoch : ((f.cold f.sup.best).staged (coldBoot f)).stage coldEpoch = ((f.cold f.sup.best).staged (coldBoot f)).staged coldEpoch :=
    Field.stage_room _ coldEpoch hro (by decide : 1 < 256)
  have hidle : (((f.cold f.sup.best).staged (coldBoot f)).staged coldEpoch).idleOnVbat = false := f.cold_idleOnVbat _
  unfold doColdStart
  rw [if_neg (by simp [hpor, hbest])]
  extract_lets cold booted begun
  have hbegun : begun = ((f.cold f.sup.best).staged (coldBoot f)).staged coldEpoch :=
    (congrArg (fun g : Field => g.stage (recEpoch 0 g.clk.stamp 0#16 0#16 0 0#54)) hboot).trans hepoch
  rw [hbegun, hidle]
  rfl

/-- Settles O29: VBK's fall by `doVbkPor_power`, the cold start by `doColdStart_starts`. -/
theorem coldStartResets : Obligations.ColdStartResets := by
  refine ⟨fun s hnews hvbk => ?_, fun s hpor hbest hro => ?_⟩
  · have hpower := (s.withField_power _).trans (doVbkPor_power s.f hvbk)
    have hstart := congrArg Power.start hpower
    exact ⟨_, rfl, congrArg Start.alive hstart, congrArg Start.holdUp hstart, congrArg Start.por hstart, congrArg Power.sel hpower,
      congrArg Power.ponF hpower, congrArg Power.linked hpower, congrArg Power.clk hpower⟩
  · obtain ⟨t, ht, hfield, hhost, hpend⟩ := s.fieldStep .fieldColdStart rfl (doColdStart_starts s.f hpor hbest hro) rfl
    refine ⟨t, ht, hhost, hpend, ?_⟩
    rw [hfield]
    exact ⟨rfl, rfl, rfl, rfl, rfl, rfl, rfl, rfl, rfl, rfl, rfl, rfl, rfl, rfl, rfl, rfl, rfl⟩

end Sys2Proof.Machine
end

section
/-! Conversions (11_temperature.md): their request, assignment, checks, end, and the slice that makes a result the latest. -/

namespace Sys2Proof.Machine

/-! ### Sets that are complete (R403) -/

theorem Field.stage_rest (f : Field) (a : Slot) : f.stage a = { f with jrn := (f.stage a).jrn } := by
  unfold Field.stage Field.stageRec
  split
  · rfl
  · split <;> rfl

/-- A fold of records reaches the journal alone. -/
theorem Field.foldl_stage_rest {α : Type} (r : Field → α → Slot) (l : List α) (f : Field) :
    l.foldl (fun f a => f.stage (r f a)) f = { f with jrn := (l.foldl (fun f a => f.stage (r f a)) f).jrn } := by
  refine l.foldlRecOn (motive := fun g : Field => g = { f with jrn := g.jrn }) _ rfl fun g hg a _ => ?_
  exact (g.stage_rest (r g a)).trans (congrArg (fun k : Field => { k with jrn := (g.stage (r g a)).jrn }) hg)

/-- The record of a set takes the set and reaches the journal beside. -/
theorem Field.finishSets_rest (f : Field) :
    f.finishSets = { f with temp := { f.temp with sets := f.finishSets.temp.sets }, jrn := f.finishSets.jrn } := by
  unfold Field.finishSets
  dsimp only
  rw [Field.foldl_stage_rest fun _ (s : SetRec) => s.record]

/-! ### Results (R394 to R397) -/

/-- The conversions in progress, the latched results and the latest ones stay. -/
def Temp.KeepsResults (t u : Temp) : Prop := u.core = t.core ∧ u.latch = t.latch ∧ u.latest = t.latest

theorem Temp.mergeSnap_keepsResults (t : Temp) (l : Latch) (v : Word) (g : BitVec 4) : t.KeepsResults (t.mergeSnap l v g) := by
  unfold Temp.mergeSnap
  split
  · split <;> exact ⟨rfl, rfl, rfl⟩
  · exact ⟨rfl, rfl, rfl⟩

/-- The completion of a latched result makes it the channel's latest; the latch is free again. -/
theorem Field.complete_latest (f : Field) (c : Nat) (l : Latch) {v : Word} {opened short : Bool}
    (hlin : linearise l.params l.milliOhm l.padsOk f.free = (v, opened, short)) :
    f.complete c l = { f with
      temp := (f.complete c l).temp, per := (f.complete c l).per, jrn := (f.complete c l).jrn, freeCtr := f.freeCtr + 1 } ∧
    (f.complete c l).temp.latest =
      f.temp.latest.setIfInBounds l.req.ch (some ⟨v, l.sample, false, opened, short, decide (l.req.kind = .bat)⟩) ∧
    (f.complete c l).temp.latch = f.temp.latch.setIfInBounds c none ∧ (f.complete c l).temp.core = f.temp.core := by
  unfold Field.complete
  rw [hlin]
  extract_lets n r value flags latest _ taken marked merged shown _ per
  have hmerged : taken.KeepsResults merged := by
    unfold merged
    split
    · exact marked.mergeSnap_keepsResults ..
    · exact ⟨rfl, rfl, rfl⟩
  obtain ⟨hcore, hlatch, hlatest⟩ := hmerged
  rw [Field.finishSets_rest]
  exact ⟨rfl, hlatest, hlatch, hcore⟩

/-- The completion slice of a core that has latched a result. -/
theorem doConversionCompletion_latched (f : Field) (c : Fin 2) (l : Latch) {p k : Nat} {rest : List Req} (hrun : f.runs = true)
    (hwdog : f.start.wdog = false) (hlatch : f.temp.latch[c.val]? = some (some l))
    (hplan : f.sched.plan = ⟨p, k, .completion c.val⟩ :: rest) (hper : noPeriod rest) {v : Word} {opened short : Bool}
    (hlin : linearise l.params l.milliOhm l.padsOk f.free = (v, opened, short)) :
    doConversionCompletion c f = ((f.planLeft rest).complete c.val l).sram 0 := by
  have htake : takeReq (fun k => decide (k = .completion c.val)) f.sched.plan = some (⟨p, k, .completion c.val⟩, rest) := by
    rw [hplan, takeReq, if_pos (decide_eq_true rfl)]
  have hslices : f.slices = true := by simp [Field.slices, hrun, hwdog]
  have hheld : f.temp.latch[c.val]?.getD none = some l := congrArg (Option.getD · none) hlatch
  have hsched : (((f.planLeft rest).complete c.val l).sram 0).sched = (f.planLeft rest).sched := by
    rw [Field.sram, ((f.planLeft rest).complete_latest c.val l hlin).1]
  simp only [doConversionCompletion, htake, hslices, hheld, Bool.not_true, Bool.false_eq_true, if_false]
  exact Field.periodSlices_of_noPeriod _ (by rw [hsched]; exact hper)

/-! ### Requests and assignment (R83, R390) -/

/-- The coin-cell plan requests its channels at frame 0 of a second that is a multiple of its period. -/
theorem doBatplanDue_due (f : Field) (hrun : f.runs = true) (hsel : f.sup.sel = .vbat) (hen : bitOf f.sup.cfg 12 = true)
    (hper : fieldOf f.sup.cfg 16 16 ≠ 0) (hsec : stampSec f.clk.stamp % fieldOf f.sup.cfg 16 16 = 0)
    (hframe : stampFrames f.clk.stamp % 64 = 0) (hchans : batChans f ≠ []) :
    doBatplanDue f = { f with temp := { f.temp with
      waiting := f.temp.waiting ++ (batChans f).map fun n => ⟨n, .bat, f.clk.fno, f.clk.fno⟩,
      sets := f.temp.sets ++
        [⟨.bat, f.clk.fno, f.clk.fno, f.clk.stamp, f.clk.epn, (batChans f).map fun n => ⟨n, none⟩⟩] } } := by
  unfold doBatplanDue
  extract_lets per sec due chans
  have hdue : due = true := by simp [due, per, sec, hrun, hsel, hen, hper, hsec, hframe]
  have hsome : chans.isEmpty = false := List.isEmpty_eq_false_iff.mpr hchans
  rw [hdue, hsome, if_pos (by decide)]
  rfl

theorem doBatplanDue_elsewhere (f : Field) (hsel : f.sup.sel ≠ .vbat) : doBatplanDue f = f := by
  simp [doBatplanDue, hsel]

/-- `g` differs from `f` in the state of the tests and of the telemetry of domains alone. -/
def Field.TstOnly (f g : Field) : Prop := { g with tst := f.tst } = f

theorem Field.tstOnly_domain {f g : Field} {d : Nat} : f.TstOnly (g.domain d) ↔ f.TstOnly g := .rfl

/-- Conversions that run switch domains on, and reach nothing else. -/
theorem Field.convDomains_rest (f : Field) : f.convDomains = { f with tst := f.convDomains.tst } := by
  have hrest : f.TstOnly f.convDomains := List.foldlRecOn (motive := f.TstOnly) _ _ rfl fun g hg e _ => by
    simpa only [tstOnly_domain] using hg
  exact congrArg (fun g : Field => { g with tst := f.convDomains.tst }) hrest

/-- Where both cores are free, a conversion that alone waits, and may start, takes core 0. -/
theorem doConversionStart_alone (f : Field) (w : Wait) (hrun : f.runs = true) (hframes : 8 ≤ f.start.frames)
    (hblocked : f.startsBlocked = false) (hidle : f.idleOnVbat = false) (hcont : f.contChannel = none)
    (hcores : f.temp.core = #v[none, none]) (hwait : f.temp.waiting = [w]) (hripe : w.ripe f.clk.fno = true)
    (htype : f.probeType w.ch ≠ 0) :
    doConversionStart f = (f.startOn 0 false w).convDomains := by
  have hmay : f.mayStart w = true := by
    have hfree : f.temp.inConv w.ch = false := by
      rw [Temp.inConv, hcores]
      rfl
    simp [Field.mayStart, hripe, htype, hfree]
  have hfirst : f.assignCore 0 = f.startOn 0 false w := by
    have hbest : bestWait f.clk.fno f.mayStart f.temp.waiting = some w := by simp [hwait, bestWait, hmay]
    have hcore : f.temp.core[0]?.getD none = none := by rw [hcores]; rfl
    simp only [Field.assignCore, hcore, hcont, hbest]
  have hsecond : (f.startOn 0 false w).assignCore 1 = f.startOn 0 false w := by
    have hnone : (f.startOn 0 false w).temp.waiting = [] := by simp [Field.startOn, hwait]
    have hcore : (f.startOn 0 false w).temp.core[1]?.getD none = none := by
      simp [Field.startOn, hcores]
    have hcont' : (f.startOn 0 false w).contChannel = none := hcont
    simp only [Field.assignCore, hcore, hcont', hnone, bestWait, List.foldl_nil]
  simp only [doConversionStart, hrun, hblocked, hidle, Nat.not_lt.mpr hframes, hfirst, hsecond]
  simp

/-- Settles O35: each row by its operation under the conditions of its clause; pads that fail give OPEN (R395). -/
theorem conversionsRun : Obligations.ConversionsRun := by
  refine ⟨fun s hf hsel hen hper hsec hframe hchans => ?_, fun s hf hsel => ?_,
    fun s w hf hframes hblocked hidle hcont hcores hwait hripe htype => ?_, fun s c ok v hf hcore => ?_,
    fun s c v l hf hcore hlatch hstart => ?_, fun s c r ok v hf hcore hlatch hend => ?_,
    fun s c l v opened short p k rest hf hwdog hlatch hplan hper _ hlin => ?_, fun p r x => ?_⟩
  · exact s.fieldStep .batplanDue rfl (doBatplanDue_due s.f hf.1 hsel hen hper hsec hframe hchans) hf.2
  · exact s.fieldStep .batplanDue rfl (doBatplanDue_elsewhere s.f hsel) hf.2
  · obtain ⟨t, ht, hfield, hhost, -⟩ := s.fieldStep .conversionStart rfl
      (doConversionStart_alone s.f w hf.1 hframes hblocked hidle hcont hcores hwait hripe htype)
      ((congrArg Field.jobEv (Field.convDomains_rest _)).trans hf.2)
    refine ⟨t, ht, hhost, ?_⟩
    rw [hfield, Field.convDomains_rest]
    simp [Field.startOn, hcores, hwait]
  · refine s.fieldStep (.continuityCheck c ok) rfl ?_ hf.2
    rw [doContinuityCheck, hcore]
    rfl
  · refine s.fieldStep (.conversionLatchBusy c) rfl ?_ hf.2
    rw [doLatchBusy, hcore, hlatch]
    exact if_pos hstart
  · refine s.fieldStep (.conversionEnd c r ok) rfl ?_ hf.2
    rw [doConversionEnd, hcore, hlatch]
    exact if_neg (by simp [hf.1, Nat.not_lt.mpr hend])
  · obtain ⟨hrest, hlatest, hfree, hcore⟩ := (s.f.planLeft rest).complete_latest c.val l hlin
    obtain ⟨t, ht, hfield, hhost, -⟩ := s.fieldStep (.conversionCompletion c) rfl
      (doConversionCompletion_latched s.f c l hf.1 hwdog hlatch hplan hper hlin) ((congrArg Field.jobEv hrest).trans hf.2)
    refine ⟨t, ht, hhost, ?_⟩
    rw [hfield]
    refine ⟨?_, hlatest, hfree, hcore⟩
    exact congrArg (fun g : Field => { g with tst := (((s.f.planLeft rest).complete c.val l).sram 0).tst }) hrest
  · simp [linearise]

end Sys2Proof.Machine
end

section
/-! Malformed transactions of the field stream (R108, R110, Table 4-7): one whose words are not those that its w0 states is discarded, so
that it leaves no trace in the `SEQ` bookkeeping. -/

namespace Sys2Proof.Machine

theorem HostSide.launch_lastSeq (h : HostSide) (t : Txn) : (h.launch t).bar.lastSeq = h.bar.lastSeq := by rw [h.launch_rest]

theorem State.malformed_lastSeq (s : State) (ty : MsgType) (q : BitVec 4) :
    (s.malformed ty q).h.bar.lastSeq = s.h.bar.lastSeq := by
  unfold State.malformed State.atHost
  dsimp only
  split
  · exact HostSide.launch_lastSeq ..
  · rfl

/-- A transaction that the host side has taken is the last one. -/
theorem FieldTxn.lastSeq {s t : State} {ty : MsgType} {q : BitVec 4} {h : HostSide} (htxn : FieldTxn s t ty q h) :
    t.h.bar.lastSeq = some q := by
  obtain ⟨-, hhost, -⟩ := htxn
  rw [hhost, HostSide.acks, HostSide.launch_lastSeq]

/-- The w0 of an `RSPX` that answers code `c` with `CSEQ` 0, no error and one result word. -/
def oneResult (c : Byte) : Word := BitVec.ofNat 32 (c.toNat * 2 ^ 24 + 2 ^ 16)

theorem oneResult_fields (c : Byte) :
    fieldOf (oneResult c) 24 8 = c.toNat ∧ fieldOf (oneResult c) 16 8 = 1 ∧ fieldOf (oneResult c) 0 4 = 0 := by
  have hc := c.isLt
  simp only [fieldOf, oneResult, BitVec.toNat_ofNat, Nat.shiftRight_eq_div_pow]
  omega

/-- The host side after reset, with a line that waits for the `RSPX` of a `SNAP`. -/
def waitsForSnap : State := { State.reset with h := State.reset.h.lineWaits (.field .snap 0#4 0) }

/-- Refutes O42: its clause on `RSPX` leaves the count of result words in w0 open; where w0 states one and none comes, the transaction is
malformed, and the host side answers `NAK` and takes nothing. -/
theorem not_fieldStreamIsTaken : ¬ Obligations.FieldStreamIsTaken := by
  rintro ⟨-, -, -, -, -, hrspx, -⟩
  obtain ⟨hcode, hcount, hseq⟩ := oneResult_fields (Config.cmdxCode 2)
  obtain ⟨t, hexec, htxn⟩ :=
    hrspx waitsForSnap State.reset.h 0#4 0#4 0 _ (oneResult (Config.cmdxCode 2)) rfl rfl rfl (by decide) hcode hseq rfl
  have hbad : exec (.rspxReceive 0#4 (oneResult (Config.cmdxCode 2)) []) waitsForSnap =
      .next (waitsForSnap.malformed .rspx 0#4) := by
    simp only [exec, execRspxReceive, hcount]
    rfl
  have htaken : (waitsForSnap.malformed .rspx 0#4).h.bar.lastSeq = some 0#4 := by
    rw [Host.Outcome.next.inj (hbad.symm.trans hexec)]
    exact htxn.lastSeq
  rw [State.malformed_lastSeq] at htaken
  cases htaken

end Sys2Proof.Machine
end

section
/-! The UART's breaks, rates and responses (15_command_line.md sections 1, 3 and 9): what a notice or a prompt adds in human mode, and what
ATTN leaves of the UART and of the lines. -/

namespace Sys2Proof.Machine

/-! ### Notices and prompts in human mode -/

theorem HostSide.notice_human (h : HostSide) (t : Text) (hmode : h.sendMode = .human) (hbuf : h.uart.buf = []) :
    h.notice t = h.adds .notice [t] := by
  simp only [HostSide.notice, hmode, hbuf, ne_eq, not_true, if_false, if_true]
  rfl

theorem HostSide.sendMode_uart (h : HostSide) (u : Uart) (hu : u.mode = h.uart.mode) :
    HostSide.sendMode { h with uart := u } = h.sendMode := by
  simp only [HostSide.sendMode, hu]

/-- A notice in human mode where only the UART has changed, and holds no partial line. -/
theorem HostSide.notice_uart (h : HostSide) (u : Uart) (t : Text) (hmode : h.sendMode = .human) (hu : u.mode = h.uart.mode)
    (hbuf : u.buf = []) : HostSide.notice { h with uart := u } t = HostSide.adds { h with uart := u } .notice [t] :=
  HostSide.notice_human _ t ((h.sendMode_uart u hu).trans hmode) hbuf

theorem HostSide.notice_machine (h : HostSide) (t : Text) (hmode : h.sendMode ≠ .human) : h.notice t = h := if_pos hmode

theorem HostSide.prompt_human (h : HostSide) (hmode : h.sendMode = .human) : h.prompt = h.adds .prompt [txt "> "] := if_pos hmode

/-- What no response follows leaves the mode in which the next one is sent. -/
theorem HostSide.adds_sendMode (h : HostSide) (k : TxKind) (ls : List Text) : (h.adds k ls).sendMode = h.sendMode := by
  simp [HostSide.sendMode, HostSide.adds, TxAfter.none]

/-! ### ATTN and the bits that raise it (R620, R625) -/

theorem HostSide.notice_latched (h : HostSide) (t : Text) : (h.notice t).latched = h.latched ∧ (h.notice t).attnSrc = h.attnSrc := by
  unfold HostSide.notice
  split <;> exact ⟨rfl, rfl⟩

theorem HostSide.attn_latched (h : HostSide) (n : Nat) :
    (h.attn n).latched = withBit h.latched sbAttn true ∧ (h.attn n).attnSrc = h.attnSrc ||| (1#4 <<< n) := by
  unfold HostSide.attn
  dsimp only
  split
  · exact ⟨rfl, rfl⟩
  · exact HostSide.notice_latched _ _

theorem HostSide.bit_attn (h : HostSide) (n j : Nat) : bitOf (h.attn n).latched j = if j = sbAttn then true else bitOf h.latched j := by
  rw [(h.attn_latched n).1, bitOf_withBit _ _ _ (by decide)]

/-- A bit that the host side sets reads as set, whether it raises ATTN or not. -/
theorem HostSide.bit_setBit (h : HostSide) {i : Nat} (hi : i < 32) : bitOf (h.setBit i).latched i = true := by
  have hset : bitOf (withBit h.latched i true) i = true := (bitOf_withBit _ _ _ hi).trans (if_pos rfl)
  unfold HostSide.setBit HostSide.masked
  split
  · exact hset
  · rw [HostSide.bit_attn, hset, ite_self]

/-- LINE_STUCK raises ATTN by its source 2, behind its notice. -/
theorem lineStuck_attn (h : HostSide) : let k := ((h.setBit sbLineStuck).notice (txt "!RX OFF")).attn 2
    JobsOnly h k ∧ bitOf k.latched sbLineStuck = true ∧ bitOf k.latched sbAttn = true ∧ k.attnSrc.getLsbD 2 = true := by
  have hjobs := ((h.setBit_jobsOnly sbLineStuck).trans (HostSide.notice_jobsOnly _ (txt "!RX OFF"))).trans (HostSide.attn_jobsOnly _ 2)
  refine ⟨hjobs, ?_, ?_, ?_⟩
  · rw [HostSide.bit_attn, if_neg (by decide), (HostSide.notice_latched _ _).1, h.bit_setBit (by decide)]
  · rw [HostSide.bit_attn, if_pos rfl]
  · rw [(HostSide.attn_latched _ 2).2, BitVec.getLsbD_or]
    simp

/-! ### The rows of the UART -/

/-- A step of the host side whose condition holds is what its operation leaves of the host side. -/
theorem State.hostStep (s : State) (i : Instr) {g : HostSide → HostSide} {c : Prop} [Decidable c] {k : HostSide}
    (hexec : exec i s = .next (if c then s.host g else s)) (hc : c) (hg : g s.h = k) :
    ∃ t, exec i s = .next t ∧ OnlyHost s t k :=
  ⟨_, hexec.trans (congrArg Host.Outcome.next (if_pos hc)), hg, rfl, rfl⟩

/-- The first response on TXD is sent: its mode and rate take effect (R531, R541). -/
theorem responseSent_first (s : State) (ls : List Text) (a : TxAfter) (rest : List TxItem) (htx : s.h.line.tx = ⟨.response, ls, a⟩ :: rest)
    (hfull : s.h.line.full = []) : exec .responseSent s = .next (s.host fun h =>
      let h := HostSide.takeAfter { h with uart := { h.uart with idle := 0 } } a
      { h with line := { h.line with tx := rest } }) := by
  have hfirst : s.h.line.tx.dropWhile (fun i => decide (i.kind ≠ .response)) = ⟨.response, ls, a⟩ :: rest := by
    rw [htx]
    rfl
  change execResponseSent s = _
  simp only [execResponseSent, hfirst, State.host, HostSide.takeAfter, hfull, List.map_nil, List.nil_append]

/-- Settles O49: each row's operation under the conditions of its clause; in human mode a notice and a prompt go to TXD. -/
theorem breaksRatesAndResponses : Obligations.BreaksRatesAndResponses := by
  refine ⟨fun s hrun hen hlow => ?_, fun s hrun hen hlow hbrk hmode => ?_, fun s hrun hlow hbrk => ?_, fun s hrun hen => ?_,
    fun s hrun hstuck hmode hbuf => ?_, fun s hrun hon hawake hidle => ?_, fun s b hnext hne => ?_,
    fun s b n hrun hprev hdue hbuf => ?_, fun s ls a rest htx hfull => ?_⟩
  · exact s.hostStep .uartBreak rfl (by simp [hrun, hen, hlow]) rfl
  · exact s.hostStep .breakEnd rfl (by simp [hrun, hlow]) ((if_pos (by simp [hen, hbrk])).trans (HostSide.prompt_human _ hmode))
  · exact s.hostStep .breakEnd rfl (by simp [hrun, hlow]) (if_neg (by simp [hbrk]))
  · obtain ⟨t, ht, hhost, hfield, hpend⟩ := s.hostStep .lineStuck rfl (by simp [hrun, hen]) rfl
    obtain ⟨hjobs, hstuck, hattn, hsrc⟩ := lineStuck_attn { s.h with uart := { s.h.uart.fresh with
      rxEn := false, rxLow := true, stuck := true, on := false, stuckN := satAdd s.h.uart.stuckN 1 } }
    refine ⟨t, ht, hfield, hpend, ?_⟩
    rw [hhost]
    exact ⟨congrArg HostSide.uart hjobs, hstuck, hattn, hsrc, congrArg (·.line.lines) hjobs, congrArg (·.line.cur) hjobs⟩
  · obtain ⟨t, ht, honly⟩ := s.hostStep .receiverReenable rfl (by simp [hrun, hstuck]) rfl
    refine ⟨t, _, ht, rfl, ?_⟩
    dsimp only at honly
    rw [s.h.notice_uart (hmode := hmode), HostSide.prompt_human] at honly
    · exact honly
    · exact (HostSide.adds_sendMode _ _ _).trans hmode
    · rfl
    · exact hbuf
  · exact s.hostStep .uartIdleOff rfl (by simp [hrun, hon, hawake, hidle]) rfl
  · have hexec : exec .baudSwitch s = .next (s.host fun h => { h with uart := { h.uart with
        baud := b, next := none, prev := if b = h.uart.baud then h.uart.prev else some (h.uart.baud, h.hf) } }) := by
      change execBaudSwitch s = _
      simp only [execBaudSwitch, hnext]
    refine ⟨_, hexec, ?_, rfl, rfl⟩
    rw [State.host_h, if_neg hne]
  · have hexec : exec .baudRevert s = .next (if s.h.run && decide (n + 640 ≤ s.h.hf) then
        s.host fun h => HostSide.notice { h with uart := { h.uart with baud := b, prev := none } } (txt "!BAUD " ++ decText b)
      else s) := by
      change execBaudRevert s = _
      simp only [execBaudRevert, hprev]
    obtain ⟨t, ht, honly⟩ := s.hostStep .baudRevert hexec (by simp [hrun, hdue]) rfl
    refine ⟨t, _, ht, rfl, ?_⟩
    split
    · next hmode =>
      rw [s.h.notice_uart (hmode := hmode)] at honly
      · exact honly
      · rfl
      · exact hbuf
    · next hmode =>
      rw [HostSide.notice_machine] at honly
      · exact honly
      · exact hmode
  · exact ⟨_, responseSent_first s ls a rest htx hfull, rfl, rfl, rfl⟩

end Sys2Proof.Machine
end

section
/-! Commands that need the field side while `LINK` is clear (R142, R581): each of their accesses fails with ERR 60, and the line ends. -/

namespace Sys2Proof.Machine

/-! ### A command that fails -/

/-- After its one command has failed, the line has named no group and waits for nothing. -/
theorem Lx.runRest_failed (s : State) (i : Instr) (place : Nat) (e : Nat)
    (hrun : runCmd i (s.lineOf i place) = (s.lineOf i place).fail e) :
    Lx.runRest [.cmd i] ⟨(s.lineOf i place).s, (ownLine i).cur place⟩ =
      ⟨(s.lineOf i place).s, { lineCur place with err := some (e, none) }⟩ := by
  have hcmd : Lx.command ⟨(s.lineOf i place).s, { (ownLine i).cur place with rest := [], k := ((ownLine i).cur place).k + 1 }⟩
      (.cmd i) = (s.lineOf i place).fail e := hrun
  rw [Lx.runRest, hcmd]
  rfl

/-- A line of one command that fails at once answers its error and leaves the rest of the state. -/
theorem State.startLine_failed (s : State) (i : Instr) (place : Nat) (e : Nat) (hc : s.h.line.cur = none)
    (hrun : runCmd i (s.lineOf i place) = (s.lineOf i place).fail e) :
    s.startLine (ownLine i) place = s.host (sent · [errLine e none]) := by
  have hdone : (sent s.h [errLine e none]).lineDone = sent s.h [errLine e none] := HostSide.lineDone_of_none hc
  rw [s.startLine_own i place, ← s.lineOf_s i place, Lx.runRest_failed s i place e hrun, State.host, ← hdone]
  simp only [Lx.settle, lineCur, oneLine, Option.isSome_none, Bool.false_eq_true, if_false, Lx.finish, HostSide.putRegs, List.foldl_nil,
    HostSide.answer, LineSt.cached, Cur.response, Cur.failure, List.nil_append, TxAfter.none, Bool.or_false]
  rfl

/-- A text command of its own that fails at once. -/
theorem State.fails_only (s : State) (i : Instr) (e : Nat) (hs : HostIdle s) (hexec : exec i s = .next (s.textCmd i))
    (hrun : runCmd i (s.lineOf i 0) = (s.lineOf i 0).fail e) : ∃ t, exec i s = .next t ∧ OnlyHost s t (sent s.h [errLine e none]) := by
  refine ⟨_, hexec, ?_⟩
  rw [s.textCmd_idle i hs, s.startLine_failed i 0 e hs.2.1 hrun]
  exact ⟨s.host_h _, s.host_f _, s.host_pending _⟩

/-! ### Accesses while `LINK` is clear -/

/-- The line's next access fails with ERR 60: `LINK` is clear, no answer is at hand, no snapshot was taken. -/
structure Lx.CutOff (l : Lx) : Prop where
  link : l.s.h.bar.link = false
  ans : l.c.ans[l.c.used]? = none
  snap : l.c.snap = none

theorem Lx.CutOff.down {l : Lx} (hl : l.CutOff) : (!l.s.h.bar.link) = true := by simp [hl.link]

theorem Lx.CutOff.access {l : Lx} (hl : l.CutOff) (x : Acc) : l.access x = (l, some (60, 0#32)) := by
  simp [Lx.access, hl.ans, hl.link]

theorem Lx.CutOff.readWord {l : Lx} (hl : l.CutOff) (a : Nat) : l.readWord a = l.fail 60 := by
  rw [Lx.readWord, hl.access]
  rfl

theorem Lx.CutOff.query {l : Lx} (hl : l.CutOff) (a : Nat) (as : List Nat) (g : Field → CmdRes) : l.query (a :: as) g = l.fail 60 := by
  rw [Lx.query, Lx.reads, hl.readWord]
  rfl

theorem Lx.CutOff.snapped {l : Lx} (hl : l.CutOff) (g : Lx → Lx × CmdRes) : l.snapped g = l.fail 60 := by
  simp only [Lx.snapped, hl.snap, Lx.readSet, hl.readWord]
  rfl

theorem Lx.CutOff.writeField {l : Lx} (hl : l.CutOff) (a : Nat) (w : Word) : l.writeField a w = l.fail 60 := by
  rw [Lx.writeField, Lx.send, hl.access]
  rfl

theorem State.lineOf_cutOff (s : State) (i : Instr) (hlink : s.h.bar.link = false) : (s.lineOf i 0).CutOff := ⟨hlink, rfl, rfl⟩

/-! ### The commands that need the field side -/

/-- A text command that fails with ERR 60 while `LINK` is clear. -/
def NeedsLink (i : Instr) : Prop := (∀ s, exec i s = .next (s.textCmd i)) ∧ ∀ l : Lx, l.CutOff → runCmd i l = l.fail 60

theorem NeedsLink.of {i : Instr} (cmd : Lx → Lx × CmdRes) (hexec : ∀ s, exec i s = .next (s.textCmd i)) (hcmd : runCmd i = cmd)
    (hfail : ∀ l : Lx, l.CutOff → cmd l = l.fail 60) : NeedsLink i :=
  ⟨hexec, fun l hl => hcmd ▸ hfail l hl⟩

theorem needsLink_of_fieldAnswer {s : State} {i : Instr} (hi : i ≠ .testQuery) (h : (fieldAnswer s i).isSome) : NeedsLink i := by
  cases i with
  | testQuery => exact absurd rfl hi
  | telQuery g =>
    cases g with
    | none => cases h
    | some g =>
      refine ⟨fun _ => rfl, fun l hl => ?_⟩
      have hg : telField g = true ∧ telBad g = false := by
        simpa [fieldAnswer] using h
      exact (if_neg (by simp [hg.2])).trans (if_pos (by simp [hg.1, hl.link]))
  | timeQuery => exact .of cmdTimeQuery (fun _ => rfl) rfl fun l hl => hl.snapped _
  | stampQuery => exact .of cmdStamp (fun _ => rfl) rfl fun l hl => hl.snapped _
  | localQuery => exact .of cmdLocalQuery (fun _ => rfl) rfl fun l hl => hl.query _ _ _
  | refQuery => exact .of cmdRefQuery (fun _ => rfl) rfl fun l hl => hl.query _ _ _
  | rateQuery => exact .of cmdRate (fun _ => rfl) rfl fun l hl => hl.query _ _ _
  | trimQuery => exact .of cmdTrimQuery (fun _ => rfl) rfl fun l hl => hl.query _ _ _
  | rateEnQuery => exact .of cmdRateEnQuery (fun _ => rfl) rfl fun l hl => hl.query _ _ _
  | ponQuery => exact .of cmdPonQuery (fun _ => rfl) rfl fun l hl => hl.query _ _ _
  | jQuery => exact .of cmdJ (fun _ => rfl) rfl fun l hl => hl.query _ _ _
  | sealQuery => exact .of cmdSealQuery (fun _ => rfl) rfl fun l hl => hl.query _ _ _
  | calQuery => exact .of cmdCal (fun _ => rfl) rfl fun l hl => hl.query _ _ _
  | calSaveQuery => exact .of cmdCalSave (fun _ => rfl) rfl fun l hl => hl.query _ _ _
  | supQuery => exact .of cmdSup (fun _ => rfl) rfl fun l hl => hl.query _ _ _
  | refSetQuery | alQuery | perQuery | evCfgQuery => exact ⟨fun _ => rfl, fun l hl => if_pos hl.down⟩
  | _ => cases h

theorem needsLink_of_settingWrites {s : State} {i : Instr} (h : (settingWrites s i).isSome) : NeedsLink i := by
  cases i with
  | ponRel o => exact .of (cmdPonRel o) (fun _ => rfl) rfl fun l hl => hl.writeField _ _
  | jPolicy wrap => exact .of (cmdJPolicy wrap) (fun _ => rfl) rfl fun l hl => hl.writeField _ _
  | refSet | trim | rateEn | perEvt | ticker | perTh | keep | evCfg | evOff | tPlan | tOfs | tLead | supVsw | supBatlow | batPlan =>
    exact ⟨fun _ => rfl, fun l hl => if_pos hl.down⟩
  | _ => cases h

theorem needsLink_of_fieldCmdOf {s : State} {i : Instr} (h : (fieldCmdOf s i).isSome) : NeedsLink i := by
  cases i with
  | evQuery | tQuery | tSnap | tripOpen | tripClose | keepSave | keepLoad | note | sealKey | calLoad | calLoadGo | calCommit | jExport
  | jVerify | jErase | test | testForce =>
    exact ⟨fun _ => rfl, fun l hl => if_pos hl.down⟩
  | calRun item k =>
    cases item with
    | none => cases h
    | some item =>
      cases item with
      | tdc | adc | xl | bar => exact ⟨fun _ => rfl, fun l hl => if_pos hl.down⟩
      | iq | pa | ltab | synth => cases h
  | _ => cases h

/-- Settles O14: each of these commands fails with ERR 60 at its first access or before (`NeedsLink`), and `State.fails_only` is its
line. -/
theorem barrierDownAnswers60 : Obligations.BarrierDownAnswers60 := by
  intro s i hs hlink hi hneeds
  have hcut := s.lineOf_cutOff i hlink
  obtain ⟨hexec, hrun⟩ : NeedsLink i := by
    rcases hneeds with h | h | h
    · exact needsLink_of_fieldAnswer hi h
    · exact needsLink_of_settingWrites h
    · exact needsLink_of_fieldCmdOf h
  exact s.fails_only i 60 hs (hexec s) (hrun _ hcut)

end Sys2Proof.Machine
end

section
/-! Repeats and damage on the lanes (R104, R105, R110, R113 to R115): a transaction that arrives again has its answer again, a damaged one
is dropped or refused. -/

namespace Sys2Proof.Machine

@[simp] theorem HostSide.msgDomains_bar (h : HostSide) : h.msgDomains.bar = h.bar := by simp only [HostSide.msgDomains, HostSide.domain]

/-! ### Repeats -/

/-- A field end that is ready answers a repeated transaction again, and counts it (R115). -/
theorem Field.accept_again (f : Field) (seq : BitVec 4) (a : Txn) (run : Field → Field × Txn) (hready : f.barReady = true)
    (htick : f.bar.sendTick = true) (hseq : f.bar.lastSeq = some seq) (hans : f.bar.lastAns = some a) :
    f.accept seq run = { f with bar := { f.bar with dupF := satAdd f.bar.dupF 1, lane := f.bar.lane ++ [a] } } := by
  simp [Field.accept, Field.hear, Field.answer, htick, hready, hseq, hans]

theorem Field.barReady_of_ready {s : State} (hs : FieldReady s) : s.f.barReady = true := by
  obtain ⟨⟨hrun, -⟩, hres, hframes, -⟩ := hs
  simp [Field.barReady, hrun, hres, hframes]

/-- A repeated transaction of the host stream does nothing else, whatever it would do the first time. -/
theorem State.toField_again (s : State) (ty : MsgType) (seq : BitVec 4) (run : Field → Field × Txn) (a : Txn) (hs : FieldReady s)
    (hseq : s.f.bar.lastSeq = some seq) (hans : s.f.bar.lastAns = some a) :
    (s.toField ty seq run).h = s.h.gone ty seq ∧ (s.toField ty seq run).f =
      { s.f with bar := { s.f.bar with dupF := satAdd s.f.bar.dupF 1, lane := s.f.bar.lane ++ [a] } } := by
  have hacc := s.f.accept_again seq a run (Field.barReady_of_ready hs) hs.2.2.2 hseq hans
  simp only [State.toField, State.host_f, hs.1.1, if_true, hacc]
  rw [State.withField_quiet]
  · exact ⟨rfl, rfl⟩
  · exact hs.1.2

/-- A message of the F→H lane at a host side that runs. -/
theorem State.atHost_running (s : State) (ty : MsgType) (seq : BitVec 4) (run : State → State) (hrun : s.h.run = true) :
    s.atHost ty seq run = run ({ s with f := s.f.took ty seq }.host HostSide.msgDomains) := if_pos hrun

/-- A repeated transaction of the field stream has its answer again, and is counted. -/
theorem State.toHost_again (s : State) (ty : MsgType) (seq : BitVec 4) (run : State → State) (a : Txn) (hrun : s.h.run = true)
    (hseq : s.h.bar.lastSeq = some seq) (hans : s.h.bar.lastAns = some a) :
    s.toHost ty seq run = ⟨s.f.took ty seq,
      HostSide.launch { s.h.msgDomains with bar := { s.h.bar with dupH := satAdd s.h.bar.dupH 1 } } a, s.pending⟩ := by
  rw [State.toHost, s.atHost_running ty seq _ hrun]
  simp only [State.host, HostSide.msgDomains_bar, hseq, if_true, hans]

/-! ### Messages that are refused -/

/-- A field end that is ready answers what it discards with a `NAK`; the host side's lane domains are on for it. -/
theorem State.discarded_field (s : State) (a : Txn) (hs : FieldReady s) :
    s.discarded .hf a = ⟨s.f.answer a, s.h.msgDomains, s.pending⟩ := by
  have hready := Field.barReady_of_ready hs
  obtain ⟨⟨hrun, hjob⟩, -, -, htick⟩ := hs
  have hhear : s.f.hear = s.f := if_pos htick
  have hanswer : (s.f.answer a).jobEv = [] := hjob
  simp only [State.discarded, hrun, hhear, hready, Bool.not_true, Bool.false_eq_true, if_false, if_true,
    State.withField_quiet _ _ hanswer, State.host]

/-- A host side that runs answers what it discards with a `NAK`. -/
theorem State.discarded_host (s : State) (a : Txn) (hrun : s.h.run = true) :
    s.discarded .fh a = s.host fun h => h.msgDomains.launch a := if_pos hrun

/-! ### Messages that are dropped -/

/-- The host side counts a message whose CRC fails. -/
theorem messageCrcFail_host (s : State) (hrun : s.h.run = true) : ∃ t, exec (.messageCrcFail .fh) s = .next t ∧
    t.f = { s.f with bar := { s.f.bar with lane := s.f.bar.lane.drop 1 } } ∧
    t.h = { s.h.msgDomains with bar := { s.h.bar with crcFH := satAdd s.h.bar.crcFH 1, crcf := min (s.h.bar.crcf + 1) 255 } } := by
  refine ⟨_, rfl, ?_⟩
  simp only [hrun, if_true]
  exact ⟨rfl, rfl⟩

/-- The field side counts a message whose CRC fails, but for an `IDLE` (R130). -/
theorem messageCrcFail_field (s : State) (hs : FieldUp s) : ∃ t, exec (.messageCrcFail .hf) s = .next t ∧
    t.h = { s.h.msgDomains with bar := { s.h.bar with lane := s.h.bar.lane.drop 1 } } ∧
    ((s.h.bar.lane.head?.map (·.ty)) ≠ some .idle →
      t.f = { s.f with bar := { s.f.bar with crcHF := satAdd s.f.bar.crcHF 1 } }) ∧
    ((s.h.bar.lane.head?.map (·.ty)) = some .idle → t.f = s.f) := by
  refine ⟨_, rfl, ?_⟩
  cases hlane : s.h.bar.lane with
  | nil => simp [State.host, hs.1, hlane]
  | cons t ts => by_cases ht : t.ty = .idle <;> simp [State.host, hs.1, ht, hlane]

/-- A transaction that is not complete in time is discarded whole (R110). -/
theorem transactionWordLate_discards (s : State) (c q : BitVec 4) :
    (∃ lane, exec (.transactionWordLate .fh c q) s = .next (State.discarded { s with f := { s.f with bar := { s.f.bar with lane := lane } } }
      .fh (nakCode c q 2))) ∧
    ∃ lane, exec (.transactionWordLate .hf c q) s = .next ((s.host fun h => { h with bar := { h.bar with lane := lane } }).discarded
      .hf (nakCode c q 2)) := ⟨⟨_, rfl⟩, ⟨_, rfl⟩⟩

/-- Settles O41: `State.toField_again` and `State.toHost_again` for what arrives again, `messageCrcFail_host` and `messageCrcFail_field` for
what is dropped, `State.discarded_field` and `State.discarded_host` for what is refused. -/
theorem repeatsAndDamageAreAnswered : Obligations.RepeatsAndDamageAreAnswered := by
  refine ⟨⟨fun s q w0 c a hs hseq hans => ⟨_, rfl, s.toField_again .cmdx q _ a hs hseq hans⟩,
      fun s q w0 w1 w2 w3 w4 a hs hseq hans => ⟨_, rfl, s.toField_again .mark q _ a hs hseq hans⟩,
      fun s q w0 w1 w2 a hrun hseq hans => ?_⟩,
    messageCrcFail_host, messageCrcFail_field, fun s c q hs => ?_, fun s c q hrun => ⟨?_, ?_⟩, fun s c q hs => ?_⟩
  · exact ⟨_, congrArg Host.Outcome.next (s.toHost_again .evt q _ a hrun hseq hans), rfl, rfl⟩
  · exact ⟨_, congrArg Host.Outcome.next (s.discarded_field (nakCode c q 1) hs), rfl, rfl, rfl⟩
  · exact ⟨_, congrArg Host.Outcome.next (s.discarded_host (nakCode c q 1) hrun), rfl, rfl, rfl⟩
  · obtain ⟨⟨lane, hexec⟩, -⟩ := transactionWordLate_discards s c q
    exact ⟨_, hexec.trans (congrArg Host.Outcome.next (State.discarded_host _ (nakCode c q 2) hrun)), rfl, rfl⟩
  · obtain ⟨-, lane, hexec⟩ := transactionWordLate_discards s c q
    exact ⟨_, hexec.trans (congrArg Host.Outcome.next (State.discarded_field _ (nakCode c q 2) hs)), rfl, rfl⟩

end Sys2Proof.Machine
end

section
/-! The last transaction of a line when it fails, and the end of a link (R118, R119, R122, R142): what the statements of these leave open. -/

namespace Sys2Proof.Machine

/-! ### A register read that fails while a training runs (R146) -/

theorem HostSide.pumpNext_empty (h : HostSide) (hq : h.bar.queue = []) :
    h.pumpNext = { h with bar := { h.bar with unans := none } } := by
  simp [HostSide.pumpNext, HostSide.pump, hq, takeNext]

/-- A register read that fails while a training runs is taken for the training's own: the training fails, and no line hears of it. -/
theorem State.hostTxnFails_training (s : State) (t : Txn) (e : Nat) (hty : t.ty = .regrd) (htrain : s.h.bar.train.isSome = true) :
    s.hostTxnFails t e = s.host fun h => { h with bar := h.bar.trainFails } := by
  simp only [State.hostTxnFails, hty, htrain, if_true]

/-- After the last retry of the host stream, its transaction fails with ERR 61 while `LINK` is set (R119). -/
theorem answerTimeout_fails (s : State) (u : Unans) (hrun : s.h.run = true) (hlink : s.h.bar.link = true) (hu : s.h.bar.unans = some u)
    (hretries : 3 ≤ u.retries) (hhold : u.hold = false) :
    exec (.answerTimeout .host) s = .next ((s.host HostSide.pumpNext).hostTxnFails u.txn 61) := by
  have hmax : ¬ u.retries < 3 := Nat.not_lt.mpr hretries
  change execAnswerTimeout .host s = _
  simp only [execAnswerTimeout, State.hostRetry, hu, hrun, hhold, hmax, hlink, Bool.not_false, Bool.and_true, if_true, if_false]

/-- A command error ends its transaction with it (R118). -/
theorem nakReceive_fails (s : State) (q y : BitVec 4) (r : Byte) (u : Unans) (hrun : s.h.run = true) (hu : s.h.bar.unans = some u)
    (hseq : u.txn.seq = q) (hty : typeCode u.txn.ty = y.toNat) (hr : 10 ≤ r.toNat) : exec (.nakReceive .fh q y r) s =
      .next (((State.host { s with f := s.f.took .nak q } HostSide.msgDomains).host HostSide.pumpNext).hostTxnFails u.txn r.toNat) := by
  have hact (free : BitVec 32) : nakAct r.toNat free = .final r.toNat := by
    simp [nakAct, hr, show r.toNat ≠ 1 by omega, show r.toNat ≠ 2 by omega, show r.toNat ≠ 3 by omega]
  have hopen : nakOpen r.toNat = false := by simp [nakOpen, hr]
  have hmatch : matches' s.h.bar.unans q y.toNat = some u := by simp [matches', hu, hseq, hty]
  change execNakReceive .fh q y r s = _
  simp only [execNakReceive, s.atHost_running .nak q _ hrun, State.host_h, HostSide.msgDomains_bar, hmatch, hact, hopen, Bool.false_eq_true,
    if_false]

/-- The host side after reset, but with `LINK` set and a training under way, and a read of `J_CFG` on its last retry. -/
def readInTraining : HostSide :=
  { State.reset.h with bar := { State.reset.h.bar with
    link := true, train := some ⟨1, 0#4, [], none, none, none⟩, queue := [],
    unans := some ⟨⟨.regrd, 5#4, [regWord 0 0x1600], none⟩, 3, false, false⟩ } }

/-- A line waits for that read. -/
def asksInTraining : State :=
  { State.reset with h := readInTraining.lineAsks (.registerRead 0x1600#16 1) (.read (0x1600#16).toNat) }

theorem asksInTraining_mapped : asksInTraining.mapped (0x1600#16).toNat = true := by
  rw [State.mapped, if_pos (by decide), Field.regValue_isSome]
  decide +kernel

/-- When that read fails, its line goes on waiting. -/
theorem asksInTraining_waits (e : Nat) (s : State) (hs : s.h.line = asksInTraining.h.line) (hbar : s.h.bar = asksInTraining.h.bar) :
    ((s.host HostSide.pumpNext).hostTxnFails ⟨.regrd, 5#4, [regWord 0 0x1600], none⟩ e).h.line.cur.isSome = true := by
  have hpump := s.h.pumpNext_empty (congrArg HBar.queue hbar)
  have htrain : s.h.pumpNext.bar.train.isSome = true := by rw [hpump, hbar]; rfl
  have hline : s.h.pumpNext.line = s.h.line := by rw [hpump]
  rw [State.hostTxnFails_training _ _ _ rfl htrain]
  exact congrArg (·.cur.isSome) (hline.trans hs)

/-- Refutes O43: its last clause lets a training run while `LINK` is set, where a register read that is refused ends the training and
not the line that asked (`State.hostTxnFails_training`). -/
theorem not_answersEndTransactions : ¬ Obligations.AnswersEndTransactions := by
  rintro ⟨-, -, -, -, -, hread⟩
  obtain ⟨-, hnak⟩ := hread asksInTraining readInTraining 5#4 0x1600#16 0#32 20#8 _ rfl rfl rfl rfl (by decide) asksInTraining_mapped
    (by decide) (by decide) rfl rfl rfl
  obtain ⟨t, hexec, -, hhost⟩ := hnak (by decide)
  have hfails := nakReceive_fails asksInTraining 5#4 6#4 20#8 _ rfl rfl rfl rfl (by decide)
  have hwaits := asksInTraining_waits 20 (State.host { asksInTraining with f := asksInTraining.f.took .nak 5#4 } HostSide.msgDomains)
    (by simp only [State.host, HostSide.msgDomains, HostSide.domain]) (HostSide.msgDomains_bar _)
  have ht := Host.Outcome.next.inj (hexec.symm.trans hfails)
  have hcur : t.h.line.cur.isSome = true := by rw [ht]; exact hwaits
  rw [hhost] at hcur
  cases hcur

/-- Refutes O46: its clause on a register read lets a training run while `LINK` is set, where the last timeout of the read ends the
training and not the line that asked (`State.hostTxnFails_training`). -/
theorem not_timeoutsRetryThenFail : ¬ Obligations.TimeoutsRetryThenFail := by
  rintro ⟨-, -, hread, -⟩
  obtain ⟨t, hexec, hhost, -⟩ := hread asksInTraining readInTraining 5#4 0x1600#16 _ rfl rfl rfl rfl (by decide) asksInTraining_mapped
    (by decide) rfl rfl rfl (by decide) rfl
  have hfails := answerTimeout_fails asksInTraining _ rfl rfl rfl (by decide) rfl
  have hwaits := asksInTraining_waits 61 asksInTraining rfl rfl
  have ht := Host.Outcome.next.inj (hexec.symm.trans hfails)
  have hcur : t.h.line.cur.isSome = true := by rw [ht]; exact hwaits
  rw [hhost] at hcur
  cases hcur

/-! ### A line that goes on at the end of the link (R142) -/

/-- A line of which the `W` that clears `LINK_LOST` is left, and which waits for an access. -/
def clearsLater : Cur := { oneLine with rest := [.cmd (.registerWrite 0x0068#16 0xFFFF#32)], wait := some (.access (.read 0x1000)) }

/-- The state after reset, but with `LINK` set and that line under way. -/
def clearsLinkLost : State :=
  { State.reset with h := { State.reset.h with
    bar := { State.reset.h.bar with link := true }, line := { State.reset.h.line with cur := some clearsLater } } }

/-- The loss of the link is counted, and `LINK` clears (R142, R152). -/
theorem linkLoss_due (s : State) (hrun : s.h.run = true) (hlink : s.h.bar.link = true) (hsince : 4 ≤ s.h.bar.since.toNat) :
    exec .linkLoss s =
      .next (s.host fun h => { h with bar := { h.bar with linkLost := satAdd h.bar.linkLost 1 } }).linkDown := by
  change execLinkLoss s = _
  simp only [execLinkLoss, hrun, hlink, hsince, decide_true, Bool.and_self, if_true]

/-- Refutes O45: its second clause lets any line wait; one whose access fails with ERR 60 goes on with the command that is left, and a
`W` of the register of `LINK_LOST` clears the count (R708). -/
theorem not_linkEnds : ¬ Obligations.LinkEnds := by
  rintro ⟨-, hloss, -⟩
  obtain ⟨t, hexec, -, -, hcount, -⟩ := hloss clearsLinkLost rfl rfl (by decide)
  have hdown := linkLoss_due clearsLinkLost rfl rfl (by decide)
  rw [Host.Outcome.next.inj (hexec.symm.trans hdown)] at hcount
  revert hcount
  decide +kernel

end Sys2Proof.Machine
end

section
/-! The host side while `LINK` is clear (R142, R633): no job of it needs the field side, nothing is sent. -/

namespace Sys2Proof.Machine

/-! ### What the loss leaves -/

/-- The job in slot `k` is live and needs the field side. -/
def HostSide.fieldJob (h : HostSide) (k : Nat) : Prop := (h.jobOf k).live = true ∧ (h.jobOf k).linkErr ≠ none

/-- What the loss of the link decides: the link, the host stream, the field word of the loss (R142, R149). -/
def HostSide.linkPart (h : HostSide) : Bool × Option Unans × List Txn × Word := (h.bar.link, h.bar.unans, h.bar.queue, h.fstLoss)

/-- `LINK` is clear: the host stream is empty, the field word at the loss was `w`, no live job needs the field side. -/
def HostSide.Lost (w : Word) (h : HostSide) : Prop := h.linkPart = (false, none, [], w) ∧ ∀ k, ¬ h.fieldJob k

theorem HostSide.Lost.of_jobs {w : Word} {h k : HostSide} (a : h.Lost w) (hp : k.linkPart = h.linkPart)
    (hj : ∀ n, k.fieldJob n → h.fieldJob n) : k.Lost w := ⟨hp.trans a.1, fun n hn => a.2 n (hj n hn)⟩

theorem HostSide.Lost.same {w : Word} {h k : HostSide} (a : h.Lost w) (hp : k.linkPart = h.linkPart) (hj : k.jobs = h.jobs) : k.Lost w := by
  refine a.of_jobs hp fun n hn => ?_
  simpa only [HostSide.fieldJob, HostSide.jobOf, hj] using hn

theorem HostSide.Lost.ite {w : Word} {h k : HostSide} {c : Prop} [Decidable c] (a : h.Lost w) (b : k.Lost w) :
    (if c then h else k).Lost w := by
  split
  · exact a
  · exact b

/-! ### Jobs -/

theorem JobsOnly.linkPart {h t : HostSide} (a : JobsOnly h t) : t.linkPart = h.linkPart := by
  rw [a]
  rfl

theorem HostSide.notice_jobs (h : HostSide) (t : Text) : (h.notice t).jobs = h.jobs := by
  unfold HostSide.notice
  split <;> rfl

theorem HostSide.attn_jobs (h : HostSide) (n : Nat) : (h.attn n).jobs = h.jobs := by
  unfold HostSide.attn
  dsimp only
  split
  · rfl
  · exact HostSide.notice_jobs _ _

theorem HostSide.setBit_jobs (h : HostSide) (i : Nat) : (h.setBit i).jobs = h.jobs := by
  unfold HostSide.setBit HostSide.masked
  split
  · rfl
  · exact HostSide.attn_jobs _ _

theorem HostSide.fieldJob_of_jobs {h k : HostSide} (hj : k.jobs = h.jobs) (n : Nat) : k.fieldJob n ↔ h.fieldJob n := by
  simp only [HostSide.fieldJob, HostSide.jobOf, hj]

theorem HostSide.jobOf_putJob (h : HostSide) (i : Nat) (g : Job → Job) {j : Job} (hj : h.jobs[i]? = some j) (k : Nat) :
    (h.putJob i g).jobOf k = if i = k then g j else h.jobOf k := by
  obtain ⟨hi, rfl⟩ := Vector.getElem?_eq_some_iff.mp hj
  by_cases hk : i = k
  · subst hk
    simp [HostSide.putJob, HostSide.jobOf, hi]
  · simp [HostSide.putJob, HostSide.jobOf, hj, hk]

/-- An update of a job after which it needs the field side only if it did before. -/
theorem HostSide.Lost.putJob {w : Word} {h : HostSide} (a : h.Lost w) (i : Nat) (g : Job → Job)
    (hg : ∀ j, (g j).live = true → (g j).linkErr ≠ none → j.live = true ∧ j.linkErr ≠ none) : (h.putJob i g).Lost w := by
  refine a.of_jobs (h.putJob_jobsOnly i g).linkPart fun k hk => ?_
  cases hj : h.jobs[i]? with
  | none => simpa only [HostSide.putJob, hj] using hk
  | some j =>
    rw [HostSide.fieldJob, h.jobOf_putJob i g hj k] at hk
    split at hk
    · next hik =>
      have hjob : h.jobOf k = j := by rw [← hik, HostSide.jobOf, hj]; rfl
      rw [HostSide.fieldJob, hjob]
      exact hg j hk.1 hk.2
    · exact hk

/-- A job that has ended needs nothing, and the others need what they did (R631). -/
theorem HostSide.endJob_fieldJob (h : HostSide) (i st e : Nat) (hst : 3 ≤ st) (k : Nat) (hk : (h.endJob i st e).fieldJob k) :
    k ≠ i ∧ h.fieldJob k := by
  have hidle : ¬ idleJob.live = true := Bool.false_ne_true
  cases hj : h.jobs[i]? with
  | none =>
    simp only [HostSide.endJob, hj] at hk
    refine ⟨?_, hk⟩
    rintro rfl
    exact hidle (by simpa [HostSide.jobOf, hj] using hk.1)
  | some j =>
    simp only [HostSide.endJob, hj] at hk
    split at hk
    · next hdead =>
      refine ⟨?_, hk⟩
      rintro rfl
      simp [HostSide.fieldJob, HostSide.jobOf, hj, (Bool.not_eq_true' _).mp hdead] at hk
    · rw [HostSide.fieldJob_of_jobs (HostSide.setBit_jobs _ _), HostSide.fieldJob, h.jobOf_putJob i _ hj k] at hk
      split at hk
      · have hended : ¬ (st = 1 ∨ st = 2) := by omega
        simp [Job.live, hended] at hk
      · next hik => exact ⟨Ne.symm hik, hk⟩

theorem HostSide.Lost.endJob {w : Word} {h : HostSide} (a : h.Lost w) (i st e : Nat) (hst : 3 ≤ st) : (h.endJob i st e).Lost w :=
  a.of_jobs (h.endJob_jobsOnly i st e).linkPart fun k hk => (h.endJob_fieldJob i st e hst k hk).2

/-! ### The loss -/

/-- One step of `HostSide.failFieldJobs`. -/
def HostSide.failJob (h : HostSide) (i : Nat) : HostSide :=
  match (h.jobOf i).linkErr with
  | some e => h.endJob i 5 e
  | none => h

theorem HostSide.failJob_fieldJob (h : HostSide) (i k : Nat) (hk : (h.failJob i).fieldJob k) : k ≠ i ∧ h.fieldJob k := by
  unfold HostSide.failJob at hk
  split at hk
  · exact h.endJob_fieldJob i 5 _ (by decide) k hk
  · next hnone =>
    refine ⟨?_, hk⟩
    rintro rfl
    exact hk.2 hnone

theorem HostSide.failJobs_fieldJob (is : List Nat) (h : HostSide) (k : Nat) (hk : (is.foldl HostSide.failJob h).fieldJob k) :
    k ∉ is ∧ h.fieldJob k := by
  induction is generalizing h with
  | nil => exact ⟨by simp, hk⟩
  | cons i is ih =>
    obtain ⟨hmem, hstep⟩ := ih (h.failJob i) hk
    obtain ⟨hne, hh⟩ := h.failJob_fieldJob i k hstep
    exact ⟨by simp [hne, hmem], hh⟩

theorem HostSide.failFieldJobs_jobsOnly (h : HostSide) : JobsOnly h h.failFieldJobs := by
  refine JobsOnly.foldl _ (fun h i => ?_) _ h
  split
  · exact h.endJob_jobsOnly _ _ _
  · exact .refl h

/-- After the loss no live job needs the field side (R521, R633). -/
theorem HostSide.failFieldJobs_fieldJob (h : HostSide) (k : Nat) : ¬ h.failFieldJobs.fieldJob k := by
  intro hk
  obtain ⟨hmem, hlive, -⟩ := HostSide.failJobs_fieldJob (List.range 4) h k hk
  have hout : h.jobs[k]? = none := Vector.getElem?_eq_none (by simpa using hmem)
  rw [HostSide.jobOf, hout] at hlive
  cases hlive

end Sys2Proof.Machine
end

section
/-! What a command of the host side can change while `LINK` is clear: the radio and the registers leave the link and the jobs of the field
side as they are (18_radio.md, 20_register_map.md). -/

namespace Sys2Proof.Machine

/-! ### The radio -/

/-- From `h` to `k` the radio, its domains and the open values drawn have changed. -/
def HostSide.RadioOnly (h k : HostSide) : Prop := k = { h with radio := k.radio, domNow := k.domNow, freeCtr := k.freeCtr }

theorem HostSide.RadioOnly.refl (h : HostSide) : h.RadioOnly h := rfl

theorem HostSide.RadioOnly.trans {h k m : HostSide} (a : h.RadioOnly k) (b : k.RadioOnly m) : h.RadioOnly m := by
  unfold HostSide.RadioOnly at *
  rw [b, a]

theorem HostSide.Lost.radio {w : Word} {h k : HostSide} (a : h.Lost w) (hk : h.RadioOnly k) : k.Lost w := by
  rw [hk]
  exact a.same rfl rfl

theorem HostSide.rfTo_radio (h : HostSide) (r : Radio) (st : RfSt) : h.RadioOnly (HostSide.rfTo { h with radio := r } st) := rfl

theorem HostSide.rfDrop_radio (h : HostSide) : h.RadioOnly h.rfDrop := by
  unfold HostSide.rfDrop
  split <;> rfl

theorem HostSide.rfSleep_radio (h : HostSide) : h.RadioOnly h.rfSleep :=
  h.rfDrop_radio.trans (.trans (k := h.rfDrop.cxRelease) rfl (HostSide.rfTo_radio _ _ _))

theorem HostSide.rfDown_radio (h : HostSide) (st : RfSt) : h.RadioOnly (h.rfDown st) :=
  h.rfDrop_radio.trans (.trans (k := h.rfDrop.cxRelease) rfl (HostSide.rfTo_radio _ _ _))

theorem HostSide.rfWoken_radio (h : HostSide) : h.RadioOnly h.rfWoken := by
  unfold HostSide.rfWoken
  split <;> rfl

theorem HostSide.rfUp_radio (h : HostSide) (g : RfTarget) : h.RadioOnly (h.rfUp g) := by
  have hwoken : h.RadioOnly (HostSide.rfWoken { h with radio := { h.radio with goal := some g } }) :=
    .trans (k := { h with radio := { h.radio with goal := some g } }) rfl (HostSide.rfWoken_radio _)
  unfold HostSide.rfUp
  dsimp only
  split
  · exact hwoken
  · exact hwoken.trans rfl
  · exact hwoken.trans rfl
  · exact hwoken

theorem HostSide.rfEnterRx_radio (h : HostSide) : h.RadioOnly h.rfEnterRx.1 := by
  unfold HostSide.rfEnterRx
  dsimp only
  split
  · split <;> rfl
  · rfl

theorem HostSide.rfState_radio (h : HostSide) (g : RfTarget) : h.RadioOnly (h.rfState g).1 := by
  unfold HostSide.rfState
  dsimp only
  split
  · rfl
  · split
    · rfl
    · split
      · exact h.rfSleep_radio
      · exact h.rfUp_radio .idle
      · exact h.rfDown_radio .idle
      · rfl
      · exact h.rfDown_radio .stby
      · exact h.rfUp_radio .stby
      · rfl
      · exact (h.rfUp_radio .rx).trans (HostSide.rfEnterRx_radio _)
      · exact h.rfUp_radio .rx

theorem HostSide.rfTune_radio (h : HostSide) (x : Word) : h.RadioOnly (h.rfTune x) := by
  unfold HostSide.rfTune
  dsimp only
  split
  · rfl
  · split
    · rfl
    · exact .trans (k := HostSide.rfDrop { h with radio := { h.radio with ch := x } })
        (.trans (k := { h with radio := { h.radio with ch := x } }) rfl (HostSide.rfDrop_radio _)) (HostSide.rfTo_radio _ _ _)
    · rfl

theorem HostSide.setCx_radio (h : HostSide) (x : Word) : h.RadioOnly (h.setCx x) := by
  unfold HostSide.setCx
  dsimp only
  split <;> rfl

theorem HostSide.groupApply_radio (h : HostSide) (gid : Nat) : h.RadioOnly (h.groupApply gid).1 := by
  unfold HostSide.groupApply
  dsimp only
  split <;> rfl

theorem HostSide.txReturn_radio (h : HostSide) (t : TxPend) : h.RadioOnly (h.txReturn t) := by
  unfold HostSide.txReturn
  dsimp only
  split <;> rfl

/-- A transmission that is cancelled ends its job (R661, Table 18-6). -/
theorem HostSide.Lost.txCancelled {w : Word} {h : HostSide} (a : h.Lost w) (t : TxPend) (x : Option HStamp) :
    (h.txEnd t .cancelled x).Lost w := by
  have hresult : HostSide.Lost w { h with radio := h.radio.putResult t.id .cancelled x } := a.same rfl rfl
  unfold HostSide.txEnd
  extract_lets g
  have hg : g.Lost w := hresult.radio (HostSide.txReturn_radio _ t)
  clear_value g
  split
  · exact hg
  · dsimp only
    refine HostSide.Lost.endJob ?_ _ 6 0 (by decide)
    exact hg.putJob _ _ fun j hl he => ⟨hl, he⟩

theorem HostSide.Lost.rfCancel {w : Word} {h : HostSide} (a : h.Lost w) (i : Nat) : (h.rfCancel i).Lost w := by
  unfold HostSide.rfCancel
  split
  · next t _ => exact .ite ((a.txCancelled t _).same rfl rfl) a
  · exact a

/-! ### Registers -/

theorem HostSide.Lost.putReg {w : Word} {h : HostSide} (a : h.Lost w) (r : Nat) (x : Word) : (h.putReg r x).Lost w :=
  .ite (a.same rfl rfl) (.ite (a.same rfl rfl) (.ite (a.same rfl rfl) (.ite (a.radio (h.setCx_radio x))
    (.ite (a.radio (h.rfTune_radio x)) (.ite (a.same rfl rfl) (.ite (a.same rfl rfl) (.ite (a.same rfl rfl) a)))))))

theorem HostSide.Lost.putRegs {w : Word} {h : HostSide} (a : h.Lost w) (ws : List (Nat × Word)) : (h.putRegs ws).Lost w := by
  induction ws generalizing h with
  | nil => exact a
  | cons e ws ih => exact ih (a.putReg e.1 e.2)

theorem HostSide.Lost.clearReg {w : Word} {h : HostSide} (a : h.Lost w) (r : Nat) (x : Word) : (h.clearReg r x).Lost w := by
  unfold HostSide.clearReg
  refine .ite (a.same rfl rfl) (.ite (a.same rfl rfl) (.ite (a.same rfl rfl) (.ite (a.same rfl rfl) (.ite (a.same rfl rfl)
    (.ite (a.same rfl rfl) (.ite (a.same rfl rfl) (.ite (a.same rfl rfl) (.ite (a.same rfl rfl) ?_))))))))
  split
  · exact .ite (a.same rfl rfl) a
  · split
    · exact a.same rfl rfl
    · exact a

/-- The host side that a register write leaves, where it leaves one, satisfies `p`. -/
def HostWr.Keeps (p : HostSide → Prop) : HostWr → Prop
  | .now h => p h
  | .later h _ => p h
  | .apply h _ => p h
  | .none => True
  | .err _ => True
  | .baud _ => True
  | .mode _ => True
  | .clear _ => True

theorem HostWr.Keeps.ite {p : HostSide → Prop} {x y : HostWr} {c : Prop} [Decidable c] (a : x.Keeps p) (b : y.Keeps p) :
    (if c then x else y).Keeps p := by
  split
  · exact a
  · exact b

theorem HostSide.Lost.stageWr {w : Word} {h : HostSide} (a : h.Lost w) (r : Option Radio) (gid : Nat) (ap : Bool) :
    (h.stageWr r gid ap).Keeps (HostSide.Lost w) := by
  have hr (r : Radio) : HostSide.Lost w { h with radio := r } := a.same rfl rfl
  cases r with
  | none => exact trivial
  | some r => cases ap <;> exact hr r

theorem HostSide.Lost.writeReg {w : Word} {h : HostSide} (a : h.Lost w) (r : Nat) (x : Word) :
    (h.writeReg r x).Keeps (HostSide.Lost w) := by
  have hpps (p : Pps) : HostSide.Lost w { h with pps := p } := a.same rfl rfl
  unfold HostSide.writeReg
  exact .ite trivial (.ite trivial (.ite (.ite a trivial) (.ite (.ite trivial trivial) (.ite trivial (.ite (hpps _)
    (.ite (.ite trivial a) (.ite (.ite trivial (.ite trivial a)) (.ite (a.stageWr _ _ _) (.ite (a.stageWr _ _ _)
      (.ite (a.stageWr _ _ _) (.ite (a.stageWr _ _ _) (a.clearReg r x))))))))))))

end Sys2Proof.Machine
end

section
/-! A line that goes on while `LINK` is clear (R142): none of its commands reaches the field side, sends anything, or waits for an access. -/

namespace Sys2Proof.Machine

/-! ### What a command leaves -/

/-- `LINK` is clear, and the field side is `f`. -/
def State.Lost (f : Field) (w : Word) (s : State) : Prop := s.f = f ∧ s.h.Lost w

/-- A command leaves the loss as it is, and has no access to be sent. -/
def Replies (f : Field) (w : Word) (r : Lx × CmdRes) : Prop := r.1.s.Lost f w ∧ ∀ x, r.2 ≠ .ask x

section
variable {f : Field} {w : Word} {l : Lx}

theorem State.Lost.host {s : State} (hs : s.Lost f w) {g : HostSide → HostSide} (hg : (g s.h).Lost w) : (s.host g).Lost f w := ⟨hs.1, hg⟩

theorem State.Lost.down (hl : l.s.Lost f w) : (!l.s.h.bar.link) = true := by
  have hlink : l.s.h.bar.link = false := congrArg Prod.fst hl.2.1
  simp [hlink]

theorem Replies.refused {r : Lx × CmdRes} {e : Nat} (hl : l.s.Lost f w) (hr : r = l.fail e) : Replies f w r := by
  rw [hr]
  exact ⟨hl, nofun⟩

theorem Replies.guard {c : Prop} [Decidable c] {r : Lx × CmdRes} {e : Nat} (hl : l.s.Lost f w) (h : Replies f w r) :
    Replies f w (if c then l.fail e else r) := by
  split
  · exact ⟨hl, nofun⟩
  · exact h

theorem Replies.thenDo {r : Lx × CmdRes} {g : Lx → Lx × CmdRes} (h : Replies f w r) (hg : ∀ k : Lx, k.s.Lost f w → Replies f w (g k)) :
    Replies f w (thenDo r g) := by
  unfold Machine.thenDo
  split
  · exact ⟨h.1, nofun⟩
  · next x hx => exact absurd hx (h.2 x)
  · exact hg _ h.1

/-! ### Accesses -/

/-- An access has been answered, or fails with ERR 60. -/
theorem State.Lost.access (hl : l.s.Lost f w) (x : Acc) : ∃ c r, l.access x = (⟨l.s, c⟩, some r) := by
  unfold Lx.access
  split
  · exact ⟨_, _, rfl⟩
  · rw [if_pos hl.down]
    exact ⟨_, _, rfl⟩

theorem State.Lost.readWord (hl : l.s.Lost f w) (a : Nat) : Replies f w (l.readWord a) := by
  obtain ⟨c, ⟨e, v⟩, h⟩ := hl.access (.read a)
  rw [Lx.readWord, h]
  cases e <;> exact ⟨hl, nofun⟩

theorem State.Lost.send (hl : l.s.Lost f w) (x : Acc) : Replies f w (l.send x) := by
  obtain ⟨c, ⟨e, v⟩, h⟩ := hl.access x
  rw [Lx.send, h]
  cases e <;> exact ⟨hl, nofun⟩

theorem State.Lost.reads (hl : l.s.Lost f w) (as : List Nat) : Replies f w (Lx.reads as l) := by
  induction as generalizing l with
  | nil => exact ⟨hl, nofun⟩
  | cons a as ih => exact (hl.readWord a).thenDo fun k hk => ih hk

theorem State.Lost.readSet (hl : l.s.Lost f w) {g : Lx → Bool → Lx × CmdRes} (hg : ∀ (k : Lx) b, k.s.Lost f w → Replies f w (g k b)) :
    Replies f w (l.readSet g) :=
  (hl.readWord _).thenDo fun _ hk => (hk.reads _).thenDo fun _ hm => (hm.readWord _).thenDo fun n hn => hg n _ hn

theorem State.Lost.snapped (hl : l.s.Lost f w) {g : Lx → Lx × CmdRes} (hg : ∀ k : Lx, k.s.Lost f w → Replies f w (g k)) :
    Replies f w (l.snapped g) := by
  unfold Lx.snapped
  dsimp only
  split
  · exact hg l hl
  · refine hl.readSet fun k b hk => ?_
    split
    · exact hg _ hk
    · refine hk.readSet fun m b hm => ?_
      split
      · exact hg _ hm
      · exact ⟨hm, nofun⟩

theorem State.Lost.readField (hl : l.s.Lost f w) (a : Nat) : Replies f w (l.readField a) := by
  unfold Lx.readField
  split
  · exact hl.snapped fun k hk => ⟨hk, nofun⟩
  · exact hl.readWord a

/-- A query shows what `g` makes of the field side, which asks for nothing. -/
theorem State.Lost.query (hl : l.s.Lost f w) (as : List Nat) {g : Field → CmdRes} (hg : ∀ f x, g f ≠ .ask x) : Replies f w (l.query as g) :=
  (hl.reads as).thenDo fun _ hk => ⟨hk, hg _⟩

theorem State.Lost.writeAll (hl : l.s.Lost f w) (ws : List (Nat × Word)) : Replies f w (l.writeAll ws) := by
  induction ws generalizing l with
  | nil => exact ⟨hl, nofun⟩
  | cons e ws ih => exact (hl.send _).thenDo fun k hk => ih hk

/-! ### Registers (R611, R612) -/

theorem State.Lost.readReg (hl : l.s.Lost f w) (a : Nat) : Replies f w (l.readReg a) := by
  unfold Lx.readReg
  split
  · exact hl.readField a
  · split
    · exact ⟨hl, nofun⟩
    · refine ⟨?_, nofun⟩
      split
      · exact hl.host (hl.2.same rfl rfl)
      · exact hl

theorem State.Lost.readRegs (hl : l.s.Lost f w) (a n : Nat) : Replies f w (l.readRegs a n) := by
  induction n generalizing l a with
  | zero => exact ⟨hl, nofun⟩
  | succ n ih =>
    have hread := hl.readReg a
    unfold Lx.readRegs
    dsimp only
    split
    · have hrest := ih hread.1 (a + 4)
      split
      · exact ⟨hrest.1, nofun⟩
      · exact hrest
    · exact hread

theorem State.Lost.cmdR (hl : l.s.Lost f w) (a : BitVec 16) (n : Nat) : Replies f w (cmdR a n l) := by
  unfold Machine.cmdR
  refine .guard hl ?_
  split
  · exact hl.readReg _
  · exact hl.readRegs _ _

theorem State.Lost.applyGroup (hl : l.s.Lost f w) (gid : Nat) : Replies f w (l.applyGroup gid) := by
  unfold Lx.applyGroup
  dsimp only
  split
  · refine ⟨⟨hl.1, hl.2.radio (HostSide.groupApply_radio _ _)⟩, ?_⟩
    dsimp only
    split <;> exact nofun
  · split
    · exact (hl.readWord _).thenDo fun k hk => hk.send _
    · exact hl.send _

theorem State.Lost.cmdStClr (hl : l.s.Lost f w) (m : Word) : Replies f w (cmdStClr m l) := by
  have hclear {h : HostSide} (a : h.Lost w) : (h.clearBits m).Lost w := .ite (a.same rfl rfl) (a.same rfl rfl)
  unfold Machine.cmdStClr
  dsimp only
  split
  · exact ⟨hl.host (hclear hl.2), nofun⟩
  · exact (hl.send _).thenDo fun k hk => ⟨hk.host (hclear hk.2), nofun⟩

theorem State.Lost.cmdMode (hl : l.s.Lost f w) (m : UMode) : Replies f w (cmdMode m l) := ⟨hl.host (hl.2.same rfl rfl), nofun⟩

theorem State.Lost.cmdBaud (hl : l.s.Lost f w) (b : Nat) : Replies f w (cmdBaud b l) := .guard hl ⟨hl, nofun⟩

theorem State.Lost.cmdW (hl : l.s.Lost f w) (a : BitVec 16) (x : Word) : Replies f w (cmdW a x l) := by
  unfold Machine.cmdW
  dsimp only
  split
  · refine .guard hl ?_
    have hwrite : Replies f w (l.writeField a.toNat x) := hl.send _
    split
    · split
      · exact hwrite
      · exact hwrite
    · exact hwrite
  · have hkeeps := hl.2.writeReg a.toNat x
    split
    · exact ⟨hl, nofun⟩
    · exact ⟨hl, nofun⟩
    · next h hw => rw [hw] at hkeeps; exact ⟨hl.host hkeeps, nofun⟩
    · next h v hw => rw [hw] at hkeeps; exact ⟨hl.host hkeeps, nofun⟩
    · exact hl.cmdBaud _
    · exact hl.cmdMode _
    · exact hl.cmdStClr _
    · next h g hw =>
      rw [hw] at hkeeps
      exact State.Lost.applyGroup (l := { l with s := { l.s with h := h } }) ⟨hl.1, hkeeps⟩ g

/-! ### Jobs -/

/-- A command that starts a job of the host side alone. -/
theorem State.Lost.begin (hl : l.s.Lost f w) (kind : Nat) (lines : List Text) (info : JobInfo)
    (hinfo : ∀ j : Job, j.info = info → j.linkErr = none) : Replies f w (l.begin kind lines info) := by
  unfold Lx.begin
  split
  · exact ⟨hl, nofun⟩
  · next h i hjob =>
    obtain ⟨n, -, hn⟩ := Option.map_eq_some_iff.mp hjob
    obtain ⟨rfl, -⟩ := Prod.mk.inj hn
    exact ⟨⟨hl.1, hl.2.putJob n _ fun j _ he => absurd (hinfo _ rfl) he⟩, nofun⟩

/-- A job that is live needs no field side: its cancel reaches the host side alone (R591). -/
theorem State.Lost.cancelJob {s : State} (hs : s.Lost f w) (i : Nat) (hlive : (s.h.jobOf i).live = true) : (s.cancelJob i).Lost f w := by
  have hnone : (s.h.jobOf i).linkErr = none := by
    by_contra hne
    exact hs.2.2 i ⟨hlive, hne⟩
  have hended {t : State} (ht : t.Lost f w) : (t.host fun h => h.endJob i 6 0).Lost f w := ht.host (ht.2.endJob _ _ _ (by decide))
  unfold Job.linkErr at hnone
  unfold State.cancelJob
  dsimp only
  split
  · next hinfo => rw [hinfo] at hnone; cases hnone
  · next hinfo => rw [hinfo] at hnone; cases hnone
  · next hinfo =>
    rw [hinfo] at hnone
    dsimp only at hnone
    split at hnone <;> cases hnone
  · next hinfo => rw [hinfo] at hnone; cases hnone
  · exact hended (hs.host (hs.2.rfCancel i))
  · exact hended (hs.host (hs.2.same rfl rfl))
  · exact hended hs
  · exact hended hs

theorem State.Lost.cmdJobCancel (hl : l.s.Lost f w) (n : Nat) : Replies f w (cmdJobCancel n l) := by
  unfold Machine.cmdJobCancel
  dsimp only
  refine .guard hl ?_
  split
  · exact ⟨hl, nofun⟩
  · next hlive => exact ⟨hl.cancelJob n (by simpa using hlive), nofun⟩

theorem State.Lost.cmdCalRun (hl : l.s.Lost f w) (item : Option CalItem) (k : Option Nat) : Replies f w (cmdCalRun item k l) := by
  have hradio (it : CalItem) : Replies f w (l.begin 4 [] (.rfCal it)) :=
    hl.begin 4 [] (.rfCal it) fun j hj => by rw [Job.linkErr, hj]
  cases item with
  | none => exact ⟨hl, nofun⟩
  | some it =>
    cases it with
    | iq | pa => exact .guard hl (hradio _)
    | tdc | adc | xl | bar => exact .refused hl (if_pos hl.down)
    | ltab | synth => exact ⟨hl, nofun⟩

/-! ### The radio -/

theorem State.Lost.stageRadio (hl : l.s.Lost f w) (r : Option Radio) (gid : Nat) : Replies f w (l.stageRadio r gid) := by
  cases r with
  | none => exact ⟨hl, nofun⟩
  | some r =>
    refine ⟨?_, nofun⟩
    have hset : (l.s.host fun h => { h with radio := r }).Lost f w := hl.host (hl.2.same rfl rfl)
    change (Lx.name (l.host fun h => { h with radio := r }) gid).s.Lost f w
    unfold Lx.name
    split <;> exact hset

theorem State.Lost.cmdRfState (hl : l.s.Lost f w) (g : RfTarget) : Replies f w (cmdRfState g l) := by
  have hset : (l.s.host fun _ => (l.s.h.rfState g).1).Lost f w := hl.host (hl.2.radio (l.s.h.rfState_radio g))
  unfold Machine.cmdRfState
  dsimp only
  split <;> exact ⟨hset, nofun⟩

theorem State.Lost.cmdRfTxj (hl : l.s.Lost f w) (len : Nat) : Replies f w (cmdRfTxj len l) := by
  unfold Machine.cmdRfTxj
  refine .guard hl (.guard hl (.guard hl ?_))
  split
  · exact ⟨hl, nofun⟩
  · next h i hjob =>
    obtain ⟨n, -, hn⟩ := Option.map_eq_some_iff.mp hjob
    obtain ⟨rfl, -⟩ := Prod.mk.inj hn
    have hput := hl.2.putJob n (fun j => ⟨6, 1, 0, 0, j.jseq + 1, [], .rftx len, l.s.h.nextOrd⟩) fun j _ he => absurd rfl he
    exact ⟨⟨hl.1, hput.same rfl rfl⟩, nofun⟩

theorem State.Lost.cmdRftx (hl : l.s.Lost f w) (n : Nat) : Replies f w (cmdRftx n l) := by
  unfold Machine.cmdRftx
  split <;> exact ⟨hl, nofun⟩

theorem State.Lost.cmdRfqPop (hl : l.s.Lost f w) (id : Nat) : Replies f w (cmdRfqPop id l) := by
  unfold Machine.cmdRfqPop
  split
  · split
    · exact ⟨hl.host (hl.2.same rfl rfl), nofun⟩
    · exact ⟨hl, nofun⟩
  · exact ⟨hl, nofun⟩

theorem State.Lost.cmdRfCx (hl : l.s.Lost f w) (a b c d : Nat) : Replies f w (cmdRfCx a b c d l) :=
  .guard hl (.guard hl ⟨hl.host (hl.2.radio (HostSide.setCx_radio _ _)), nofun⟩)

/-! ### Telemetry and the Layout Table -/

theorem State.Lost.cmdTel (hl : l.s.Lost f w) (g : Option TelGroup) : Replies f w (cmdTel g l) := by
  cases g with
  | none => exact ⟨hl, nofun⟩
  | some g => exact .guard hl (.guard hl ((hl.reads _).thenDo fun k hk => ⟨hk, nofun⟩))

theorem State.Lost.cmdTelClr (hl : l.s.Lost f w) (g : Option TelGroup) : Replies f w (cmdTelClr g l) := by
  have hclear {h : HostSide} (a : h.Lost w) (g : TelGroup) : (h.telClr g).Lost w := by cases g <;> exact a.same rfl rfl
  cases g with
  | none => exact ⟨hl, nofun⟩
  | some g => exact .guard hl (.guard hl ((hl.writeAll _).thenDo fun k hk => ⟨hk.host (hclear hk.2 g), nofun⟩))

theorem State.Lost.cmdTestQuery (hl : l.s.Lost f w) : Replies f w (cmdTestQuery l) := by
  have hdown : Machine.cmdTestQuery l = (l, CmdRes.block [txt "+F,-", testText "+H" l.s.h.rot 13]) := if_pos hl.down
  rw [hdown]
  exact ⟨hl, nofun⟩

theorem State.Lost.cmdJob (hl : l.s.Lost f w) (n : Option Nat) : Replies f w (cmdJob n l) := by
  cases n with
  | none => exact ⟨hl, nofun⟩
  | some n => exact .guard hl ⟨hl, nofun⟩

theorem State.Lost.cmdDescList (hl : l.s.Lost f w) (ty : Option Nat) : Replies f w (cmdDescList ty l) := by
  cases ty with
  | none => exact .guard hl ⟨hl, nofun⟩
  | some n => exact .guard hl (.guard hl ⟨hl, nofun⟩)

theorem State.Lost.cmdDescDump (hl : l.s.Lost f w) : Replies f w (cmdDescDump l) :=
  .guard hl (hl.begin 7 [] (.desc 0) fun j hj => by rw [Job.linkErr, hj])

end

end Sys2Proof.Machine
end

section
/-! A line to its end while `LINK` is clear, and the loss of the link (R142): the field side and the host stream stay as the loss left them. -/

namespace Sys2Proof.Machine

section
variable {f : Field} {w : Word} {l : Lx}

/-! ### Commands -/

/-- While `LINK` is clear a command leaves the loss as it is: what needs the field side is refused. -/
theorem State.Lost.runCmd (hl : l.s.Lost f w) (i : Instr) : Replies f w (runCmd i l) := by
  have hdown : (!l.s.h.bar.link) = true := hl.down
  cases i with
  | registerWrite a x => exact hl.cmdW a x
  | registerRead a n => exact hl.cmdR a n
  | idQuery | modeQuery | uartBaudQuery | resetHost | stQuery | ppsQuery | rfQuery | rfqQuery => exact ⟨hl, nofun⟩
  | mode m => exact hl.cmdMode m
  | uartBaud b => exact hl.cmdBaud b
  | stClr m => exact hl.cmdStClr m
  | jobQuery n => exact hl.cmdJob n
  | jobPartQuery | descQuery => exact .guard hl (.guard hl (.guard hl ⟨hl, nofun⟩))
  | jobCancel n => exact hl.cmdJobCancel n
  | testQuery => exact hl.cmdTestQuery
  | telQuery g => exact hl.cmdTel g
  | telClr g => exact hl.cmdTelClr g
  | timeQuery => exact (hl.snapped fun _ hk => ⟨hk, nofun⟩ : Replies f w (cmdTimeQuery l))
  | stampQuery => exact (hl.snapped fun _ hk => ⟨hk, nofun⟩ : Replies f w (cmdStamp l))
  | localQuery => exact (hl.query _ (fun _ _ => nofun) : Replies f w (cmdLocalQuery l))
  | refQuery => exact (hl.query _ (fun _ _ => nofun) : Replies f w (cmdRefQuery l))
  | rateQuery => exact (hl.query _ (fun _ _ => nofun) : Replies f w (cmdRate l))
  | trimQuery => exact (hl.query _ (fun _ _ => nofun) : Replies f w (cmdTrimQuery l))
  | rateEnQuery => exact (hl.query _ (fun _ _ => nofun) : Replies f w (cmdRateEnQuery l))
  | ponQuery => exact (hl.query _ (fun _ _ => nofun) : Replies f w (cmdPonQuery l))
  | jQuery => exact (hl.query _ (fun _ _ => nofun) : Replies f w (cmdJ l))
  | sealQuery => exact (hl.query _ (fun _ _ => nofun) : Replies f w (cmdSealQuery l))
  | calQuery => exact (hl.query _ (fun _ _ => nofun) : Replies f w (cmdCal l))
  | calSaveQuery => exact (hl.query _ (fun _ _ => nofun) : Replies f w (cmdCalSave l))
  | supQuery => exact (hl.query _ (fun _ _ => nofun) : Replies f w (cmdSup l))
  | ponRel o => exact (hl.send _ : Replies f w (cmdPonRel o l))
  | jPolicy wrap => exact (hl.send _ : Replies f w (cmdJPolicy wrap l))
  | pps => exact .guard hl ⟨hl, nofun⟩
  | calRun item k => exact hl.cmdCalRun item k
  | rfState g => exact hl.cmdRfState g
  | rfCh | rfMode | rfFrame | rfPwr => exact .guard hl (hl.stageRadio _ _)
  | rfCx a b c d => exact hl.cmdRfCx a b c d
  | rfTx => exact .guard hl (.guard hl (.guard hl ⟨hl.host (hl.2.same rfl rfl), nofun⟩))
  | rftxQuery n => exact hl.cmdRftx n
  | rfBuf => exact .guard hl (.guard hl ⟨hl.host (hl.2.same rfl rfl), nofun⟩)
  | rfTxj n => exact hl.cmdRfTxj n
  | rfqPop n => exact hl.cmdRfqPop n
  | descListQuery ty => exact hl.cmdDescList ty
  | descDump => exact hl.cmdDescDump
  | test | testForce | time | localOfs | tmark | refSet | refSetQuery | trim | rateEn | al | alQuery | perEvt | ticker | pon | perCfg
  | perTh | perQuery | tripOpen | tripClose | keep | keepQuery | keepSave | keepLoad | evCfg | evCfgQuery | evOff | evQuery | tCfg
  | tPlan | tOfs | tLead | tQuery | tSnap | note | jExport | jVerify | jErase | sealKey | calLoad | calLoadGo | calCommit | supVsw
  | supBatlow | batPlan => exact .refused hl (if_pos hdown)
  | _ => exact .refused hl rfl

theorem State.Lost.command (hl : l.s.Lost f w) (p : Parsed) : Replies f w (l.command p) := by
  cases p with
  | cmd i => exact hl.runCmd i
  | range side => cases side <;> exact ⟨hl, nofun⟩

/-! ### The end of a line -/

/-- What a command answers changes the line's record, where it has no access to be sent. -/
theorem Lx.absorb_s (l : Lx) {r : CmdRes} (hr : ∀ x, r ≠ .ask x) : (l.absorb r).s = l.s := by
  cases r with
  | ask x => exact absurd rfl (hr x)
  | _ => rfl

theorem State.Lost.applyGroups (hl : l.s.Lost f w) (gs : List (Nat × Nat)) : (Lx.applyGroups gs l).s.Lost f w := by
  induction gs generalizing l with
  | nil => exact hl
  | cons e gs ih =>
    obtain ⟨hstate, hask⟩ := hl.applyGroup e.1
    unfold Lx.applyGroups
    dsimp only
    split
    · next x hx => exact absurd hx (hask x)
    · exact ih hstate
    · exact ih hstate

/-- The commands that are left leave the loss as it is. -/
theorem State.Lost.runRest (hl : l.s.Lost f w) (ps : List Parsed) : (Lx.runRest ps l).s.Lost f w := by
  induction ps generalizing l with
  | nil => exact State.Lost.applyGroups (l := { l with c := { l.c with rest := [] } }) hl _
  | cons p ps ih =>
    obtain ⟨hstate, hask⟩ := State.Lost.command (l := { l with c := { l.c with rest := ps, k := l.c.k + 1 } }) hl p
    have habsorb {r : CmdRes} (hr : ∀ x, r ≠ .ask x) : (Lx.absorb (Lx.command { l with c := { l.c with rest := ps, k := l.c.k + 1 } } p).1
        r).s.Lost f w := by rwa [Lx.absorb_s _ hr]
    unfold Lx.runRest
    dsimp only
    split
    · next x hx => exact absurd hx (hask x)
    · split
      · exact habsorb hask
      · exact ih (habsorb hask)

/-- A line that ends, or waits for what no access is, leaves the loss as it is. -/
theorem State.Lost.settle (hl : l.s.Lost f w) : l.settle.Lost f w := by
  unfold Lx.settle
  split
  · exact ⟨hl.1, hl.2.same rfl rfl⟩
  · exact ⟨hl.1, (hl.2.putRegs l.c.writes).same rfl rfl⟩

theorem State.Lost.failLine {s : State} (hs : s.Lost f w) (e : Nat) : (s.failLine e).Lost f w := by
  have hran : (s.host HostSide.ran).Lost f w := hs.host (hs.2.same rfl rfl)
  unfold State.failLine
  split
  · unfold State.answered
    split
    · exact hs
    · exact (State.Lost.runRest (l := ⟨s.host HostSide.ran, _⟩) hran _).settle
  · unfold State.resume State.resumeWith
    split
    · exact hs
    · exact State.Lost.settle (l := Lx.absorb ⟨s.host HostSide.ran, _⟩ (.err e)) hran

end

/-! ### The loss of the link -/

/-- `LINK` clears: the host stream empties, the field word is kept (R122, R142, R149), whatever the line that waits does then. -/
theorem State.linkDown_lost (s : State) (hlink : s.h.bar.link = true) : s.linkDown.Lost s.f s.h.fst := by
  unfold State.linkDown
  rw [if_neg (by simp [hlink])]
  extract_lets h mir b k t
  have hk : (HostSide.notice k.failFieldJobs (txt "!LINK DOWN")).Lost s.h.fst := by
    have hfailed : k.failFieldJobs.Lost s.h.fst := ⟨k.failFieldJobs_jobsOnly.linkPart, k.failFieldJobs_fieldJob⟩
    exact hfailed.same (HostSide.notice_jobsOnly _ _).linkPart (HostSide.notice_jobs _ _)
  have ht : t.Lost s.f s.h.fst := ⟨rfl, hk⟩
  split
  · exact ht.failLine 60
  · exact ht

end Sys2Proof.Machine
end

section
/-! The messages that build and keep the link (R130, R133, R135 to R138, R141, R145, R474). -/

namespace Sys2Proof.Machine

/-! ### `TICK` (R135 to R138, R145) -/

theorem HostSide.msgDomains_awake (h : HostSide) : h.msgDomains.awake = h.awake := by
  simp only [HostSide.msgDomains, HostSide.domain, HostSide.awake]
  rfl

/-- The `ECHO` of a `TICK`: `TRAIN` in bit 8, the CRC failures since the last one below it (Table 4-6). -/
theorem HostSide.sendEcho_eq (h : HostSide) (q : BitVec 4) (train : Bool) : h.sendEcho q train =
    { h with bar := { h.bar with
      crcf := 0, lane := h.bar.lane ++ [⟨.echo, q, [BitVec.ofNat 32 ((if train then 256 else 0) + min h.bar.crcf 255)], none⟩] } } := by
  cases train <;> simp [HostSide.sendEcho, sat8]

/-- A `TICK` at a host side that runs. -/
theorem tickReceive_ticks (s : State) (q : BitVec 4) (ovr : BitVec 18) (dly : BitVec 14) (hrun : s.h.run = true) :
    exec (.tickReceive q ovr dly) s = .next (State.tick ⟨s.f.took .tick q, s.h.msgDomains, s.pending⟩ q ovr dly) :=
  congrArg Host.Outcome.next (s.atHost_running .tick q _ hrun)

/-- The frame that a `TICK` names is the expected one, or the link is lost (R138). -/
theorem HostSide.tickDoes_linked (h : HostSide) (n : Nat) (q : BitVec 4) (ovr dly : Nat) (hlink : h.bar.link = true) :
    h.tickDoes n q ovr dly = if (h.bar.frames + 1) % 16 = q.toNat then .stays else .lost := if_pos hlink

theorem HostSide.tickDoes_first (h : HostSide) (n : Nat) (q : BitVec 4) (ovr dly : Nat) (hlink : h.bar.link = false)
    (htrain : h.bar.train = none) : h.tickDoes n q ovr dly = .begins := by
  simp [HostSide.tickDoes, hlink, htrain]

theorem tickReceive_stays (s : State) (q : BitVec 4) (ovr : BitVec 18) (dly : BitVec 14) (hrun : s.h.run = true)
    (hlink : s.h.bar.link = true) (hframe : (s.h.bar.frames + 1) % 16 = q.toNat) :
    ∃ t, exec (.tickReceive q ovr dly) s = .next t ∧ t.f = s.f.took .tick q ∧
      t.h = { s.h.msgDomains with bar := { s.h.bar with
        ticked := true, since := 0#8, frames := s.h.bar.frames + 1,
        mir := if s.h.awake then (s.h.bar.frames + 1) * 2 ^ 26 + ovr.toNat else s.h.bar.mir,
        mirTicks := if s.h.awake then min 3 (s.h.bar.mirTicks + 1) else 0, crcf := 0,
        lane := s.h.bar.lane ++ [⟨.echo, q, [BitVec.ofNat 32 (min s.h.bar.crcf 255)], none⟩] } } := by
  have hdoes (n dly : Nat) : s.h.msgDomains.tickDoes n q ovr.toNat dly = .stays := by
    rw [HostSide.tickDoes_linked _ _ _ _ _ (by rwa [HostSide.msgDomains_bar]), HostSide.msgDomains_bar, if_pos hframe]
  have hbar := s.h.msgDomains_bar
  have hawake := s.h.msgDomains_awake
  refine ⟨_, tickReceive_ticks s q ovr dly hrun, ?_⟩
  generalize s.h.msgDomains = h at hdoes hbar hawake ⊢
  rw [← hbar, ← hawake]
  simp only [State.tick, hdoes, State.host, HostSide.sendEcho_eq, HostSide.tickTaken, HostSide.ticked, HBar.boundary, Bool.not_true,
    Bool.false_eq_true, if_false, Nat.zero_add, true_and]
  rfl

theorem tickReceive_loses (s : State) (q : BitVec 4) (ovr : BitVec 18) (dly : BitVec 14) (hrun : s.h.run = true)
    (hlink : s.h.bar.link = true) (hframe : (s.h.bar.frames + 1) % 16 ≠ q.toNat) :
    ∃ t, exec (.tickReceive q ovr dly) s = .next t ∧ t.f = s.f.took .tick q ∧ t.h.bar.link = false ∧ t.h.bar.since = 0#8 ∧
      t.h.bar.unans = none ∧ t.h.bar.queue = [] ∧ t.h.fstLoss = s.h.fst := by
  have hlinked : s.h.msgDomains.bar.link = true := by rwa [HostSide.msgDomains_bar]
  have hfst : s.h.msgDomains.fst = s.h.fst := by simp only [HostSide.msgDomains, HostSide.domain]
  have hdoes (n dly : Nat) : s.h.msgDomains.tickDoes n q ovr.toNat dly = .lost := by
    rw [HostSide.tickDoes_linked _ _ _ _ _ hlinked, HostSide.msgDomains_bar, if_neg hframe]
  obtain ⟨hfield, hpart, -⟩ := State.linkDown_lost ⟨s.f.took .tick q, s.h.msgDomains, s.pending⟩ hlinked
  obtain ⟨hdown, hstream⟩ := Prod.mk.inj hpart
  obtain ⟨hunans, hrest⟩ := Prod.mk.inj hstream
  obtain ⟨hqueue, hloss⟩ := Prod.mk.inj hrest
  refine ⟨_, tickReceive_ticks s q ovr dly hrun, ?_⟩
  simp only [State.tick, hdoes]
  exact ⟨hfield, hdown, rfl, hunans, hqueue, hloss.trans hfst⟩

theorem tickReceive_begins (s : State) (q : BitVec 4) (ovr : BitVec 18) (dly : BitVec 14) (hrun : s.h.run = true)
    (hlink : s.h.bar.link = false) (htrain : s.h.bar.train = none) :
    ∃ t, exec (.tickReceive q ovr dly) s = .next t ∧ t.f = s.f.took .tick q ∧
      t.h = { s.h.msgDomains with bar := { s.h.bar with
        ticked := true, since := 0#8, train := some ⟨1, q, [], none, none, none⟩,
        mirTicks := min 3 (s.h.bar.mirTicks + 1), crcf := 0,
        lane := s.h.bar.lane ++ [⟨.echo, q, [BitVec.ofNat 32 (256 + min s.h.bar.crcf 255)], none⟩] } } := by
  have hbar := s.h.msgDomains_bar
  have hdoes (n dly : Nat) : s.h.msgDomains.tickDoes n q ovr.toNat dly = .begins :=
    HostSide.tickDoes_first _ _ _ _ _ (hbar.symm ▸ hlink) (hbar.symm ▸ htrain)
  refine ⟨_, tickReceive_ticks s q ovr dly hrun, ?_⟩
  generalize s.h.msgDomains = h at hdoes hbar ⊢
  rw [← hbar] at hlink ⊢
  simp only [State.tick, hdoes, State.host, HostSide.sendEcho_eq, HostSide.tickTaken, HostSide.ticked, HostSide.awake, hlink,
    Bool.not_false, Bool.or_true, Bool.true_or, if_true, true_and]

/-! ### `ECHO` (R133, R145) -/

/-- An `ECHO` at a field side that runs. -/
theorem echoReceive_takes (s : State) (q : BitVec 4) (train : Bool) (c : Byte) (rtt : Nat) (hrun : s.f.runs = true)
    (hnews : (s.f.echo train rtt).jobEv = []) :
    exec (.echoReceive q train c rtt) s = .next ⟨s.f.echo train rtt, s.h.gone .echo q, s.pending⟩ := by
  change execEchoReceive q train c rtt s = _
  simp only [execEchoReceive, State.host, hrun, if_true, State.withField_quiet _ _ hnews]
  rfl

theorem Field.sendStat_jobEv (f : Field) : f.sendStat.jobEv = f.jobEv := by
  unfold Field.sendStat
  split
  · rfl
  · exact (Field.send_keepsWork _ _ _).1

/-- An `ECHO` with `TRAIN` = 0 gives the round trip, and links the field side (R133, R145). -/
theorem Field.echo_links (f : Field) (rtt : Nat) (htick : f.bar.sendTick = true) : f.echo false rtt =
    if f.bar.linked then { f with bar := { f.bar with rtt := some rtt, echoMiss := 0 } }
    else Field.sendStat { f with bar := { f.bar with
      rtt := some rtt, echoMiss := 0, linked := true, training := false, lastSeq := none, lastAns := none, nextSeq := 0#4 } } := by
  unfold Field.echo
  rw [if_neg (by simp [htick])]
  rfl

theorem Field.echo_links_jobEv (f : Field) (rtt : Nat) (htick : f.bar.sendTick = true) : (f.echo false rtt).jobEv = f.jobEv := by
  rw [f.echo_links rtt htick]
  split
  · rfl
  · exact Field.sendStat_jobEv _

/-- With no `WAKE` unanswered, what is lost with the link is the drive of PON_H in pulse mode (R332). -/
theorem Field.wakesLost_of_answered (f : Field) (hsent : f.wake.sent = []) : f.wakesLost = { f with wake := f.wakesLost.wake } := by
  simp only [Field.wakesLost, hsent, List.filterMap_nil, List.foldl_nil]

/-- What ends with the link where no calibration runs and no `WAKE` is unanswered (R122, R464). -/
theorem Field.linkWorkEnds_idle (f : Field) (hact : f.cal.act = none) (hsent : f.wake.sent = []) :
    f.linkWorkEnds = { f with
      jrn := { f.jrn with job := none, eraseJob := false }, tst := { f.tst with job := none }, sched := f.sched.noTests,
      wake := f.wakesLost.wake } := by
  have hadc : ¬ CalItem.adc = CalItem.bar := nofun
  rw [Field.linkWorkEnds, f.wakesLost_of_answered hsent]
  unfold Field.calAbandon
  simp only [hact, hadc, decide_false, Bool.false_and, Bool.false_eq_true, if_false]
  split <;> rfl

/-- A transaction that ends in time starts where none is unanswered and none else waits (R111, R112, R127). -/
theorem FBar.pump_single (b : FBar) (t : Txn) (hunans : b.unans = none) (hqueue : b.queue = [t]) (hfits : b.fits t.words.length = true) :
    b.pump = { b with
      queue := [], unans := some ⟨{ t with seq := b.nextSeq }, 0, false, false⟩, nextSeq := b.nextSeq + 1,
      lane := b.lane ++ [{ t with seq := b.nextSeq }] } := by
  simp only [FBar.pump, hunans, hqueue, takeNext, hfits, if_true]

/-- The barrier's field end as a training begins: the full `STAT` waits (Table 4-9). -/
def trainingBar (f : Field) : FBar :=
  { f.bar with linked := false, training := true, unans := none, queue := [⟨.stat, 0#4, [f.status], none⟩] }

/-- A training begins (R145): the work for the link has ended, the full `STAT` goes out. -/
theorem Field.startTraining_idle (f : Field) (hact : f.cal.act = none) (hsent : f.wake.sent = []) :
    f.startTraining = { f with
      jrn := { f.jrn with job := none, eraseJob := false }, tst := { f.tst with job := none }, sched := f.sched.noTests,
      wake := f.wakesLost.wake, stat := { f.stat with sent := f.status }, bar := (trainingBar f).pump } := by
  rw [Field.startTraining, f.linkWorkEnds_idle hact hsent]
  rfl

theorem trainingBar_pump (f : Field) (hfits : f.bar.fits 1 = true) : (trainingBar f).pump = { f.bar with
    linked := false, training := true, queue := [],
    unans := some ⟨⟨.stat, f.bar.nextSeq, [f.status], none⟩, 0, false, false⟩, nextSeq := f.bar.nextSeq + 1,
    lane := f.bar.lane ++ [⟨.stat, f.bar.nextSeq, [f.status], none⟩] } :=
  (trainingBar f).pump_single ⟨.stat, 0#4, [f.status], none⟩ rfl rfl hfits

theorem Field.startTraining_sends (f : Field) (hact : f.cal.act = none) (hsent : f.wake.sent = []) (hfits : f.bar.fits 1 = true) :
    f.startTraining = { f with
      jrn := { f.jrn with job := none, eraseJob := false }, tst := { f.tst with job := none }, sched := f.sched.noTests,
      wake := f.wakesLost.wake, stat := { f.stat with sent := f.status }, bar := { f.bar with
        linked := false, training := true, queue := [],
        unans := some ⟨⟨.stat, f.bar.nextSeq, [f.status], none⟩, 0, false, false⟩, nextSeq := f.bar.nextSeq + 1,
        lane := f.bar.lane ++ [⟨.stat, f.bar.nextSeq, [f.status], none⟩] } } := by
  rw [f.startTraining_idle hact hsent, trainingBar_pump f hfits]

/-- An `ECHO` with `TRAIN` = 1 begins a training where none runs. -/
theorem Field.echo_trains (f : Field) (rtt : Nat) (htick : f.bar.sendTick = true) (htrain : f.bar.training = false) :
    f.echo true rtt = Field.startTraining { f with bar := { f.bar with rtt := some rtt, echoMiss := 0 } } := by
  simp only [Field.echo, htick, htrain, Bool.not_true, Bool.false_eq_true, if_false, if_true]

theorem echoReceive_trains (s : State) (q : BitVec 4) (c : Byte) (rtt : Nat) (hs : FieldUp s) (htick : s.f.bar.sendTick = true)
    (htrain : s.f.bar.training = false) (hact : s.f.cal.act = none) (hsent : s.f.wake.sent = []) (hfits : s.f.bar.fits 1 = true) :
    ∃ t, exec (.echoReceive q true c rtt) s = .next t ∧ t.h = s.h.gone .echo q ∧ t.f.bar.linked = false ∧
      t.f.bar.training = true ∧ t.f.bar.rtt = some rtt ∧ t.f.bar.queue = [] ∧
      t.f.bar.unans = some ⟨⟨.stat, s.f.bar.nextSeq, [s.f.status], none⟩, 0, false, false⟩ ∧
      t.f.jrn = { s.f.jrn with job := none, eraseJob := false } ∧ t.f.stat.sent = s.f.status ∧ t.f.clk = s.f.clk := by
  have hecho := (s.f.echo_trains rtt htick htrain).trans (Field.startTraining_sends _ hact hsent hfits)
  have hnews : (s.f.echo true rtt).jobEv = [] := by
    rw [hecho]
    exact hs.2
  refine ⟨_, echoReceive_takes s q true c rtt hs.1 hnews, ?_⟩
  rw [hecho]
  exact ⟨rfl, rfl, rfl, rfl, rfl, rfl, rfl, rfl, rfl⟩

/-! ### `IDLE` and `LOOP` (R130, R141, R474) -/

/-- A message without news at a field side that runs. -/
theorem State.atField_running (s : State) (ty : MsgType) (q : BitVec 4) (run : Field → Field) (hrun : s.f.runs = true)
    (hnews : (run s.f.hear).jobEv = []) : s.atField ty q run = ⟨run s.f.hear, s.h.gone ty q, s.pending⟩ := by
  simp only [State.atField, State.host, hrun, if_true, State.withField_quiet _ _ hnews]
  rfl

theorem Field.hear_jobEv (f : Field) : f.hear.jobEv = f.jobEv := by
  unfold Field.hear
  split <;> rfl

/-- The word of a loop that comes back: `RET` in bit 31 (Table 4-6). -/
theorem loopWord (p : BitVec 31) : BitVec.ofNat 32 (2 ^ 31 + p.toNat) = 0x80000000#32 ||| p.setWidth 32 := by
  have hp := p.isLt
  have hor : 2 ^ 31 ||| p.toNat = 2 ^ 31 + p.toNat := (Nat.two_pow_add_eq_or_of_lt hp 1).symm
  apply BitVec.eq_of_toNat_eq
  simp only [BitVec.toNat_or, BitVec.toNat_ofNat, BitVec.toNat_setWidth]
  rw [Nat.mod_eq_of_lt (by omega), Nat.mod_eq_of_lt (by omega), Nat.mod_eq_of_lt (by omega)]
  exact hor.symm

theorem loopReceive_field (s : State) (k : BitVec 4) (p : BitVec 31) (hs : FieldReady s) :
    ∃ t, exec (.loopReceive .hf k false p) s = .next t ∧ t.h = s.h.gone .loop k ∧
      t.f = { s.f with bar := { s.f.bar with
        lane := s.f.bar.lane ++ [⟨.loop, k, [0x80000000#32 ||| p.setWidth 32], none⟩] } } := by
  have hready := Field.barReady_of_ready hs
  obtain ⟨⟨hrun, hjob⟩, -, -, htick⟩ := hs
  have hhear : s.f.hear = s.f := if_pos htick
  refine ⟨_, congrArg Host.Outcome.next (s.atField_running .loop k _ hrun ?_), rfl, ?_⟩
  · simp only [hhear, hready, Bool.not_true, Bool.or_false, Bool.false_eq_true, if_false]
    exact hjob
  · simp only [hhear, hready, Bool.not_true, Bool.or_false, Bool.false_eq_true, if_false, loopWord]
    rfl

theorem loopReceive_host (s : State) (k : BitVec 4) (p : BitVec 31) (hrun : s.h.run = true) :
    (∃ t, exec (.loopReceive .fh k false p) s = .next t ∧ t.f = s.f.took .loop k ∧
      t.h = s.h.msgDomains.launch ⟨.loop, k, [0x80000000#32 ||| p.setWidth 32], none⟩) ∧
    ∃ t, exec (.loopReceive .fh k true p) s = .next t ∧ t.f = s.f.took .loop k ∧ t.h = s.h.msgDomains := by
  refine ⟨⟨_, congrArg Host.Outcome.next (s.atHost_running .loop k _ hrun), rfl, ?_⟩,
    ⟨_, congrArg Host.Outcome.next (s.atHost_running .loop k _ hrun), rfl, rfl⟩⟩
  rw [← loopWord]
  rfl

theorem idleReceive_heard (s : State) (hs : FieldUp s) :
    (∃ t, exec (.idleReceive .hf) s = .next t ∧ t.h = s.h.gone .idle 0#4 ∧
      t.f = if s.f.bar.sendTick then s.f else { s.f with start := { s.f.start with heldMsg := true } }) ∧
    ∃ t, exec (.idleReceive .fh) s = .next t ∧ t.h = (if s.h.run then s.h.msgDomains else s.h) ∧ t.f = s.f.took .idle 0#4 := by
  refine ⟨⟨_, congrArg Host.Outcome.next (s.atField_running .idle 0#4 id hs.1 (s.f.hear_jobEv.trans hs.2)), rfl, rfl⟩, ⟨_, rfl, ?_⟩⟩
  unfold State.atHost
  dsimp only
  split <;> exact ⟨rfl, rfl⟩

/-- Settles O44: a `TICK` stays, loses the link (`State.linkDown_lost`) or begins a training; an `ECHO` links the field side or begins its
training; `IDLE` and `LOOP` are heard. -/
theorem linkMessagesAct : Obligations.LinkMessagesAct := by
  refine ⟨tickReceive_stays, tickReceive_loses, tickReceive_begins, fun s q c rtt hs htick => ?_,
    fun s q c rtt hs _ htick htrain hact _ hsent hfits => echoReceive_trains s q c rtt hs htick htrain hact hsent hfits,
    idleReceive_heard, loopReceive_field, loopReceive_host⟩
  have hnews := (s.f.echo_links_jobEv rtt htick).trans hs.2
  exact ⟨_, echoReceive_takes s q false c rtt hs.1 hnews, rfl, s.f.echo_links rtt htick⟩

end Sys2Proof.Machine
end

section
/-! The tick source (05_first_second.md section 3): the hand-over to the crystal, its failure to start, its restarts. -/

namespace Sys2Proof.Machine

theorem Field.sendTickMsg_jobEv (f : Field) : f.sendTickMsg.jobEv = f.jobEv := by
  unfold Field.sendTickMsg
  extract_lets _ starts _ _ g
  have hheld : g.jobEv = f.jobEv := by
    unfold g
    split <;> rfl
  split <;> exact hheld

/-- Once the crystal's cycles are counted the tick is its own, with BOOT 0x04; a held message is answered by `TICK` (R166, R184, R188). -/
theorem doCrystalHandover_counted (f : Field) (hrun : f.runs = true) (hrc : f.start.rc = true) (hxtal : f.xtalRuns = true) :
    doCrystalHandover f = Field.sendTickMsg (Field.bootRec { f with start := { f.start with rc := false } } 4 f.clk.stamp) := by
  obtain ⟨halive, hhold⟩ := Bool.and_eq_true_iff.mp hrun
  exact if_pos (by simp [halive, (Bool.not_eq_true' _).mp hhold, hrc, hxtal])

theorem doCrystalHandover_early (f : Field) (hnot : f.start.rc = false ∨ f.xtalRuns = false) : doCrystalHandover f = f :=
  if_neg (by rcases hnot with h | h <;> simp [h])

/-- A crystal that does not run by start frame 128 of a cold start fails its test (R169). -/
theorem doCrystalFail_due (f : Field) (hrun : f.runs = true) (hrc : f.start.rc = true) (hkind : f.start.kind = .cold)
    (hnot : f.start.xtalFail = false) (hdue : 128 ≤ f.start.frames) :
    doCrystalFail f = (Field.setBit { f with start := { f.start with xtalFail := true, xtalNext := f.clk.fno + 64 } } sbTestFail).stage
      (recTest 1 9 0 f.clk.stamp 0 0) :=
  if_pos (by simp [(Bool.and_eq_true_iff.mp hrun).1, hrc, hkind, hnot, hdue])

/-- A failed crystal is restarted when its 64 frames have passed, and counts its cycles anew (R165, R169). -/
theorem doCrystalRestart_due (f : Field) (hrun : f.runs = true) (hrc : f.start.rc = true) (hfail : f.start.xtalFail = true)
    (hdue : f.start.xtalNext ≤ f.clk.fno) :
    doCrystalRestart f = { f with start := { f.start with xtalFrom := f.clk.fno, xtalNext := f.clk.fno + 64 } } :=
  if_pos (by simp [(Bool.and_eq_true_iff.mp hrun).1, hrc, hfail, hdue])

/-- Settles O26: each row by its operation under the conditions of its clause; records and `TICK` leave no news. -/
theorem crystalStarts : Obligations.CrystalStarts := by
  refine ⟨fun s hf hrc hxtal => ?_, fun s hf hnot => ?_, fun s hf hrc hkind hnot hdue => ?_, fun s hf hrc hfail hdue => ?_⟩
  · exact s.fieldStep .crystalHandover rfl (doCrystalHandover_counted s.f hf.1 hrc hxtal)
      ((Field.sendTickMsg_jobEv _).trans ((Field.stage_jobEv _ _).trans hf.2))
  · exact s.fieldStep .crystalHandover rfl (doCrystalHandover_early s.f hnot) hf.2
  · exact s.fieldStep .crystalStartFail rfl (doCrystalFail_due s.f hf.1 hrc hkind hnot hdue) ((Field.stage_jobEv _ _).trans hf.2)
  · exact s.fieldStep .crystalRestart rfl (doCrystalRestart_due s.f hf.1 hrc hfail hdue) hf.2

end Sys2Proof.Machine
end

section
/-! The host side's starts and supplies (05_first_second.md, 03_power_fabric.md), and the transaction that goes out where none waits
(R111, R112). -/

namespace Sys2Proof.Machine

/-- The host side with a transaction unanswered, which has its `SEQ` (R112). -/
def HostSide.asks (h : HostSide) (ty : MsgType) (ws : List Word) : HostSide := HostSide.launch { h with
  bar := { h.bar with unans := some ⟨⟨ty, h.bar.nextSeq, ws, none⟩, 0, false, false⟩, nextSeq := h.bar.nextSeq + 1 } }
  ⟨ty, h.bar.nextSeq, ws, none⟩

/-- Where no transaction is unanswered or waits, one that is sent goes out at once (R111). -/
theorem HostSide.send_alone (h : HostSide) (ty : MsgType) (ws : List Word) (hunans : h.bar.unans = none) (hqueue : h.bar.queue = []) :
    h.send ty ws none = h.asks ty ws := by
  simp only [HostSide.send, HostSide.pump, hunans, hqueue, List.nil_append, takeNext, HostSide.asks]

/-- It is then the unanswered one; the jobs stay. -/
theorem HostSide.send_sent (h : HostSide) (ty : MsgType) (ws : List Word) (hunans : h.bar.unans = none) (hqueue : h.bar.queue = []) :
    (h.send ty ws none).jobs = h.jobs ∧
      (h.send ty ws none).bar.unans = some ⟨⟨ty, h.bar.nextSeq, ws, none⟩, 0, false, false⟩ := by
  rw [h.send_alone ty ws hunans hqueue, HostSide.asks, HostSide.launch_rest]
  exact ⟨rfl, rfl⟩

/-- A launch touches the lane and the count of open values alone, and looks at nothing else. -/
theorem HostSide.launch_pwrq (h : HostSide) (t : Txn) (due : Bool) (age : Nat) :
    { h.launch t with pwrqDue := due, pwrqAge := age } = HostSide.launch { h with pwrqDue := due, pwrqAge := age } t := by
  unfold HostSide.launch
  dsimp only
  split <;> rfl

/-- Settles O47: each row's operation under the conditions of its clause; `PWRQ` goes out at once (`HostSide.send_alone`). -/
theorem hostStartsAndStops : Obligations.HostStartsAndStops := by
  refine ⟨fun s v hstart => ?_, fun s v hrun hdue => ?_, fun s ns hpower hns => ?_, fun s ns hns => ?_, fun s => ?_,
    fun s hrun hdue => ?_, fun s hrun hlink hdue hunans hqueue => ?_, fun s => ?_, fun s hpower hrun => ?_⟩
  · have hcond : ¬ (s.h.run && !s.h.line.resetDue) = true := by rcases hstart with h | h <;> simp [h]
    exact ⟨_, congrArg Host.Outcome.next (if_neg hcond), rfl, rfl, rfl⟩
  · exact ⟨_, congrArg Host.Outcome.next (if_pos (by simp [hrun, hdue])), rfl, rfl, rfl⟩
  · have hlow : ¬ (!s.h.power || decide (ns < 100)) = true := by simp [hpower]; omega
    exact ⟨_, congrArg Host.Outcome.next ((if_neg hlow).trans (if_pos hns)), rfl, rfl, rfl, rfl, rfl, rfl, rfl, rfl, rfl, rfl⟩
  · exact ⟨_, congrArg Host.Outcome.next (if_pos (by simp [hns])), rfl, rfl, rfl⟩
  · exact ⟨_, rfl, rfl, rfl, rfl, rfl, rfl, rfl, rfl, rfl⟩
  · exact s.hostStep .banner rfl (by simp [hrun, hdue]) rfl
  · have hword : pwrqWord s.h.offer = if s.h.offer then 0x1E01#32 else 0#32 := by cases s.h.offer <;> rfl
    obtain ⟨t, ht, honly⟩ := s.hostStep .pwrqSend rfl (by simpa [hrun, hlink] using hdue) rfl
    refine ⟨t, _, ht, rfl, ?_⟩
    dsimp only at honly
    rw [HostSide.send_alone _ _ _ hunans hqueue, hword, HostSide.asks, HostSide.launch_pwrq] at honly
    exact honly
  · exact ⟨_, rfl, rfl, rfl, rfl⟩
  · have hexec : exec .vhostRise s = .next (s.host fun h =>
        { h with vhostOk := true, offer := h.run || h.offer, pwrqDue := h.pwrqDue || (h.bar.link && !h.offer) }) :=
      congrArg Host.Outcome.next (if_neg (by simp [hpower]))
    refine ⟨_, hexec, ?_, rfl, rfl⟩
    simp [State.host, hrun]

end Sys2Proof.Machine
end

section
/-! The bytes of a line and its end (15_command_line.md sections 2, 3 and 5). -/

namespace Sys2Proof.Machine

/-! ### Echoes -/

theorem HostSide.echo_human (h : HostSide) (t : Text) (hmode : h.uart.mode = .human) : h.echo t = h.adds .echo [t] := if_pos hmode

theorem HostSide.echo_machine (h : HostSide) (t : Text) (hmode : h.uart.mode ≠ .human) : h.echo t = h := if_neg hmode

/-! ### One byte (R534, R535) -/

/-- The receiver's byte is no terminator, or it has a framing error. -/
theorem State.byteStep (s : State) (b : Byte) (framing : Bool) {k : HostSide} (hrun : s.h.run = true) (hen : s.h.uart.rxEn = true)
    (hterm : framing = true ∨ b ≠ 0x0D#8 ∧ b ≠ 0x0A#8) (hbyte : s.h.byte b framing = k) :
    ∃ t, exec (.uartByteReceive b framing) s = .next t ∧ OnlyHost s t k := by
  refine s.hostStep (.uartByteReceive b framing) rfl (by simp [hrun, hen]) ((if_neg ?_).trans hbyte)
  rcases hterm with h | ⟨hcr, hlf⟩
  · simp [h]
  · simp [hcr, hlf]

/-- The byte of a printable character. -/
structure Printable (b : Byte) : Prop where
  low : 0x20 ≤ b.toNat
  high : b.toNat ≤ 0x7E

theorem Printable.ne {b c : Byte} (hb : Printable b) (hc : c.toNat < 0x20 ∨ 0x7F ≤ c.toNat) : b ≠ c := by
  rintro rfl
  have := hb.low
  have := hb.high
  omega

/-- A printable character joins the line, or finds it full. -/
theorem HostSide.byte_printable (h : HostSide) {b : Byte} (hb : Printable b) (hopen : h.uart.open' = true) (hskip : h.uart.skip = false) :
    h.byte b false =
      if h.uart.buf.length < 240 then
        HostSide.echo { h.uartActive with uart := { h.uartActive.uart with
          lastCr := false, buf := h.uart.buf ++ [Char.ofNat b.toNat] } } [Char.ofNat b.toNat]
      else { h.uartActive with uart := { h.uartActive.uart with lastCr := false, long := true } } := by
  have hrange : (decide (0x20 ≤ b.toNat) && decide (b.toNat ≤ 0x7E)) = true := by simp [hb.low, hb.high]
  simp only [HostSide.byte, HostSide.uartActive, HostSide.domain, hopen, hskip, hb.ne (c := 0x08#8) (by decide),
    hb.ne (c := 0x7F#8) (by decide), hb.ne (c := 0x15#8) (by decide), hrange, Bool.not_true, Bool.false_eq_true, if_false, if_true,
    decide_false, Bool.or_false, Bool.and_false]

theorem HostSide.byte_framing (h : HostSide) (b : Byte) (hopen : h.uart.open' = true) (hskip : h.uart.skip = false) :
    h.byte b true = { h.uartActive with uart := { h.uartActive.uart with
      lastCr := false, bad := h.uart.bad || !h.uart.rxLow, frm := satAdd h.uart.frm 1 } } := by
  simp only [HostSide.byte, HostSide.uartActive, HostSide.domain, hopen, hskip, Bool.not_true, Bool.false_eq_true, if_false, if_true]

/-- A control character outside human mode spoils the line. -/
theorem HostSide.byte_control (h : HostSide) (b : Byte) (hopen : h.uart.open' = true) (hskip : h.uart.skip = false)
    (hb : b.toNat < 0x20 ∨ 0x7F ≤ b.toNat) (hmode : h.uart.mode ≠ .human) :
    h.byte b false = { h.uartActive with uart := { h.uartActive.uart with lastCr := false, bad := true } } := by
  have hrange : (decide (0x20 ≤ b.toNat) && decide (b.toNat ≤ 0x7E)) = false := by simp; omega
  simp only [HostSide.byte, HostSide.uartActive, HostSide.domain, hopen, hskip, hmode, hrange, Bool.not_true, Bool.false_eq_true, if_false,
    decide_false, Bool.false_and]

/-- BS in human mode takes the last character back. -/
theorem HostSide.byte_backspace (h : HostSide) (l : Text) (c : Char) (hopen : h.uart.open' = true) (hskip : h.uart.skip = false)
    (hmode : h.uart.mode = .human) (hbuf : h.uart.buf = l ++ [c]) :
    h.byte 0x08#8 false =
      HostSide.adds { h.uartActive with uart := { h.uartActive.uart with lastCr := false, buf := l } } .echo [[chBs, ' ', chBs]] := by
  have hne : l ++ [c] ≠ [] := by simp
  simp only [HostSide.byte, HostSide.uartActive, HostSide.domain, hopen, hskip, hmode, hbuf, hne, Bool.not_true, Bool.false_eq_true,
    if_false, if_true, decide_true, Bool.true_or, Bool.and_true, List.dropLast_concat, HostSide.echo_human]

/-- Before the banner has been sent a byte only counts (R179). -/
theorem HostSide.byte_early (h : HostSide) (b : Byte) (hclosed : h.uart.open' = false) :
    h.byte b false = { h.uartActive with uart := { h.uartActive.uart with
      rxEarly := satAdd h.uart.rxEarly 1, skip := true, lastCr := false } } := by
  simp only [HostSide.byte, HostSide.uartActive, HostSide.domain, hclosed, Bool.not_false, if_true]
  rfl

/-! ### The terminator (R533, R536, R552) -/

/-- The host side at the CR of a line: the receiver holds no character of it any more. -/
def HostSide.lineEnded (h : HostSide) : HostSide :=
  { h.uartActive with uart := { h.uartActive.uart with lastCr := true, buf := [], long := false, bad := false } }

/-- CR ends the line: it is taken, or, where it is empty, a prompt goes out. -/
theorem HostSide.terminator_cr (h : HostSide) (late : Bool) (hopen : h.uart.open' = true) (hskip : h.uart.skip = false) :
    h.terminator 0x0D#8 late =
      if h.uart.buf = [] ∧ h.uart.long = false ∧ h.uart.bad = false then (h.lineEnded.echo [chCr, chLf]).prompt
      else (h.lineEnded.echo [chCr, chLf]).takeLine h.uart.buf h.uart.long h.uart.bad late := by
  simp [HostSide.terminator, HostSide.lineEnded, Uart.fresh, HostSide.uartActive, HostSide.domain, hopen, hskip, and_assoc]

/-- Outside human mode an empty line does nothing. -/
theorem HostSide.terminator_cr_empty (h : HostSide) (late : Bool) (hopen : h.uart.open' = true) (hskip : h.uart.skip = false)
    (hmode : h.uart.mode ≠ .human) (htx : h.line.tx = []) (hbuf : h.uart.buf = []) (hlong : h.uart.long = false)
    (hbad : h.uart.bad = false) :
    h.terminator 0x0D#8 late = { h.uartActive with uart := { h.uartActive.uart with lastCr := true } } := by
  have hend : h.lineEnded = { h.uartActive with uart := { h.uartActive.uart with lastCr := true } } := by
    simp only [HostSide.lineEnded, HostSide.uartActive, HostSide.domain, hbuf, hlong, hbad]
  have hsend : h.lineEnded.sendMode = h.uart.mode := by
    rw [HostSide.sendMode, show h.lineEnded.line.tx = [] from htx]
    rfl
  rw [h.terminator_cr late hopen hskip, if_pos ⟨hbuf, hlong, hbad⟩, h.lineEnded.echo_machine _ hmode, ← hend]
  exact if_neg (hsend.trans_ne hmode)

/-- In human mode CR LF is echoed, and the line is taken. -/
theorem HostSide.terminator_cr_human (h : HostSide) (late : Bool) (hopen : h.uart.open' = true) (hskip : h.uart.skip = false)
    (hmode : h.uart.mode = .human) (hline : ¬ (h.uart.buf = [] ∧ h.uart.long = false ∧ h.uart.bad = false)) :
    h.terminator 0x0D#8 late =
      (h.lineEnded.adds .echo [[chCr, chLf]]).takeLine h.uart.buf h.uart.long h.uart.bad late := by
  rw [h.terminator_cr late hopen hskip, if_neg hline, h.lineEnded.echo_human _ hmode]

/-- The LF after a CR is no second end (R533). -/
theorem HostSide.terminator_lf (h : HostSide) (late : Bool) (hopen : h.uart.open' = true) (hskip : h.uart.skip = false)
    (hcr : h.uart.lastCr = true) :
    h.terminator 0x0A#8 late = { h.uartActive with uart := { h.uartActive.uart with lastCr := false } } := by
  simp [HostSide.terminator, HostSide.uartActive, HostSide.domain, hopen, hskip, hcr]

/-! ### The checks of a line in human mode (R541, R552, R553) -/

/-- A line without errors in its characters waits with what its text parses to, and keeps the new rate (R532). -/
theorem HostSide.takeLine_parsed (h : HostSide) (t : Text) (late : Bool) (i : Instr) (hmode : h.uart.mode = .human)
    (htag : t.head? ≠ some '@') (hroom : h.line.lines.length < 8) (hparse : parseLine t = ([.cmd i], 1, none)) :
    h.takeLine t false false late = h.passed.enqueue ⟨none, t, [.cmd i], 1, none, false, late⟩ := by
  have hfull : ¬ Config.lineQueueDepth ≤ h.line.lines.length := Nat.not_le.mpr hroom
  simp [HostSide.takeLine, checkLine, hmode, htag, hfull, hparse]

/-- A line that is too long or has a bad character waits with its error. -/
theorem HostSide.takeLine_spoiled (h : HostSide) (t : Text) (long bad late : Bool) (hmode : h.uart.mode = .human)
    (hspoiled : long = true ∨ bad = true) (hroom : h.line.lines.length < 8) :
    h.takeLine t long bad late = h.enqueue ⟨none, t, [], 1, some (if long then 14 else 10, none), false, late⟩ := by
  have hfull : ¬ Config.lineQueueDepth ≤ h.line.lines.length := Nat.not_le.mpr hroom
  cases long with
  | true => simp [HostSide.takeLine, checkLine, hmode, hfull]
  | false => simp [HostSide.takeLine, checkLine, hmode, hfull, hspoiled.resolve_left Bool.false_ne_true]

/-! ### The rows -/

theorem State.terminatorStep (s : State) (b : Byte) (late : Bool) {k : HostSide} (hrec : Receiving s) (hterm : s.h.terminator b late = k) :
    ∃ t, exec (.lineReceive b late) s = .next t ∧ OnlyHost s t k := by
  obtain ⟨hrun, hen, -, -⟩ := hrec
  exact s.hostStep (.lineReceive b late) rfl (by simp [hrun, hen]) hterm

/-- Settles O48: bytes by `State.byteStep` and the `HostSide.byte_` lemmas, ends by `HostSide.terminator_cr` and what takes the line. -/
theorem linesAreReceived : Obligations.LinesAreReceived := by
  refine ⟨⟨fun s b hrec hlow hhigh hroom => ?_, fun s b hrec hlow hhigh hfull => ?_, fun s b hrec => ?_,
      fun s b hrec hb hcr hlf hmode => ?_, fun s l c hrec hmode hbuf => ?_, fun s b hrun hen hclosed hcr hlf => ?_⟩,
    fun s late hrec hmode hbuf hlong hbad htx => ?_, fun s late i hrec hmode hbuf htag hlong hbad hroom hparse => ?_,
    fun s late hrec hmode hbuf hspoiled hroom => ?_, fun s late hrec hcr => ?_⟩
  · obtain ⟨hrun, hen, hopen, hskip⟩ := hrec
    have hb : Printable b := ⟨hlow, hhigh⟩
    obtain ⟨t, ht, honly⟩ := s.byteStep b false hrun hen (.inr ⟨hb.ne (by decide), hb.ne (by decide)⟩)
      ((s.h.byte_printable hb hopen hskip).trans (if_pos hroom))
    exact ⟨t, _, ht, rfl, honly⟩
  · obtain ⟨hrun, hen, hopen, hskip⟩ := hrec
    have hb : Printable b := ⟨hlow, hhigh⟩
    exact s.byteStep b false hrun hen (.inr ⟨hb.ne (by decide), hb.ne (by decide)⟩)
      ((s.h.byte_printable hb hopen hskip).trans (if_neg (Nat.not_lt.mpr hfull)))
  · obtain ⟨hrun, hen, hopen, hskip⟩ := hrec
    exact s.byteStep b true hrun hen (.inl rfl) (s.h.byte_framing b hopen hskip)
  · obtain ⟨hrun, hen, hopen, hskip⟩ := hrec
    exact s.byteStep b false hrun hen (.inr ⟨hcr, hlf⟩) (s.h.byte_control b hopen hskip hb hmode)
  · obtain ⟨hrun, hen, hopen, hskip⟩ := hrec
    exact s.byteStep 0x08#8 false hrun hen (.inr (by decide)) (s.h.byte_backspace l c hopen hskip hmode hbuf)
  · exact s.byteStep b false hrun hen (.inr ⟨hcr, hlf⟩) (s.h.byte_early b hclosed)
  · have ⟨_, _, hopen, hskip⟩ := hrec
    exact s.terminatorStep 0x0D#8 late hrec
      (s.h.terminator_cr_empty late hopen hskip (by simp [hmode]) htx hbuf hlong hbad)
  · have ⟨_, _, hopen, hskip⟩ := hrec
    refine s.terminatorStep 0x0D#8 late hrec ((s.h.terminator_cr_human late hopen hskip hmode fun h => hbuf h.1).trans ?_)
    rw [hlong, hbad, (s.h.lineEnded.adds .echo [[chCr, chLf]]).takeLine_parsed _ late i hmode htag hroom hparse]
    simp only [HostSide.lineEnded, HostSide.uartActive, HostSide.domain, hlong, hbad, HostSide.adds, HostSide.passed, HostSide.enqueue]
  · have ⟨_, _, hopen, hskip⟩ := hrec
    have hline : ¬ (s.h.uart.buf = [] ∧ s.h.uart.long = false ∧ s.h.uart.bad = false) := by
      rcases hspoiled with h | h <;> simp [h]
    exact s.terminatorStep 0x0D#8 late hrec ((s.h.terminator_cr_human late hopen hskip hmode hline).trans
      (HostSide.takeLine_spoiled _ _ _ _ _ hmode hspoiled hroom))
  · have ⟨_, _, hopen, hskip⟩ := hrec
    exact s.terminatorStep 0x0A#8 late hrec (s.h.terminator_lf late hopen hskip hcr)

end Sys2Proof.Machine
end

section
/-! What the host side reads, and its job slices (10_event_capture.md, 17_status_jobs.md, 19_layout_table.md). -/

namespace Sys2Proof.Machine

/-! ### PPS edges (R380, R593) -/

/-- An edge outside the dead time, which is at most 2.0 µs, is stamped. -/
theorem execPpsEdge_stamps (s : State) (o ns : Nat) (hrun : s.h.run = true) (hon : s.h.pps.on = true) (hns : 100 ≤ ns)
    (hlast : ∀ n, s.h.pps.last = some n → n + 8590 ≤ s.h.bar.mir + o) :
    execPpsEdge o ns s = .next { s with h := { s.h with pps := { s.h.pps with
      stamps := ((s.h.stampAt o, false) :: s.h.pps.stamps).take 4, cnt := satAdd s.h.pps.cnt 1, last := some (s.h.bar.mir + o) } } } := by
  refine congrArg Host.Outcome.next (if_pos ?_)
  cases hprev : s.h.pps.last with
  | none => simp [hrun, hon, hns]
  | some n =>
    have hpast : ¬ s.h.bar.mir + o < n + Config.ppsDead.val := by
      have := hlast n hprev
      have := Config.ppsDead.isLt
      omega
    simp [hrun, hon, hns, HostSide.stampAt, hpast]

/-! ### The polarity of PON_H and the overlay (R698, R729) -/

theorem HostSide.launch_pon (h : HostSide) (t : Txn) (p : PonH) :
    { h.launch t with pon := p } = HostSide.launch { h with pon := p } t := by
  unfold HostSide.launch
  dsimp only
  split <;> rfl

/-- Where the overlay is merged, the field side serves the first copy that passes (R696). -/
theorem execOverlayMerge_merges (s : State) (b2 b3 : Bool) (hrun : s.h.run = true) (hlink : s.h.bar.link = true)
    (hmerge : s.h.table.merge.isSome = true) :
    execOverlayMerge b2 b3 s = .next { s with
      f := if b2 && s.f.ovl.s2.isSome then s.f else s.f.setBit sbNvmErr,
      h := { s.h with table :=
        ⟨true, (s.f.ovl.served b2 b3).isSome, (s.f.ovl.served b2 b3).isNone, (s.f.ovl.served b2 b3).getD [], none⟩ } } :=
  congrArg Host.Outcome.next (if_pos (by simp [hrun, hlink, hmerge]))

/-! ### The job whose slice runs (R630) -/

/-- One job is live, `j` in slot `i`. -/
structure HostSide.OnlyJob (h : HostSide) (i : Nat) (j : Job) : Prop where
  slot : i < 4
  job : h.jobs[i]? = some j
  live : j.live = true
  alone : ∀ k, k < 4 → k ≠ i → (h.jobOf k).live = false

theorem HostSide.OnlyJob.jobOf {h : HostSide} {i : Nat} {j : Job} (a : h.OnlyJob i j) : h.jobOf i = j := by
  rw [HostSide.jobOf, a.job, Option.getD_some]

theorem filter_range_single {p : Nat → Bool} {i n : Nat} (hi : i < n) (hp : ∀ k < n, p k = (k == i)) : (List.range n).filter p = [i] := by
  rw [List.filter_congr fun k hk => hp k (List.mem_range.mp hk), List.filter_beq,
    List.count_eq_one_of_mem List.nodup_range (List.mem_range.mpr hi), List.replicate_one]

/-- The only live job is the one whose slice runs, where it is of a kind `p`. -/
theorem HostSide.OnlyJob.firstOf {h : HostSide} {i : Nat} {j : Job} (a : h.OnlyJob i j) (p : JobInfo → Bool) (hp : p j.info = true) :
    h.firstOf p = some i := by
  have hslots : h.slotsOf p = [i] := by
    refine filter_range_single a.slot fun k hk => ?_
    by_cases hki : k = i
    · subst hki
      simp [a.job, a.live, hp]
    · have hdead := a.alone k hk hki
      rw [HostSide.jobOf, Vector.getElem?_eq_getElem hk, Option.getD_some] at hdead
      simp [hk, hdead, hki]
  rw [HostSide.firstOf, hslots]
  rfl

theorem HostSide.putJob_some (h : HostSide) (i : Nat) (g : Job → Job) {j : Job} (hj : h.jobs[i]? = some j) :
    h.putJob i g = { h with jobs := h.jobs.setIfInBounds i (g j) } := by
  simp only [HostSide.putJob, hj]

/-- A live job that changes and ends takes its last state, and `JOB_DONE` sets (R631, R632). -/
theorem HostSide.endJob_putJob (h : HostSide) (i : Nat) (g : Job → Job) (st err : Nat) {j : Job} (hj : h.jobs[i]? = some j)
    (hlive : (g j).live = true) : (h.putJob i g).endJob i st err = HostSide.setBit { h with jobs := h.jobs.setIfInBounds i { g j with
      st := st, prog := if st = 3 || st = 4 then 100 else (g j).prog, err := if st = 5 then err else 0 } } sbJobDone := by
  obtain ⟨hi, -⟩ := Vector.getElem?_eq_some_iff.mp hj
  have hget : (h.putJob i g).jobs[i]? = some (g j) := by simp [h.putJob_some i g hj, hi]
  simp only [HostSide.endJob, hget, hlive, Bool.not_true, Bool.false_eq_true, if_false, HostSide.putJob_some _ i _ hget]
  simp only [h.putJob_some i g hj, Vector.setIfInBounds_setIfInBounds]

/-- An export or verify with a slot still to come asks for it (R431). -/
theorem execHostJobSlice_asks (s : State) {i : Nat} {j : Job} (hrun : s.h.run = true) (a : s.h.OnlyJob i j) {bsns : List Word}
    {got : List Slot} {ring n unc blk : Nat} {prev : Slot} {bad : Bool} {w0 w1 : Word}
    (hinfo : j.info = .journal bsns got ring n none prev unc blk bad) (hreq : nextReq bsns got.length ring n = some (w0, w1)) :
    execHostJobSlice s = .next (s.host fun h =>
      (h.putJob i fun j => { j with info := .journal bsns got ring n (some (w0, w1)) prev unc blk bad }).send .jreq [w0, w1] none) := by
  unfold execHostJobSlice
  dsimp only
  rw [a.firstOf _ (by rw [hinfo])]
  simp only [hrun, a.jobOf, hinfo, hreq, Bool.not_true, Bool.false_eq_true, if_false]

/-- With every slot received it ends (R432). -/
theorem execHostJobSlice_ends (s : State) {i : Nat} {j : Job} (hrun : s.h.run = true) (a : s.h.OnlyJob i j) {bsns : List Word}
    {got : List Slot} {ring n unc blk : Nat} {prev : Slot} {bad : Bool}
    (hinfo : j.info = .journal bsns got ring n none prev unc blk bad) (hreq : nextReq bsns got.length ring n = none) :
    execHostJobSlice s = .next (s.endJrn i (decide (j.kind = 2)) unc bad) := by
  unfold execHostJobSlice
  dsimp only
  rw [a.firstOf _ (by rw [hinfo])]
  simp only [hrun, a.jobOf, hinfo, hreq, Bool.not_true, Bool.false_eq_true, if_false]

/-- `DESC.DUMP` delivers the next part of the table (R610). -/
theorem execHostJobSlice_dumps (s : State) {i o : Nat} {j : Job} (hrun : s.h.run = true) (a : s.h.OnlyJob i j) (hinfo : j.info = .desc o) :
    execHostJobSlice s = .next (s.descSlice i o) := by
  unfold execHostJobSlice
  dsimp only
  rw [a.firstOf _ (by rw [hinfo])]
  simp only [hrun, a.jobOf, hinfo, Bool.not_true, Bool.false_eq_true, if_false]

/-! ### What the slices leave -/

/-- An export whose slots have all come ends DONE_OK with its certificate, and `JOB_DONE` sets (R432, R631). -/
theorem State.endJrn_export (s : State) {i : Nat} {j : Job} (a : s.h.OnlyJob i j) (x : JrnJob) (bad : Bool) (hjob : s.f.jrn.job = some x) :
    (s.endJrn i false 0 bad).h = HostSide.setBit { s.h with jobs := s.h.jobs.setIfInBounds i { j with
      st := 3, prog := 100, err := 0, lines := j.lines ++ [s.f.certificate x] } } sbJobDone := by
  simp only [State.endJrn, hjob, Bool.false_eq_true, if_false, Bool.false_and, Nat.lt_irrefl, decide_false, Bool.or_self]
  exact s.h.endJob_putJob i _ 3 0 a.job a.live

/-- A dump that has not reached the table's end delivers 1 KiB more (R610). -/
theorem State.descSlice_more (s : State) {i o : Nat} {j : Job} (a : s.h.OnlyJob i j) (hmore : o + 1024 < s.h.table.len) :
    s.descSlice i o = { s with h := { s.h with jobs := s.h.jobs.setIfInBounds i { j with
      st := 2, prog := max j.prog (min 99 (100 * (o + 1024) / s.h.table.len)), info := .desc (o + 1024),
      lines := j.lines ++ s.h.table.lines s.f.fuse 32 o 1024 } } } := by
  have hlen : min 1024 (s.h.table.len - o) = 1024 := by omega
  have hpos : s.h.table.len ≠ 0 := by omega
  have hnot : ¬ s.h.table.len ≤ o + 1024 := by omega
  simp only [State.descSlice, hlen, hnot, if_false, s.h.putJob_some i _ a.job, Job.shows, hpos]

/-- Settles O51: each row's operation under the conditions of its clause; the job slice by `execHostJobSlice_asks`, `_ends`, `_dumps`. -/
theorem hostReadsAndJobsAdvance : Obligations.HostReadsAndJobsAdvance := by
  refine ⟨⟨fun s o ns hrun hon hns hlast => ?_, fun s o ns hnone => ?_, fun s hrun hlink hdue hunans hqueue => ?_,
      fun s b2 b3 hrun hlink hmerge => ?_⟩,
    fun s i j b rest got ring n unc blk prev bad hrun hi hj hlive honly hinfo hunans hqueue => ?_,
    fun s i j ring prev blk bad x hrun hi hj hlive hkind honly hinfo hx hverify => ?_,
    fun s i o j hrun hi hj hlive honly hinfo hmore => ?_⟩
  · exact ⟨_, execPpsEdge_stamps s o ns hrun hon hns hlast, rfl, rfl, rfl⟩
  · refine ⟨_, congrArg Host.Outcome.next (if_neg ?_), rfl, rfl, rfl⟩
    rcases hnone with hshort | hoff
    · simp [Nat.not_le.mpr hshort]
    · simp [hoff]
  · obtain ⟨t, ht, honly⟩ := s.hostStep .ponPolarityRead rfl (by simp [hrun, hlink, hdue]) rfl
    refine ⟨t, _, ht, rfl, ?_⟩
    rw [HostSide.send_alone _ _ _ hunans hqueue, HostSide.asks, HostSide.launch_pon] at honly
    exact honly
  · refine ⟨_, execOverlayMerge_merges s b2 b3 hrun hlink hmerge, rfl, ?_, ?_⟩
    · simp
    · cases h2 : (if b2 then s.f.ovl.s2 else none) <;> cases h3 : (if b3 then s.f.ovl.s3 else none) <;> simp [Ovl.served, h2, h3]
  · have a : s.h.OnlyJob i j := ⟨hi, hj, hlive, honly⟩
    refine ⟨_, _, execHostJobSlice_asks s hrun a hinfo rfl, rfl, rfl, ?_⟩
    rw [State.host_h, s.h.putJob_some i _ hj]
    exact HostSide.send_sent _ _ _ hunans hqueue
  · have a : s.h.OnlyJob i j := ⟨hi, hj, hlive, honly⟩
    have hend := s.endJrn_export a x bad hx
    have hexport : decide (j.kind = 2) = false := by simp [hkind]
    refine ⟨_, (execHostJobSlice_ends s hrun a hinfo (by simp [nextReq])).trans (by rw [hexport]), ?_, ?_, ?_⟩
    · rw [hend, HostSide.bit_setBit _ (by decide)]
    · rw [hend, HostSide.setBit_jobs]
    · simp [State.endJrn, Field.endJrnJob, hx, hverify]
  · have a : s.h.OnlyJob i j := ⟨hi, hj, hlive, honly⟩
    exact ⟨_, (execHostJobSlice_dumps s hrun a hinfo).trans (congrArg _ (s.descSlice_more a hmore)), rfl, rfl, rfl⟩

end Sys2Proof.Machine
end

section
/-! A cold start that rebuilds the wear map (R422, R423): the open block is sealed over the anchor that the rebuild left, where the logs
held another; the seal tells the two apart (R414). -/

namespace Sys2Proof.Machine

/-! ### Messages of equal blocks under SHA-256 -/

/-- `delta` leaves the two sides as recursors on one step; by `rfl` alone the kernel would evaluate the block. -/
theorem shaBlocks_succ (n : Nat) (m : List Byte) (s : ShaSt) :
    shaBlocks (n + 1) m s = shaBlocks n (m.drop 64) (shaBlock s (m.take 64)) := by
  delta shaBlocks
  rfl

theorem shaBlocks_cons (n : Nat) (c m : List Byte) (s : ShaSt) (hc : c.length = 64) :
    shaBlocks (n + 1) (c ++ m) s = shaBlocks n m (shaBlock s c) := by
  rw [shaBlocks_succ, List.take_left' hc, List.drop_left' hc]

/-- A block that stands `n` times is compressed `n` times. -/
theorem shaBlocks_replicate (n k : Nat) (c m : List Byte) (s : ShaSt) (hc : c.length = 64) :
    shaBlocks (k + n) ((List.replicate n c).flatten ++ m) s = shaBlocks k m ((shaBlock · c)^[n] s) := by
  induction n generalizing s with
  | zero => rfl
  | succ n ih =>
    rw [List.replicate_succ, List.flatten_cons, List.append_assoc, ← Nat.add_assoc, shaBlocks_cons _ _ _ _ hc, ih,
      Function.iterate_succ_apply]

/-! ### The seal of a block with a header alone -/

/-- The bytes of erased slots (R412), two of which fill a block of SHA-256. -/
def erasedBytes (n : Nat) : List Byte := List.replicate n 0xFF#8

/-- The end of the message of a seal: slot 126 erased, the seal before, the padding. -/
def sealTail (prev : Slot) : List Byte :=
  erasedBytes 32 ++ (slotBytes prev ++ (0x80#8 :: List.replicate 55 0#8 ++ bytesBE 8 32768))

/-- SHA-256 between the header's block and the end of the message. -/
def sealMiddle (header : Slot) : ShaSt := (shaBlock · (erasedBytes 64))^[62] (shaBlock shaInit (slotBytes header ++ erasedBytes 32))

theorem erasedBytes_length (n : Nat) : (erasedBytes n).length = n := List.length_replicate

theorem bytesLE_length (k v : Nat) : (bytesLE k v).length = k := by
  induction k generalizing v with
  | zero => rfl
  | succ k ih => rw [bytesLE, List.length_cons, ih]

theorem slotBytes_length (s : Slot) : (slotBytes s).length = 32 := bytesLE_length 32 s.toNat

/-- The message of the seal, by the blocks that `sealMiddle` has and the rest. -/
theorem sealMessage_headerOnly (header prev : Slot) :
    ((header :: List.replicate 126 erasedSlot).map slotBytes).flatten ++ slotBytes prev =
      (slotBytes header ++ erasedBytes 32) ++ ((List.replicate 62 (erasedBytes 64)).flatten ++ (erasedBytes 32 ++ slotBytes prev)) := by
  have herased : slotBytes erasedSlot = erasedBytes 32 := by decide
  have hfill : erasedBytes (126 * 32) = erasedBytes 32 ++ (erasedBytes (62 * 64) ++ erasedBytes 32) := by
    simp only [erasedBytes, List.replicate_append_replicate]
  simp only [erasedBytes] at herased hfill
  simp only [List.map_cons, List.map_replicate, List.flatten_cons, herased, erasedBytes, List.flatten_replicate_replicate, hfill,
    List.append_assoc]

theorem sealOf_headerOnly (header prev : Slot) : sealOf (header :: List.replicate 126 erasedSlot) prev =
    let s := shaBlocks 2 (sealTail prev) (sealMiddle header)
    slotOfBytes (([s.a, s.b, s.c, s.d, s.e, s.f, s.g, s.h].map fun w => bytesBE 4 w.toNat).flatten) := by
  have hhead : (slotBytes header ++ erasedBytes 32).length = 64 := by simp [slotBytes_length, erasedBytes_length]
  have hlen : (((header :: List.replicate 126 erasedSlot).map slotBytes).flatten ++ slotBytes prev).length = 4096 := by
    simp [slotBytes_length]
  have hpadded : ((header :: List.replicate 126 erasedSlot).map slotBytes).flatten ++ slotBytes prev ++
      (0x80#8 :: List.replicate 55 0#8) ++ bytesBE 8 32768 =
        (slotBytes header ++ erasedBytes 32) ++ ((List.replicate 62 (erasedBytes 64)).flatten ++ sealTail prev) := by
    rw [sealMessage_headerOnly]
    simp only [sealTail, List.append_assoc]
  have hcount : ((slotBytes header ++ erasedBytes 32) ++ ((List.replicate 62 (erasedBytes 64)).flatten ++ sealTail prev)).length / 64 = 65 := by
    rw [← hpadded, List.length_append, List.length_append, hlen, bytesBE, List.length_reverse, bytesLE_length]
    simp
  have hblocks : shaBlocks 65 ((slotBytes header ++ erasedBytes 32) ++ ((List.replicate 62 (erasedBytes 64)).flatten ++ sealTail prev))
      shaInit = shaBlocks 2 (sealTail prev) (sealMiddle header) := by
    rw [shaBlocks_cons 64 _ _ _ hhead, shaBlocks_replicate 62 2 _ _ _ (erasedBytes_length 64), sealMiddle]
  unfold sealOf sha256
  simp only [hlen, Nat.reduceMod, Nat.reduceSub, Nat.reduceMul, hpadded, hcount, hblocks]

/-- The header of block 7 (R413). -/
def header7 : Slot := headerSlot 7#32 State.reset.f.uid 0#16 0#16 0#72 false false

/-- Two anchors before one block give two seals. -/
theorem sealOf_headerOnly_ne : sealOf (header7 :: List.replicate 126 erasedSlot) 0#256 ≠
    sealOf (header7 :: List.replicate 126 erasedSlot) 1#256 := by
  rw [sealOf_headerOnly, sealOf_headerOnly]
  decide +kernel

/-! ### The mount after the rebuild -/

/-- The journal with another anchor. -/
def Field.withAnchor (f : Field) (a : Slot) : Field := { f with jrn := { f.jrn with anchor := a } }

/-- A mount that finds no log of the wear map takes nothing from the anchor that stood there (R422). -/
theorem doJournalMount_forgets_anchor (f : Field) (a : Slot) (keyAOk keyBOk : Bool)
    (hdue : ¬ (!f.slices || f.start.mounted || f.start.s0 || decide (f.start.frames < 6)) = true) :
    doJournalMount false keyAOk keyBOk (f.withAnchor a) = doJournalMount false keyAOk keyBOk f := by
  have hdue' : ¬ (!(f.withAnchor a).slices || (f.withAnchor a).start.mounted || (f.withAnchor a).start.s0 ||
    decide ((f.withAnchor a).start.frames < 6)) = true := hdue
  unfold doJournalMount
  rw [if_neg hdue, if_neg hdue']
  rfl

/-- Block 7, open, with its header alone. -/
def headerBlk : Blk := ⟨7#32, 7, [(0, header7)]⟩

theorem headerBlk_slots : (List.range 127).map headerBlk.slot = header7 :: List.replicate 126 erasedSlot := by decide +kernel

/-- A cold start in start frame 6: blocks 0 to 6 have been exported and erased (R437, R438), block 7 is open. -/
def coldMount : Field := { State.reset.f with
  start := { State.reset.f.start with alive := true, por := false, s0 := false, mounted := false, frames := 6 }
  jrn := { newJrn with blocks := [headerBlk], nextBsn := 8#32, expBsn := some 6#32, erased := newJrn.erased.filter (· ≠ 7) } }

/-- No block stands before block 7: its seal goes over the anchor (R438). -/
theorem coldMount_sealOpen (a : Slot) : (coldMount.withAnchor a).jrn.sealOpen.blocks =
    [⟨7#32, 7, [(0, header7), (127, sealOf (header7 :: List.replicate 126 erasedSlot) a)]⟩] := by
  rw [← headerBlk_slots]
  rfl

theorem coldMount_mounts (a : Slot) : exec (.journalMount false true true) { State.reset with f := coldMount.withAnchor a } =
    .next (State.reset.withField (doJournalMount false true true coldMount)) :=
  congrArg (fun g => Host.Outcome.next (State.reset.withField g)) (doJournalMount_forgets_anchor coldMount a true true (by decide))

/-- Refutes O30: its clause on a cold start has the open block sealed over the anchor of the wear map, yet where no log of the map passes
the rebuild puts an open value in the anchor's place (R422, notes/assumptions/87.md): one mount cannot have the seals of two anchors. -/
theorem not_fieldStartCompletes : ¬ Obligations.FieldStartCompletes := by
  rintro ⟨-, hmount, -⟩
  have hblocks (a : Slot) : (State.reset.withField (doJournalMount false true true coldMount)).f.jrn.blocks =
      (coldMount.withAnchor a).jrn.sealOpen.blocks := by
    obtain ⟨t, hexec, -, -, -, -, -, -, -, -, hcold, -⟩ := hmount { State.reset with f := coldMount.withAnchor a } false true true
      ⟨rfl, rfl⟩ rfl rfl rfl (le_refl 6)
    rw [coldMount_mounts a] at hexec
    rw [Host.Outcome.next.inj hexec]
    exact hcold rfl rfl rfl rfl
  have hseals := (coldMount_sealOpen 0#256).symm.trans ((hblocks 0#256).symm.trans ((hblocks 1#256).trans (coldMount_sealOpen 1#256)))
  simp only [List.cons.injEq, Blk.mk.injEq, Prod.mk.injEq, and_true, true_and] at hseals
  exact sealOf_headerOnly_ne hseals

end Sys2Proof.Machine
end

section
/-! The staged registers and pair groups of the field side (Table 20-7): what a staged write leaves, and what the apply of a group takes or
refuses (R217 to R226, R561 to R570). -/

namespace Sys2Proof.Machine

/-! ### The registers of an array -/

theorem regIdx_at (base : Nat) {n i : Nat} (hi : i < n) : regIdx base n (base + 4 * i) = some i := by
  have hin : (decide (base ≤ base + 4 * i) && decide (base + 4 * i < base + 4 * n) && decide ((base + 4 * i - base) % 4 = 0)) = true := by
    simp
    omega
  rw [regIdx, if_pos hin, show (base + 4 * i - base) / 4 = i by omega]

theorem regIdx_outside {base n a : Nat} (ha : a < base ∨ base + 4 * n ≤ a) : regIdx base n a = none := by
  refine if_neg ?_
  simp
  omega

/-! ### `TSET` (R217 to R226) -/

/-- R217: a write of a TSET register is staged. -/
theorem Field.writeReg_tset (f : Field) (c : Clk) {i : Nat} (hi : i < 8) (w : Word) :
    f.writeReg c (0x1040 + 4 * i) w = ({ f with tset := f.tset.stage c i (w.setWidth 8) }, 0) := by
  rw [Field.writeReg, regIdx_at 0x1040 hi]

/-- R221: a write of `TSET_GO` applies the staged set. -/
theorem Field.writeReg_tsetGo (f : Field) (c : Clk) : f.writeReg c 0x1060 1#32 = f.tsetGo := rfl

theorem Field.tsetGo_taken (f : Field) (htrack : f.refs.tracking = false) (hfilled : f.tset.filled = true)
    (hbad : tsetBad f.tset.fields (f.tset.wmask.getLsbD 3) = false) : f.tsetGo = (tsetTaken f f.tset.fields, 0) := by
  have hcheck : ¬ (f.refs.tracking || !f.tset.filled) = true := by simp [htrack, hfilled]
  rw [Field.tsetGo, if_neg hcheck, if_neg (Bool.not_eq_true _ ▸ hbad)]
  rfl

/-- R224 comes before Table 6-5 (R222). -/
theorem Field.tsetGo_refused (f : Field)
    (h : (f.refs.tracking || !f.tset.filled || tsetBad f.tset.fields (f.tset.wmask.getLsbD 3)) = true) :
    f.tsetGo = ({ f with tset := { f.tset with lastRej := true } }, if (f.refs.tracking || !f.tset.filled) = true then 22 else 21) := by
  by_cases hcheck : (f.refs.tracking || !f.tset.filled) = true
  · rw [Field.tsetGo, if_pos hcheck, if_pos hcheck]
  · have hbad : tsetBad f.tset.fields (f.tset.wmask.getLsbD 3) = true := by
      rw [Bool.not_eq_true] at hcheck
      rwa [hcheck, Bool.false_or] at h
    rw [Field.tsetGo, if_neg hcheck, if_neg hcheck, if_pos hbad]

/-- What an apply of `TSET` leaves apart from the staging and what waits, and its error. -/
theorem Field.tsetGo_rest (f : Field) :
    f.tsetGo.1 = { f with tset := f.tsetGo.1.tset, pendW := f.tsetGo.1.pendW } ∧ f.tsetGo.2 < 256 := by
  unfold Field.tsetGo
  dsimp only
  split
  · exact ⟨rfl, (by decide : 22 < 256)⟩
  · split
    · exact ⟨rfl, (by decide : 21 < 256)⟩
    · exact ⟨rfl, (by decide : 0 < 256)⟩

/-- The apply of `TSET` does not look at the barrier. -/
theorem Field.tsetGo_bar (f : Field) (b : FBar) :
    Field.tsetGo { f with bar := b } = ({ f.tsetGo.1 with bar := b }, f.tsetGo.2) := by
  unfold Field.tsetGo
  dsimp only
  split
  · rfl
  · split <;> rfl

/-! ### The probes (R383) -/

/-- A write of `PRBn` without its apply bit is staged (R561). -/
theorem Field.writeReg_prb (f : Field) (c : Clk) {n : Nat} (hn : n < 4) (w : Word) (hbit : bitOf w 31 = false) :
    f.writeReg c (0x1510 + 4 * n) w = (f.stagePrb n w, 0) := by
  have hne (b : Nat) (hb : b < 0x1510) : 0x1510 + 4 * n ≠ b := by omega
  have htset : regIdx 0x1040 8 (0x1510 + 4 * n) = none := regIdx_outside (.inr (by omega))
  have halarm : regIdx 0x1200 8 (0x1510 + 4 * n) = none := regIdx_outside (.inr (by omega))
  rw [Field.writeReg, htset]
  dsimp only
  rw [if_neg (hne _ (by decide)), if_neg (hne _ (by decide)), if_neg (hne _ (by decide)), halarm]
  dsimp only
  rw [regIdx_at 0x1510 hn]
  exact if_neg (Bool.not_eq_true _ ▸ hbit)

end Sys2Proof.Machine
end

section
/-! Accesses of a line that a register answers at once whatever they leave on the field side (04_barrier.md section 3), and the pair groups
that a line's one command names (Table 20-7, R564, R584). -/

namespace Sys2Proof.Machine

/-! ### Exchanges in turn -/

/-- Two exchanges in turn are one, with what the second leaves. -/
theorem exchanged_trans {s t u : State} {f g : Field} (a : Exchanged s t s.h f) (b : Exchanged t u t.h g) (hbar : g.bar = t.f.bar) :
    Exchanged s u s.h { g with bar := f.bar } := by
  obtain ⟨q, d, n, x, hd, ht⟩ := exchanged_iff.mp a
  obtain ⟨q', d', n', x', hd', hu⟩ := exchanged_iff.mp b
  refine exchanged_iff.mpr ⟨q', d', n', x', ?_, ?_⟩
  · rw [ht] at hd'
    rcases hd' with rfl | rfl
    · exact hd
    · exact .inr (s.h.msgDomains_twice d hd)
  · rw [hu, hbar, ht]

/-! ### A write that is answered at once, taken or refused -/

/-- The result of a write: the error of its `NAK`, or none (R113, R118). -/
def writeResult (e : Nat) : CmdRes := if e = 0 then .ok else .err e

/-- The answer of a write. -/
def writeAnswer (seq : BitVec 4) (e : Nat) : Txn := if e = 0 then ackOf .regwr seq else nakOf .regwr seq e

theorem Field.answerWrite_mapped (f g : Field) (seq : BitVec 4) {a e : Nat} {w : Word} (ha : fieldMapped a = true)
    (hw : f.writeReg f.clk a w = (g, e)) : f.answerWrite seq a w = (g, writeAnswer seq e) := by
  have hsome : (f.regValue f.clk a).isNone = false := by
    rw [← Option.not_isSome, Field.regValue_isSome, ha]
    rfl
  simp only [Field.answerWrite, hw, hsome, Bool.false_and, Bool.false_eq_true, if_false, writeAnswer]
  split <;> rfl

theorem resultOf_writeAnswer (seq : BitVec 4) {e : Nat} (he : e < 256) : resultOf (writeAnswer seq e) = (e, 0#32) := by
  unfold writeAnswer
  split
  · next h => rw [h]; rfl
  · have hcode : fieldOf (BitVec.ofNat 32 (typeCode .regwr * 2 ^ 28 + e % 256)) 0 8 = e := by
      simp only [fieldOf, BitVec.toNat_ofNat, Nat.shiftRight_zero]
      omega
    exact congrArg (·, 0#32) hcode

/-- The state after a write that is answered at once. -/
theorem State.access_write (s : State) (g : Field) {a e : Nat} {w : Word} (ha : fieldMapped a = true) (hne : a ≠ 0x122C) (he : e < 256)
    (hw : s.f.writeReg s.f.clk a w = (g, e)) : s.access (.write a w) =
      (⟨{ g with bar := { g.bar with lastSeq := some s.h.bar.nextSeq, lastAns := some (writeAnswer s.h.bar.nextSeq e) } },
        { s.h with bar := { s.h.bar with nextSeq := s.h.bar.nextSeq + 1 }, domNow := s.h.msgDomains.domNow }, s.pending⟩, (e, 0#32)) := by
  have hserve : s.f.serve s.h.bar.nextSeq (.write a w) = (g, writeAnswer s.h.bar.nextSeq e) :=
    s.f.answerWrite_mapped g s.h.bar.nextSeq ha hw
  simp only [State.access, hserve, resultOf_writeAnswer _ he, HostSide.copied_other _ _ _ hne, HostSide.msgDomains, HostSide.domain]

/-- A write leaves the lanes quiet: the next transaction has a new `SEQ` (R112). -/
theorem State.access_write_quiet (s : State) (g : Field) {a e : Nat} {w : Word} (hs : s.quiet = true) (ha : fieldMapped a = true)
    (hne : a ≠ 0x122C) (he : e < 256) (hw : s.f.writeReg s.f.clk a w = (g, e)) (hbar : g.bar = s.f.bar) (hstart : g.start = s.f.start) :
    (s.access (.write a w)).1.quiet = true := by
  obtain ⟨hready, htick, hunans, hqueue, hlane, hfield, -⟩ := s.quiet_iff.mp hs
  have hready' : g.barReady = true := by simpa only [Field.barReady, Field.runs, hstart] using hready
  rw [s.access_write g ha hne he hw, hbar, State.quiet_iff]
  exact ⟨hready', htick, hunans, hqueue, hlane, hfield, next_seq_ne _⟩

/-- On quiet lanes a write of a mapped register, taken or refused, has its answer, and the next access will. -/
theorem Lx.writeField_answered (l : Lx) (g : Field) (a e : Nat) (w : Word) (hl : l.Ready) (ha : fieldMapped a = true)
    (hne : a ≠ 0x122C) (he : e < 256) (hw : l.s.f.writeReg l.s.f.clk a w = (g, e)) (hbar : g.bar = l.s.f.bar)
    (hstart : g.start = l.s.f.start) :
    ∃ k, l.writeField a w = (k, writeResult e) ∧ Exchanged l.s k.s l.s.h g ∧ l.c.Goes k.c ∧ k.Ready := by
  obtain ⟨hlink, hquiet, hans⟩ := hl
  have hnone : l.c.ans[l.c.used]? = none := List.getElem?_eq_none hans
  have hacc := l.s.access_write g ha hne he hw
  have hsend : l.writeField a w =
      (⟨(l.s.access (.write a w)).1, { l.c with ans := l.c.ans ++ [(e, 0#32)], used := l.c.used + 1 }⟩, writeResult e) := by
    simp only [Lx.writeField, Lx.send, Lx.access, hnone, hlink, hquiet, hacc, Bool.not_true, Bool.false_eq_true, if_false, if_true,
      writeResult]
    cases e <;> rfl
  refine ⟨_, hsend, ?_, rfl, ?_, l.s.access_write_quiet g hquiet ha hne he hw hbar hstart, by simpa using hans⟩
  · rw [hacc]
    exact exchanged_iff.mpr ⟨_, _, _, _, .inr rfl, rfl⟩
  · rw [hacc]
    exact hlink

/-! ### A line whose one command names a group -/

/-- The record of a line whose one command, without a result, has named group `gid`. -/
def namedCur (gid : Nat) (c : Cur) : Cur := { lineCur 0 with snap := c.snap, groups := [(gid, 1)] }

/-- After its one command the group that the line has named applies (R564, R584). -/
theorem State.textCmd_named (s : State) (i : Instr) (gid : Nat) (k : Lx) (hs : HostIdle s)
    (hrun : runCmd i (s.lineOf i 0) = (k.name gid, .ok)) (hk : (lineCur 0).Goes k.c) :
    s.textCmd i = (Lx.applyGroups [(gid, 1)] ⟨k.s, namedCur gid k.c⟩).settle := by
  obtain ⟨t, c⟩ := k
  change c = _ at hk
  have hcmd : Lx.command ⟨(s.lineOf i 0).s, { (ownLine i).cur 0 with rest := [], k := ((ownLine i).cur 0).k + 1 }⟩ (.cmd i) =
      (Lx.name ⟨t, c⟩ gid, .ok) := hrun
  rw [s.textCmd_idle i hs, s.startLine_own i 0, ← s.lineOf_s i 0, Lx.runRest, hcmd, hk]
  rfl

/-- The lines of a response whose one command or apply had error `e`, 0 for none (R556, R558, R564). -/
def endLines (e : Nat) : List Text := if e = 0 then okLines else [errLine e none]

/-- The end of a line without a tag, which wrote no host register: its response goes to TXD (R558). -/
theorem Lx.settle_ends (l : Lx) (htag : l.c.tag = none) (hwait : l.c.wait = none) (hwrites : l.c.writes = [])
    (hafter : l.c.after = TxAfter.none) :
    l.settle = { l.s with h := (l.s.h.respond none false (l.c.response l.c.failure) TxAfter.none).lineDone } := by
  simp only [Lx.settle, hwait, Option.isSome_none, Bool.false_eq_true, if_false, Lx.finish, hwrites, HostSide.putRegs, List.foldl_nil,
    HostSide.answer, htag, hafter, LineSt.cached, TxAfter.none, Bool.or_false]
  rfl

/-- The line ends with the outcome of its one group. -/
theorem Lx.applyGroups_ends (l m : Lx) (gid e : Nat) (c : Cur) (hl : l.c = namedCur gid c) (happly : l.applyGroup gid = (m, writeResult e))
    (hm : l.c.Goes m.c) : (Lx.applyGroups [(gid, 1)] l).settle =
      { m.s with h := (m.s.h.respond none false (endLines e) TxAfter.none).lineDone } := by
  have hc : m.c = { namedCur gid c with ans := m.c.ans, used := m.c.used, snap := m.c.snap } := hl ▸ hm
  by_cases he : e = 0
  · have hgroups : Lx.applyGroups [(gid, 1)] l = ⟨m.s, { namedCur gid c with groups := [], snap := m.c.snap }⟩ := by
      rw [Lx.applyGroups, happly, writeResult, if_pos he]
      dsimp only [Lx.applyGroups, Lx.fresh]
      rw [hc]
      rfl
    rw [hgroups, Lx.settle_ends _ rfl rfl rfl rfl, endLines, if_pos he]
    rfl
  · have hgroups : Lx.applyGroups [(gid, 1)] l = ⟨m.s, { namedCur gid c with
        groups := [], snap := m.c.snap, refused := some (e, 1) }⟩ := by
      rw [Lx.applyGroups, happly, writeResult, if_neg he]
      dsimp only [Lx.applyGroups, Lx.fresh]
      rw [hc]
      rfl
    rw [hgroups, Lx.settle_ends _ rfl rfl rfl rfl, endLines, if_neg he]
    rfl

/-- What a line of its own has left by exchanges stands when its response is on the way. -/
theorem State.lineOf_exchanged (s t : State) (i : Instr) (f : Field) (ls : List Text) (hc : s.h.line.cur = none)
    (ht : Exchanged (s.lineOf i 0).s t (s.lineOf i 0).s.h f) :
    Exchanged s { t with h := (t.h.respond none false ls TxAfter.none).lineDone } (sent s.h ls) f := by
  obtain ⟨q, d, n, x, hd, hk⟩ := exchanged_iff.mp ht
  have hdone : (sent s.h ls).lineDone = sent s.h ls := HostSide.lineDone_of_none hc
  have hdom : d = (sent s.h ls).domNow ∨ d = (sent s.h ls).msgDomains.domNow := by
    simpa only [State.lineOf, sent, HostSide.respond, HostSide.push, HostSide.msgDomains, HostSide.domain, HostSide.ran] using hd
  rw [hk]
  refine exchanged_iff.mpr ⟨q, d, n, x, hdom, ?_⟩
  rw [← hdone]
  rfl

end Sys2Proof.Machine
end

section
/-! `TIME` (R221 to R227): seven staged writes, and the apply of the group at the end of the line. -/

namespace Sys2Proof.Machine

/-- Staged bytes of `TSET`, written in turn. -/
def Tset.stageAll (t : Tset) (c : Clk) (es : List (Nat × Byte)) : Tset := es.foldl (fun t e => t.stage c e.1 e.2) t

/-- The `REGWR`s of staged bytes. -/
def tsetWrites (es : List (Nat × Byte)) : List (Nat × Word) := es.map fun e => (0x1040 + 4 * e.1, e.2.setWidth 32)

/-- On quiet lanes the staged writes of a line are taken in turn. -/
theorem Lx.writeAll_stages (es : List (Nat × Byte)) (l : Lx) (hl : l.Ready) (hes : ∀ e ∈ es, e.1 < 8) :
    ∃ k, l.writeAll (tsetWrites es) = (k, .ok) ∧
      Exchanged l.s k.s l.s.h { l.s.f with tset := l.s.f.tset.stageAll l.s.f.clk es } ∧ l.c.Goes k.c ∧ k.Ready := by
  induction es generalizing l with
  | nil => exact ⟨l, rfl, ⟨rfl, .inl rfl, rfl, rfl⟩, .refl _, hl⟩
  | cons e es ih =>
    obtain ⟨i, b⟩ := e
    have hi : i < 8 := hes (i, b) List.mem_cons_self
    have hmapped : ∀ i, i < 8 → fieldMapped (0x1040 + 4 * i) = true := by decide +kernel
    have hbyte : (b.setWidth 32).setWidth 8 = b := by simp
    obtain ⟨k, hwrite, hk, hgoes, hready⟩ := l.writeField_answered { l.s.f with tset := l.s.f.tset.stage l.s.f.clk i b }
      (0x1040 + 4 * i) 0 (b.setWidth 32) hl (hmapped i hi) (by omega) (by decide) (by rw [Field.writeReg_tset _ _ hi, hbyte]) rfl rfl
    obtain ⟨m, hrest, hm, hgoes', hready'⟩ := ih k hready fun e he => hes e (List.mem_cons_of_mem _ he)
    have hboth := exchanged_trans hk hm rfl
    obtain ⟨q, d, n, x, -, hks⟩ := exchanged_iff.mp hk
    refine ⟨m, ?_, ?_, hgoes.trans hgoes', hready'⟩
    · rw [tsetWrites, List.map_cons, Lx.writeAll, hwrite]
      exact hrest
    · rw [hks] at hboth
      exact hboth

/-- The bytes that `TIME` stages (R227). -/
def timeFields (y mo d h mi s : Nat) : List (Nat × Byte) :=
  [(0, toBcd s), (1, toBcd mi), (2, toBcd h), (4, toBcd d), (5, toBcd mo), (6, toBcd (y % 100)), (7, toBcd (y / 100))]

/-- The first field fills the staging where it was empty (R218), and none of them is the day of week. -/
theorem stageAll_timeFields (f : Field) (y mo d h mi s : Nat) :
    (f.tset.stageAll f.clk (timeFields y mo d h mi s)).fields = timeBytes f y mo d h mi s ∧
      (f.tset.stageAll f.clk (timeFields y mo d h mi s)).filled = true ∧
      (f.tset.stageAll f.clk (timeFields y mo d h mi s)).wmask.getLsbD 3 = dowStaged f := by
  refine ⟨rfl, rfl, ?_⟩
  cases hfilled : f.tset.filled <;> simp [Tset.stageAll, timeFields, Tset.stage, dowStaged, hfilled]

/-- `TIME` with digits in range stages its fields and names the group of `TSET` (R227, R584). -/
theorem cmdTime_staged (l : Lx) (y mo d h mi s : Nat) (hl : l.s.h.bar.link = true) (hy : 2000 ≤ y) (hy' : y ≤ 2399) (hmo : mo ≤ 99)
    (hd : d ≤ 99) (hh : h ≤ 99) (hmi : mi ≤ 99) (hs : s ≤ 99) :
    cmdTime y mo d h mi s l = Lx.staged (l.writeAll (tsetWrites (timeFields y mo d h mi s))) 1 := by
  have hup : ¬ (!l.s.h.bar.link) = true := by simp [hl]
  have hrange : ¬ (decide (y < 2000) || decide (2399 < y) || [mo, d, h, mi, s].any fun v => decide (99 < v)) = true := by
    simp
    omega
  rw [cmdTime, if_neg hup, if_neg hrange]
  rfl

/-- A line whose one command has staged `TSET` bytes, which leave the field side as `f`: the group applies at its end, and the response
tells how. -/
theorem State.textCmd_tset (s : State) (i : Instr) (k : Lx) (f : Field) (hs : HostIdle s)
    (hrun : runCmd i (s.lineOf i 0) = (k.name 1, .ok)) (hk : Exchanged (s.lineOf i 0).s k.s (s.lineOf i 0).s.h f)
    (hgoes : (s.lineOf i 0).c.Goes k.c) (hready : k.Ready) :
    Exchanged s (s.textCmd i) (sent s.h (endLines f.tsetGo.2)) f.tsetGo.1 := by
  have hline : Lx.Ready ⟨k.s, namedCur 1 k.c⟩ := ⟨hready.1, hready.2.1, Nat.le_refl 0⟩
  obtain ⟨hrest, herr⟩ := k.s.f.tsetGo_rest
  obtain ⟨m, happly, hm, hgoes', -⟩ := Lx.writeField_answered ⟨k.s, namedCur 1 k.c⟩ k.s.f.tsetGo.1 0x1060 k.s.f.tsetGo.2 1#32 hline
    (by decide +kernel) (by decide) herr (k.s.f.writeReg_tsetGo k.s.f.clk) (by rw [hrest]) (by rw [hrest])
  have hboth := exchanged_trans hk hm (by rw [hrest])
  have hgo : k.s.f.tsetGo = ({ f.tsetGo.1 with bar := k.s.f.bar }, f.tsetGo.2) := by
    obtain ⟨q, d, n, x, -, hks⟩ := exchanged_iff.mp hk
    rw [hks]
    exact f.tsetGo_bar _
  have hbar : ({ f.tsetGo.1 with bar := f.bar } : Field) = f.tsetGo.1 := by rw [f.tsetGo_rest.1]
  rw [hgo] at happly hboth
  rw [s.textCmd_named i 1 k hs hrun hgoes, Lx.applyGroups_ends _ m 1 _ k.c rfl happly hgoes']
  exact s.lineOf_exchanged m.s i _ _ hs.2.1 (hbar ▸ hboth)

/-- The line of a `TIME` with digits in range: the set `x` that it staged applies at its end, and the response tells how. -/
theorem time_applies (s : State) (y mo d h mi se : Nat) (hs : Linked s) (hy : 2000 ≤ y) (hy' : y ≤ 2399) (hmo : mo ≤ 99)
    (hd : d ≤ 99) (hh : h ≤ 99) (hmi : mi ≤ 99) (hse : se ≤ 99) :
    ∃ t x, exec (.time y mo d h mi se) s = .next t ∧ x.fields = timeBytes s.f y mo d h mi se ∧ x.filled = true ∧
      x.wmask.getLsbD 3 = dowStaged s.f ∧ Exchanged s t (sent s.h (endLines (Field.tsetGo { s.f with tset := x }).2))
        (Field.tsetGo { s.f with tset := x }).1 := by
  obtain ⟨hfields, hfilled, hdow⟩ := stageAll_timeFields s.f y mo d h mi se
  obtain ⟨k, hwrites, hk, hgoes, hready⟩ := Lx.writeAll_stages (timeFields y mo d h mi se) (s.lineOf (.time y mo d h mi se) 0)
    (s.lineOf_ready _ hs) (by simp [timeFields])
  have hrun : runCmd (.time y mo d h mi se) (s.lineOf (.time y mo d h mi se) 0) = (k.name 1, .ok) :=
    (cmdTime_staged _ y mo d h mi se hs.2.1 hy hy' hmo hd hh hmi hse).trans (by rw [hwrites]; rfl)
  exact ⟨s.textCmd (.time y mo d h mi se), _, rfl, hfields, hfilled, hdow, s.textCmd_tset _ k _ hs.1 hrun hk hgoes hready⟩

/-- Settles O8: the line's apply is `time_applies`, and `Field.tsetGo_taken` or `Field.tsetGo_refused` says what it did. -/
theorem timeSetsOrRefuses : Obligations.TimeSetsOrRefuses := by
  intro s y mo d h mi se hs hy hy' hmo hd hh hmi hse
  obtain ⟨t, x, hexec, hfields, hfilled, hdow, ht⟩ := time_applies s y mo d h mi se hs hy hy' hmo hd hh hmi hse
  refine ⟨fun htrack hgood => ⟨t, hexec, ?_⟩, fun hbad => ⟨t, hexec, ?_⟩⟩
  · rw [Field.tsetGo_taken { s.f with tset := x } htrack hfilled (by rw [hfields, hdow, hgood]), hfields] at ht
    exact ht
  · have hrefused : (s.f.refs.tracking || !x.filled || tsetBad x.fields (x.wmask.getLsbD 3)) = true := by
      rw [hfields, hfilled, hdow, Bool.not_true, Bool.or_false, hbad]
    rw [Field.tsetGo_refused { s.f with tset := x } hrefused] at ht
    obtain ⟨hhost, -, hfield, -⟩ := ht
    have hlines : endLines (if (s.f.refs.tracking || !x.filled) = true then 22 else 21) =
        [errLine (if s.f.refs.tracking then 22 else 21) none] := by
      rw [hfilled]
      cases s.f.refs.tracking <;> rfl
    rw [hfield, hhost, hlines]
    exact ⟨rfl, hfilled, rfl, hfields, rfl⟩

end Sys2Proof.Machine
end

section
/-! Register writes as events of their own (Table 20-7): the staged registers and the groups of both sides. -/

namespace Sys2Proof.Machine

/-! ### Bits of a word that a mask leaves out -/

/-- A bit outside the mask does not show. -/
theorem withBit_and (w m : Word) {i : Nat} (b : Bool) (hi : i < 32) (hm : m.getLsbD i = false) : withBit w i b &&& m = w &&& m := by
  refine BitVec.eq_of_getLsbD_eq fun j hj => ?_
  have hbit : (withBit w i b).getLsbD j = if j = i then b else w.getLsbD j := bitOf_withBit w b j hi
  rw [BitVec.getLsbD_and, BitVec.getLsbD_and, hbit]
  split
  · next h => rw [h, hm, Bool.and_false, Bool.and_false]
  · rfl

/-- A field at the bottom of a word is what its mask leaves. -/
theorem fieldOf_zero (w : Word) {n : Nat} (hn : n ≤ 32) : fieldOf w 0 n = (w &&& BitVec.ofNat 32 (2 ^ n - 1)).toNat := by
  have hlt : 2 ^ n - 1 < 2 ^ 32 := by
    have := Nat.pow_le_pow_right (n := 2) (by decide) hn
    omega
  rw [fieldOf, Nat.shiftRight_zero, BitVec.toNat_and, BitVec.toNat_ofNat, Nat.mod_eq_of_lt hlt, Nat.and_two_pow_sub_one_eq_mod]

/-! ### The field side -/

/-- The apply of a group of the field side as an event. -/
theorem State.fieldApply_onlyField (s : State) (i : Instr) (g : Field → Field × Nat) (k : Field) (hs : FieldUp s)
    (hexec : exec i s = .next (s.fieldApply g)) (hg : (g s.f).1 = k) (hnews : k.jobEv = []) :
    ∃ t, exec i s = .next t ∧ OnlyField s t k :=
  s.fieldStep i (hexec.trans (congrArg Host.Outcome.next (if_pos hs.1))) hg hnews

/-- A staged write of a register of the field side, as an event: it does not apply its group. -/
theorem stagedWrite_field (s : State) (a : BitVec 16) (v w : Word) (k : Field) (hs : FieldUp s) (ha : stagedField a.toNat = true)
    (hw : w = if ((regIdx 0x1040 8 a.toNat).isSome || decide (a.toNat = 0x109C)) = true then v else withBit v 31 false)
    (hk : s.f.writeReg s.f.clk a.toNat w = (k, 0)) (hnews : k.jobEv = []) :
    ∃ t, exec (.stagedWrite a v) s = .next t ∧ OnlyField s t k := by
  have hexec : exec (.stagedWrite a v) s = .next (s.withField (s.f.writeReg s.f.clk a.toNat w).1) := by
    change execStagedWrite a v s = _
    simp only [execStagedWrite, ha, hs.1, if_true, ← hw]
  exact s.fieldStep _ hexec (by rw [hk]) hnews

theorem stagedWrite_tset (s : State) (i : Fin 8) (v : Word) (a : BitVec 16) (hs : FieldUp s)
    (ha : a = BitVec.ofNat 16 (0x1040 + 4 * i.val)) :
    ∃ t, exec (.stagedWrite a v) s = .next t ∧ OnlyField s t { s.f with tset := s.f.tset.stage s.f.clk i.val (v.setWidth 8) } := by
  have haddr : a.toNat = 0x1040 + 4 * i.val := by
    rw [ha, BitVec.toNat_ofNat]
    omega
  have hidx : regIdx 0x1040 8 a.toNat = some i.val := by rw [haddr, regIdx_at 0x1040 i.isLt]
  refine stagedWrite_field s a v v _ hs ?_ ?_ (by rw [haddr, Field.writeReg_tset _ _ i.isLt]) hs.2
  · rw [stagedField, hidx]
    rfl
  · rw [hidx]
    rfl

theorem stagedWrite_prb (s : State) (n : Fin 4) (v : Word) (a : BitVec 16) (hs : FieldUp s)
    (ha : a = BitVec.ofNat 16 (0x1510 + 4 * n.val)) :
    ∃ t, exec (.stagedWrite a v) s = .next t ∧ OnlyField s t (s.f.stagePrb n.val v) := by
  have haddr : a.toNat = 0x1510 + 4 * n.val := by
    rw [ha, BitVec.toNat_ofNat]
    omega
  have hnone : regIdx 0x1040 8 a.toNat = none := regIdx_outside (.inr (by omega))
  have hlocal : decide (a.toNat = 0x109C) = false := by
    simp
    omega
  have hmasked : s.f.stagePrb n.val (withBit v 31 false) = s.f.stagePrb n.val v := by
    rw [Field.stagePrb, Field.stagePrb, withBit_and v 0x37#32 false (by decide) (by decide)]
  refine stagedWrite_field s a v (withBit v 31 false) _ hs ?_ ?_ ?_ hs.2
  · rw [stagedField, haddr, regIdx_at 0x1510 n.isLt, Option.isSome_some, Bool.or_true]
  · rw [hnone, hlocal]
    rfl
  · rw [haddr, s.f.writeReg_prb _ n.isLt _ (bitOf_withBit v false 31 (by decide)), hmasked]

theorem keepByteWrite_waits (s : State) (n : Fin 64) (b : Byte) (hs : FieldUp s) : ∃ t, exec (.keepByteWrite n b) s = .next t ∧
    OnlyField s t { s.f with pendW := s.f.pendW ++ [.reg (0x1300 + 4 * n.val) (b.setWidth 32)] } :=
  s.fieldStep (.keepByteWrite n b) (congrArg Host.Outcome.next (if_pos hs.1)) rfl hs.2

/-- AL_APPLY takes a valid set, and leaves a refused one staged (R316, R565). -/
theorem Field.alApply_fst (f : Field) (n : Nat) (a : Alarm) (ha : f.al[n]? = some a) : (f.alApply n).1 =
    if alarmBad a.shown.1 a.shown.2.1 a.shown.2.2 then f else alarmTaken f n a a.shown.1 a.shown.2.1 a.shown.2.2 := by
  unfold Field.alApply
  rw [ha]
  dsimp only
  split <;> rfl

theorem ite_jobEv {c : Prop} [Decidable c] {f g : Field} (hf : f.jobEv = []) (hg : g.jobEv = []) : (if c then f else g).jobEv = [] := by
  split
  · exact hf
  · exact hg

theorem alApply_event (s : State) (n : Fin 2) (a : Alarm) (hs : FieldUp s) (ha : s.f.al[n.val]? = some a) :
    ∃ t, exec (.alApply n) s = .next t ∧ OnlyField s t (if alarmBad a.shown.1 a.shown.2.1 a.shown.2.2 then s.f
      else alarmTaken s.f n.val a a.shown.1 a.shown.2.1 a.shown.2.2) :=
  s.fieldApply_onlyField (.alApply n) (fun f => f.alApply n.val) _ hs rfl (s.f.alApply_fst n.val a ha) (ite_jobEv hs.2 hs.2)

/-- PRB_APPLY takes a valid set, and leaves a refused one staged (R383, R565). -/
theorem Field.prbApply_fst (f : Field) (n : Nat) (w : Word) (hw : w = (f.temp.stg[n]?.getD none).getD (f.temp.cfg[n]?.getD 0#32)) :
    (f.prbApply n).1 = if prbBad w then f else prbTaken f n w := by
  unfold Field.prbApply
  rw [← hw]
  dsimp only
  split <;> rfl

theorem prbApply_event (s : State) (n : Fin 4) (w : Word) (hs : FieldUp s) (hw : w = (s.f.temp.stg[n]).getD s.f.temp.cfg[n]) :
    ∃ t, exec (.prbApply n) s = .next t ∧ OnlyField s t (if prbBad w then s.f else prbTaken s.f n.val w) :=
  s.fieldApply_onlyField (.prbApply n) (fun f => f.prbApply n.val) _ hs rfl (s.f.prbApply_fst n.val w (by simpa using hw))
    (ite_jobEv hs.2 hs.2)

/-- TSET_GO takes a valid date while no reference disciplines time, and refuses others (R221 to R226). -/
theorem tsetGo_event (s : State) (hs : FieldUp s) :
    (s.f.refs.tracking = false → s.f.tset.filled = true → tsetBad s.f.tset.fields (s.f.tset.wmask.getLsbD 3) = false →
      ∃ t, exec .tsetGo s = .next t ∧ OnlyField s t (tsetTaken s.f s.f.tset.fields)) ∧
    ((s.f.refs.tracking || !s.f.tset.filled || tsetBad s.f.tset.fields (s.f.tset.wmask.getLsbD 3)) = true →
      ∃ t, exec .tsetGo s = .next t ∧ OnlyField s t { s.f with tset := { s.f.tset with lastRej := true } }) :=
  ⟨fun htrack hfilled hgood => s.fieldApply_onlyField .tsetGo Field.tsetGo _ hs rfl
      (congrArg Prod.fst (s.f.tsetGo_taken htrack hfilled hgood)) hs.2,
    fun hbad => s.fieldApply_onlyField .tsetGo Field.tsetGo _ hs rfl (congrArg Prod.fst (s.f.tsetGo_refused hbad)) hs.2⟩

/-! ### The radio (R640, R646, R659, R715) -/

/-- A staged channel that is in range goes to staging (R561, R645). -/
theorem stagedWrite_channel (s : State) (v : Word) (hrun : s.h.run = true) (hv : fcodeBad (fieldOf v 0 25) = false) :
    ∃ t, exec (.stagedWrite 0x0404#16 v) s = .next t ∧
      OnlyHost s t { s.h with radio := { s.h.radio with chStg := some (v &&& 0x1FFFFFF#32) } } := by
  have hmasked : withBit v 31 false &&& 0x1FFFFFF#32 = v &&& 0x1FFFFFF#32 := withBit_and v _ false (by decide) (by decide)
  have hcode : fieldOf (withBit v 31 false) 0 25 = fieldOf v 0 25 := by
    rw [fieldOf_zero _ (by decide), fieldOf_zero _ (by decide)]
    exact congrArg BitVec.toNat hmasked
  have hstage : s.h.radio.stageCh (withBit v 31 false) = some { s.h.radio with chStg := some (v &&& 0x1FFFFFF#32) } := by
    rw [Radio.stageCh, hcode, hv, hmasked]
    rfl
  have hbit : bitOf (withBit v 31 false) 31 = false := bitOf_withBit v false 31 (by decide)
  have hwrite : s.h.writeReg 0x0404 (withBit v 31 false) =
      .now { s.h with radio := { s.h.radio with chStg := some (v &&& 0x1FFFFFF#32) } } := by
    have hstageWr : s.h.writeReg 0x0404 (withBit v 31 false) =
        s.h.stageWr (s.h.radio.stageCh (withBit v 31 false)) 9 (bitOf (withBit v 31 false) 31) := rfl
    rw [hstageWr, hstage, hbit]
    rfl
  have hexec : exec (.stagedWrite 0x0404#16 v) s = .next (if s.h.run = true then
      match s.h.writeReg 0x0404 (withBit v 31 false) with | .now h => { s with h := h } | _ => s else s) := rfl
  refine ⟨_, hexec, ?_⟩
  rw [if_pos hrun, hwrite]
  exact ⟨rfl, rfl, rfl⟩

theorem HostSide.groupErr_channel (h : HostSide) : h.groupErr 9 = h.rfchApply := rfl
theorem HostSide.groupErr_coding (h : HostSide) : h.groupErr 10 = h.rfphyApply := rfl

/-- A refused apply leaves its staging (R565). -/
theorem HostSide.groupNow_refused (h : HostSide) (gid : Nat) (he : h.groupErr gid ≠ 0) : h.groupNow gid = h := by
  rw [HostSide.groupNow, HostSide.groupApply]
  simp only [he, if_false]
  rfl

/-- A valid set commits. -/
theorem HostSide.groupNow_taken (h : HostSide) (gid : Nat) (he : h.groupErr gid = 0) :
    h.groupNow gid = HostSide.putRegs { h with radio := h.radio.unstage gid } (h.radio.groupSet gid) := by
  rw [HostSide.groupNow, HostSide.groupApply]
  simp only [he, if_true]

/-- In SLEEP and IDLE the channel is stored (R646). -/
theorem HostSide.rfTune_stored (h : HostSide) (w : Word) (hst : h.radio.st = .sleep ∨ h.radio.st = .idle) :
    h.rfTune w = { h with radio := { h.radio with ch := w } } := by
  unfold HostSide.rfTune
  dsimp only
  split
  · rfl
  · rcases hst with hst | hst <;> rw [hst]

/-- RFCH_APPLY (R646): with a transmission pending it is refused; in SLEEP and IDLE it stores the channel. -/
theorem rfchApply_stored (s : State) (hrun : s.h.run = true) (hst : s.h.radio.st = .sleep ∨ s.h.radio.st = .idle)
    (htx : s.h.radio.tx = none) : ∃ t, exec .rfchApply s = .next t ∧
      OnlyHost s t { s.h with radio := { s.h.radio with ch := s.h.radio.chShown, chStg := none } } := by
  have herr : s.h.groupErr 9 = 0 := by
    rw [HostSide.groupErr_channel, HostSide.rfchApply, htx]
    rfl
  refine s.hostStep .rfchApply (g := fun h => h.groupNow 9) rfl hrun ?_
  rw [s.h.groupNow_taken 9 herr]
  exact HostSide.rfTune_stored { s.h with radio := s.h.radio.unstage 9 } s.h.radio.chShown hst

/-- RFPHY_APPLY (R640, R641): out of RX it takes a set whose two words agree on the coding, and leaves another staged. -/
theorem rfphyApply_checked (s : State) (hrun : s.h.run = true) (hst : s.h.radio.st ≠ .rx) (htx : s.h.radio.tx = none) :
    ∃ t, exec .rfphyApply s = .next t ∧ OnlyHost s t
      (if bitOf s.h.radio.phyShown.2 10 = decide (fieldOf s.h.radio.phyShown.1 5 2 ≠ 0) then
        { s.h with radio := { s.h.radio with phy := s.h.radio.phyShown.1, frm := s.h.radio.phyShown.2, phyStg := none } }
      else s.h) := by
  have hfree : ¬ (s.h.radio.tx.isSome || decide (s.h.radio.st = .rx)) = true := by simp [htx, hst]
  have herr : s.h.groupErr 10 = if bitOf s.h.radio.phyShown.2 10 = decide (fieldOf s.h.radio.phyShown.1 5 2 ≠ 0) then 0 else 31 := by
    rw [HostSide.groupErr_coding, HostSide.rfphyApply, if_neg hfree]
    by_cases hcode : fieldOf s.h.radio.phyShown.1 5 2 = 0 <;> cases bitOf s.h.radio.phyShown.2 10 <;> simp [hcode]
  refine s.hostStep .rfphyApply (g := fun h => h.groupNow 10) rfl hrun ?_
  split
  · next hagree =>
    rw [s.h.groupNow_taken 10 (herr.trans (if_pos hagree))]
    rfl
  · next hdiffer => exact s.h.groupNow_refused 10 (by rw [herr, if_neg hdiffer]; decide)

/-- While a transmission is pending the applies of channel and coding are refused (R715). -/
theorem groupErr_transmitting (h : HostSide) (htx : h.radio.tx.isSome = true) : h.groupErr 9 ≠ 0 ∧ h.groupErr 10 ≠ 0 := by
  have hbusy : (h.radio.tx.isSome || decide (h.radio.st = .rx)) = true := by rw [htx, Bool.true_or]
  rw [HostSide.groupErr_channel, HostSide.groupErr_coding, HostSide.rfchApply, HostSide.rfphyApply, if_pos htx, if_pos hbusy]
  decide

/-- Settles O52: each event's write or apply as an operation of its side, taken where it is valid. -/
theorem registerEventsAct : Obligations.RegisterEventsAct := by
  refine ⟨keepByteWrite_waits, stagedWrite_tset, stagedWrite_prb, stagedWrite_channel, tsetGo_event, alApply_event, fun s hs => ?_,
    prbApply_event, fun s hrun hst htx => ⟨rfchApply_stored s hrun hst htx, rfphyApply_checked s hrun ?_ htx⟩, fun s hrun htx => ?_,
    fun s hrun => ?_⟩
  · exact s.fieldApply_onlyField .perbApply Field.perbApply _ hs rfl rfl hs.2
  · rcases hst with hst | hst <;> simp [hst]
  · obtain ⟨hch, hphy⟩ := groupErr_transmitting s.h htx
    exact ⟨s.hostStep .rfchApply (g := fun h => h.groupNow 9) rfl hrun (s.h.groupNow_refused 9 hch),
      s.hostStep .rfphyApply (g := fun h => h.groupNow 10) rfl hrun (s.h.groupNow_refused 10 hphy)⟩
  · exact s.hostStep .rfpaApply (g := fun h => h.groupNow 11) rfl hrun (s.h.groupNow_taken 11 rfl)

end Sys2Proof.Machine
end

section
/-! Marks as `TMARK` sends them (07_references.md, R234 to R237): a transaction goes out in the line of one command, which then
waits. -/

namespace Sys2Proof.Machine

/-- A transaction of the host stream does not look at the host domains. -/
theorem HostSide.send_ran (h : HostSide) (ty : MsgType) (ws : List Word) (cmd : Option FieldCmd) :
    h.ran.send ty ws cmd = (h.send ty ws cmd).ran := by
  unfold HostSide.send HostSide.pump HostSide.ran HostSide.domain
  dsimp only
  split
  · rfl
  · split
    · rfl
    · unfold HostSide.launch
      dsimp only
      split <;> rfl

/-- A transaction that a line sends while it executes, before it waits (R92). -/
theorem HostSide.send_ran_lineWaits (h : HostSide) (c : Option Cur) (ty : MsgType) (ws : List Word) (cmd : Option FieldCmd) (w : Wait') :
    (HostSide.send { h.ran with line := { h.line with cur := c } } ty ws cmd).lineWaits w = (h.send ty ws cmd).ran.lineWaits w := by
  have hkept : (h.send ty ws cmd).ran.line = h.line := h.send_keeps_line ty ws cmd
  rw [HostSide.send_line, HostSide.send_ran, ← hkept]
  rfl

/-- A command of its own that waits after work on the host side alone. -/
theorem State.textCmd_lineWaits (s : State) (i : Instr) (k : Lx) (w : Wait') (hs : HostIdle s)
    (hrun : runCmd i (s.lineOf i 0) = (k, .wait w)) (hf : k.s.f = s.f) (hq : k.s.pending = s.pending) (hc : k.c = lineCur 0) :
    OnlyHost s (s.textCmd i) (k.s.h.lineWaits w) := by
  have hcmd : Lx.command ⟨(s.lineOf i 0).s, { (ownLine i).cur 0 with rest := [], k := ((ownLine i).cur 0).k + 1 }⟩ (.cmd i) =
      (k, .wait w) := hrun
  have hrest : Lx.runRest [.cmd i] ⟨(s.lineOf i 0).s, (ownLine i).cur 0⟩ = ⟨k.s, { oneLine with wait := some w }⟩ := by
    rw [Lx.runRest, hcmd]
    simp only [Lx.absorb, Lx.fresh, hc]
    rfl
  rw [s.textCmd_idle i hs, s.startLine_own i 0, ← s.lineOf_s i 0, hrest]
  exact ⟨rfl, hf, hq⟩

/-- A stamp that may go out is sent as a mark (R151, R236). -/
theorem Lx.sendMark_sent (l : Lx) (src : Nat) (x : HStamp) (sec frac : Nat) (hx : (x.unl && !x.trn) = false) :
    l.sendMark src x sec frac = (l.host fun h => h.send .mark (markWords src x sec frac) none, .wait .mark) :=
  if_neg (by rw [hx]; decide)

/-- The label of the first PPS edge that still takes one (R234, R235). -/
theorem cmdTmark_pps (l : Lx) (sec : Nat) (e : HStamp × Bool) (hlink : l.s.h.bar.link = true) (hsec : sec < Config.cycleSec)
    (hfind : (l.s.h.pps.stamps.find? fun e => !e.2 && decide (l.s.h.hf ≤ e.1.at' + 64)) = some e)
    (hx : (e.1.unl && !e.1.trn) = false) :
    cmdTmark (.pps sec) l = ((l.host fun h => { h with pps := { h.pps with
        stamps := labelFirst (fun e => !e.2 && decide (l.s.h.hf ≤ e.1.at' + 64)) h.pps.stamps } }).host
      fun h => h.send .mark (markWords 1 e.1 sec 0) none, .wait .mark) := by
  simp only [cmdTmark, hlink, hfind, hx, Nat.not_le.mpr hsec, Lx.sendMark_sent, Bool.not_true, Bool.false_eq_true, if_false]

/-- The label of a received packet by its identifier (R234, R236). -/
theorem cmdTmark_rf (l : Lx) (id sec nano : Nat) (e : Byte × HStamp) (hlink : l.s.h.bar.link = true) (hsec : sec < Config.cycleSec)
    (hid : id ≤ 255) (hnano : nano ≤ 999999999)
    (hfind : (l.s.h.radio.marks.find? fun e => e.1.toNat = id && decide (l.s.h.hf ≤ e.2.at' + 4096)) = some e)
    (hx : (e.2.unl && !e.2.trn) = false) :
    cmdTmark (.rf id sec nano) l = (l.host fun h => h.send .mark
      (markWords 2 e.2 sec (roundDiv ((nano * 2 ^ 32 : Nat) : Int) 1000000000).toNat) none, .wait .mark) := by
  simp only [cmdTmark, hlink, hfind, hx, Nat.not_le.mpr hsec, Nat.not_lt.mpr hid, Nat.not_lt.mpr hnano, Lx.sendMark_sent,
    Bool.not_true, decide_false, Bool.or_self, Bool.false_eq_true, if_false]

/-- Settles O6: the command finds its stamp, the mark goes out, and the line waits. -/
theorem tmarkSendsMark : Obligations.TmarkSendsMark := by
  constructor
  · intro s sec e hs hlink hsec hfind hx
    have hrun := cmdTmark_pps (s.lineOf (.tmark (.pps sec)) 0) sec e hlink hsec hfind hx
    have hwaits := s.textCmd_lineWaits (.tmark (.pps sec)) _ .mark hs hrun rfl rfl rfl
    exact ⟨_, rfl, HostSide.send_ran_lineWaits .. ▸ hwaits⟩
  · intro s id sec nano e hs hlink hsec hid hnano hfind hx
    have hrun := cmdTmark_rf (s.lineOf (.tmark (.rf id sec nano)) 0) id sec nano e hlink hsec hid hnano hfind hx
    have hwaits := s.textCmd_lineWaits (.tmark (.rf id sec nano)) _ .mark hs hrun rfl rfl rfl
    exact ⟨_, rfl, HostSide.send_ran_lineWaits .. ▸ hwaits⟩

end Sys2Proof.Machine
end

section
/-! References (07_references.md): what a mark that is evaluated does, what a missed one. -/

namespace Sys2Proof.Machine

/-! ### One reference of the two -/

@[simp] theorem Refs.get_put (r : Refs) (s : RefSrc) (x : Ref) : (r.put s x).get s = x := by cases s <;> rfl
@[simp] theorem Refs.put_tref (r : Refs) (s : RefSrc) (x : Ref) : (r.put s x).tref = r.tref := by cases s <;> rfl
@[simp] theorem Refs.put_jump (r : Refs) (s : RefSrc) (x : Ref) : (r.put s x).jump = r.jump := by cases s <;> rfl

/-- A new plan of the selected reference leaves the references themselves. -/
@[simp] theorem Refs.replan_get (r : Refs) (cause : Nat) (s : RefSrc) : (r.replan cause).get s = r.get s := by
  unfold Refs.replan
  dsimp only
  split <;> cases s <;> rfl

/-! ### Marks (R232, R239, R241, R243, R244) -/

/-- Marks that are due are evaluated, one after another where there is one (R239). -/
theorem doMarkEvaluate_one (f : Field) (m : Mark) (hruns : f.runs = true) (hdue : f.refs.marksDue = [m]) :
    doMarkEvaluate f = Field.evalMark { f with refs := { f.refs with marksDue := [] } } m := by
  simp only [doMarkEvaluate, hruns, hdue, Bool.not_true, Bool.false_eq_true, if_false, List.foldl_cons, List.foldl_nil, insertMark]

theorem doMarkEvaluate_none (f : Field) (hdue : f.refs.marksDue = []) : doMarkEvaluate f = f := by
  have hsame : { f with refs := { f.refs with marksDue := [] } } = f := by rw [← hdue]
  simp only [doMarkEvaluate, hdue, List.foldl_nil, hsame, ite_self]

/-- R232, R241: a mark of a disabled reference, or one not later than the last evaluated, is dropped and counted. -/
theorem Field.evalMark_dropped (f : Field) (m : Mark)
    (h : f.refs.enabled m.src = false ∨ ∃ e, (f.refs.get m.src).lastEval = some e ∧ m.stamp.toNat ≤ e) :
    f.evalMark m = { f with refs := { f.refs with markDrop := satAdd f.refs.markDrop 1 } } := by
  refine if_pos ?_
  rcases h with hoff | ⟨e, hlast, hlate⟩
  · simp [hoff]
  · simp [hlast, hlate]

/-- R239, R243, R244: the first mark of an idle reference counts and opens a run. -/
theorem Field.evalMark_opens (f : Field) (m : Mark) (hon : f.refs.enabled m.src = true) (hlast : (f.refs.get m.src).lastEval = none)
    (hidle : (f.refs.get m.src).st = .idle) (hrun : (f.refs.get m.src).run = none) (hunl : m.unl = false) :
    f.evalMark m = { f with refs := { f.refs.put m.src { f.refs.get m.src with
      st := .qualifying, run := some (RefRun.opened (evaluated f m)), lastEval := some m.stamp.toNat,
      missFrom := max (f.refs.get m.src).missFrom m.stamp.toNat } with markOk := satAdd f.refs.markOk 1 } } := by
  simp only [Field.evalMark, hon, hlast, hidle, Ref.runMark, hrun, hunl, Bool.not_true, Bool.or_self, Bool.false_eq_true, if_false]
  cases m.src <;> rfl

/-- Settles O21: `Field.evalMark_dropped`, `Field.evalMark_opens`, and no mark that is due. -/
theorem marksAreEvaluated : Obligations.MarksAreEvaluated := by
  refine ⟨fun s m hup hdue hdrop => ?_, fun s m hup hdue hon hlast hidle hrun hunl => ?_, fun s hup hdue => ?_⟩
  · have heval := doMarkEvaluate_one s.f m hup.1 hdue
    exact s.fieldStep .markEvaluate rfl (heval.trans (Field.evalMark_dropped _ m hdrop)) hup.2
  · have heval := doMarkEvaluate_one s.f m hup.1 hdue
    refine s.fieldStep .markEvaluate rfl (heval.trans ?_) hup.2
    obtain ⟨src, unl, stamp, label⟩ := m
    cases src <;> exact Field.evalMark_opens { s.f with refs := { s.f.refs with marksDue := [] } } _ hon hlast hidle hrun hunl
  · exact s.fieldStep .markEvaluate rfl (doMarkEvaluate_none s.f hdue) hup.2

/-! ### Missed marks (R242, R244, R248 to R251) -/

/-- A reference misses a mark (R242): 1.5 T have passed since its last mark or miss. -/
structure Field.MissDue (f : Field) (r : RefSrc) : Prop where
  runs : f.runs = true
  enabled : f.refs.enabled r = true
  marked : (f.refs.get r).lastEval.isSome = true
  late : (f.refs.get r).missFrom + f.refs.interval r * 3 / 2 ≤ f.clk.stamp.toNat

/-- A reference from whose miss the next one counts. -/
def Field.missCounted (f : Field) (r : RefSrc) : Ref :=
  { f.refs.get r with missFrom := (f.refs.get r).missFrom + f.refs.interval r * 3 / 2 }

/-- A reference has one miss more; a jump run of the selected one ends (R248). -/
def Field.missMore (f : Field) (r : RefSrc) : Field :=
  { f with refs := { f.refs.put r { f.missCounted r with misses := (f.refs.get r).misses + 1 } with
    jump := if f.refs.tref = trefOf r then none else f.refs.jump } }

@[simp] theorem Field.missMore_get (f : Field) (r : RefSrc) :
    (f.missMore r).refs.get r = { f.missCounted r with misses := (f.refs.get r).misses + 1 } := by cases r <;> rfl

section
variable {f : Field} {r : RefSrc}

theorem Field.MissDue.guard (h : f.MissDue r) : ¬ (!f.runs || !f.refs.enabled r || (f.refs.get r).lastEval.isNone ||
    decide (f.clk.stamp.toNat < (f.refs.get r).missFrom + f.refs.interval r * 3 / 2)) = true := by
  have hsome : (f.refs.get r).lastEval.isNone = false := by rw [← Option.not_isSome, h.marked]; rfl
  simp [h.runs, h.enabled, hsome, h.late]

theorem doMarkMiss_qualifying (h : f.MissDue r) (hst : (f.refs.get r).st = .qualifying) :
    doMarkMiss r f = { f with refs := f.refs.put r { f.missCounted r with st := .idle, run := none } } := by
  rw [doMarkMiss, if_neg h.guard, hst]
  rfl

theorem doMarkMiss_unqualified (h : f.MissDue r) (hst : (f.refs.get r).st = .idle ∨ (f.refs.get r).st = .lost) :
    doMarkMiss r f = { f with refs := f.refs.put r (f.missCounted r) } := by
  rw [doMarkMiss, if_neg h.guard]
  rcases hst with hst | hst <;> simp only [hst, Field.missCounted]

theorem doMarkMiss_qualified (h : f.MissDue r) (hst : (f.refs.get r).st = .qualified) :
    doMarkMiss r f = (f.missMore r).checkLoss r := by
  have hjump (x : Ref) : (if (f.refs.put r x).tref = trefOf r then { f.refs.put r x with jump := none } else f.refs.put r x) =
      { f.refs.put r x with jump := if f.refs.tref = trefOf r then none else f.refs.jump } := by
    rw [Refs.put_tref, ← Refs.put_jump f.refs r x]
    split <;> rfl
  rw [doMarkMiss, if_neg h.guard]
  simp only [hst, hjump, Field.missMore, Field.missCounted]

/-- Fewer than three misses in a row lose no reference (R249, R250). -/
theorem Field.checkLoss_keeps (h : (f.refs.get r).misses < 3) : f.checkLoss r = f :=
  if_neg (by simp [Nat.not_le.mpr h])

/-- The third miss in a row makes a qualified reference Lost from the next boundary (R249 to R251). -/
theorem Field.checkLoss_loses (hst : (f.refs.get r).st = .qualified) (h : 3 ≤ (f.refs.get r).misses) :
    f.checkLoss r = { f with refs := (f.checkLoss r).refs } ∧
      (f.checkLoss r).refs.get r = (f.refs.get r).disqualify f.clk.fno true := by
  have hlost : f.checkLoss r = { f with refs := Refs.replan (
      if f.refs.tref = trefOf r then { f.refs.put r ((f.refs.get r).disqualify f.clk.fno true) with jump := none }
      else f.refs.put r ((f.refs.get r).disqualify f.clk.fno true)) 2 } := if_pos (by simp [hst, h])
  rw [hlost]
  refine ⟨rfl, ?_⟩
  dsimp only
  rw [Refs.replan_get]
  split
  · cases r <;> rfl
  · exact f.refs.get_put r _

end

/-- Settles O22: by the state of the reference that misses a mark; the third miss in a row is `Field.checkLoss_loses`. -/
theorem missedMarks : Obligations.MissedMarks := by
  rintro s r x span hup rfl rfl hon hmarked hlate
  have hdue : s.f.MissDue r := ⟨hup.1, hon, hmarked, hlate⟩
  refine ⟨fun hst => ?_, fun hst => ?_, fun hst hfew => ?_, fun hst hmany => ?_⟩
  · exact s.fieldStep (.markMiss r) rfl (doMarkMiss_qualifying hdue hst) hup.2
  · exact s.fieldStep (.markMiss r) rfl (doMarkMiss_unqualified hdue hst) hup.2
  · have hkept : (s.f.missMore r).checkLoss r = s.f.missMore r :=
      Field.checkLoss_keeps (by rw [Field.missMore_get]; exact Nat.succ_lt_succ hfew)
    exact s.fieldStep (.markMiss r) rfl ((doMarkMiss_qualified hdue hst).trans hkept) hup.2
  · obtain ⟨hrest, hget⟩ := Field.checkLoss_loses (f := s.f.missMore r) (r := r)
      (by rw [Field.missMore_get]; exact hst) (by rw [Field.missMore_get]; exact Nat.succ_le_succ hmany)
    rw [← doMarkMiss_qualified hdue hst] at hrest hget
    have hnews : (doMarkMiss r s.f).jobEv = [] := by rw [hrest]; exact hup.2
    obtain ⟨t, hexec, hf, hh, -⟩ := s.fieldStep (.markMiss r) rfl rfl hnews
    rw [← hf] at hrest hget
    exact ⟨t, hexec, by rw [hget]; rfl, by rw [hget]; rfl, by rw [hget]; rfl, hrest, hh⟩

end Sys2Proof.Machine
end

section
/-! The ends that time brings to references, slews, hold-over and hand-overs (07_references.md). At the boundary of a hand-over's end,
nothing that housekeeping item 1 does before it touches the references but the frame that ended, and nothing after it but the new rate. -/

namespace Sys2Proof.Machine

/-! ### What stands beside the references -/

@[simp] theorem Field.setBit_power (f : Field) (i : Nat) : (f.setBit i).power = f.power := rfl
@[simp] theorem Field.tell_power (f : Field) (e : JobEv) : (f.tell e).power = f.power := rfl
@[simp] theorem Field.recomp_power (f : Field) : f.recomp.power = f.power := rfl
@[simp] theorem Field.calEnded_power (f : Field) (item : CalItem) (lane : Nat) : (f.calEnded item lane).power = f.power := rfl
@[simp] theorem Field.calDrop_power (f : Field) (item : CalItem) (lane : Nat) : (f.calDrop item lane).power = f.power := rfl

@[simp] theorem Field.calReject_power (f : Field) (item : CalItem) (lane : Nat) (v : Verdict) :
    (f.calReject item lane v).power = f.power := by
  simp only [calReject, tell_power, calEnded_power, stage_power]
  split <;> rfl

@[simp] theorem Field.calApplied_power (f : Field) (item : CalItem) (lane : Nat) (v : Verdict) (record : Bool) (new old : Int) :
    (f.calApplied item lane v record new old).power = f.power := by
  simp only [calApplied, tell_power, calEnded_power]
  split
  · exact stage_power ..
  · rfl

@[simp] theorem Field.applyTdc_power (f : Field) (lane : Nat) (v : Verdict) (a b : CalMeas) : (f.applyTdc lane v a b).power = f.power :=
  calApplied_power ..

@[simp] theorem Field.applyXl_power (f : Field) (v : Verdict) (a b : CalMeas) : (f.applyXl v a b).power = f.power := by
  refine (calApplied_power ..).trans ?_
  change Field.power (if _ then _ else _) = _
  split
  · exact (recomp_power _).trans (stage_power ..)
  · rfl

@[simp] theorem Field.applyBar_power (f : Field) (v : Verdict) (a b : CalMeas) : (f.applyBar v a b).power = f.power :=
  calApplied_power ..

@[simp] theorem Field.applyAdc_power (f : Field) (v : Verdict) (r0 r1 s0 s1 : AdcRun) : (f.applyAdc v r0 r1 s0 s1).power = f.power :=
  calApplied_power ..

@[simp] theorem Field.yieldCal_power (f : Field) : f.yieldCal.power = f.power := by
  unfold yieldCal
  extract_lets hit g
  have hact : g.power = f.power := by
    unfold g
    split
    · split <;> rfl
    · rfl
  split
  · split <;> exact hact
  · exact hact

@[simp] theorem Field.calBoundary_power (f : Field) : f.calBoundary.power = f.power := by
  unfold calBoundary
  extract_lets _ f1 _ g1 f2 _ g2
  have hlane : f2.power = f.power := by
    unfold f2
    split
    · dsimp only
      split
      · exact calReject_power ..
      · split
        · exact applyTdc_power ..
        · exact applyXl_power ..
        · exact applyBar_power ..
    · rfl
  split
  · split
    · refine Eq.trans ?_ hlane
      dsimp only
      change Field.power (if _ then _ else _) = _
      split
      · exact applyAdc_power ..
      · exact calReject_power ..
    · exact hlane
  · split <;> exact hlane
  · exact hlane

@[simp] theorem Field.releaseHeld_power (f : Field) (n : Nat) : (f.releaseHeld n).power = f.power := by
  unfold releaseHeld
  split
  · rfl
  · split <;> rfl

@[simp] theorem Field.stage_clk (f : Field) (a : Slot) : (f.stage a).clk = f.clk := congrArg Power.clk (f.stage_power a)
@[simp] theorem Field.stage_refs (f : Field) (a : Slot) : (f.stage a).refs = f.refs := congrArg Power.refs (f.stage_power a)
@[simp] theorem Field.stage_stat (f : Field) (a : Slot) : (f.stage a).stat = f.stat := by rw [f.stage_rest a]

/-- What field work tells the job slots leaves the status bits. -/
theorem State.withField_stat (s : State) (g : Field) : (s.withField g).f.stat = g.stat := by
  have hend (s : State) (i : Nat) : (s.testEnd i).f.stat = s.f.stat := by
    unfold State.testEnd
    split
    · exact Field.stage_stat ..
    · rfl
  have hone (s : State) (e : JobEv) : (s.jobEvent e).f.stat = s.f.stat := by
    cases e with
    | testSlice line verdict =>
      refine List.foldlRecOn (motive := fun t : State => t.f.stat = s.f.stat) _ _ rfl fun t ht i _ => ?_
      split
      · exact (hend ..).trans ht
      · exact ht
    | _ => rfl
  exact g.jobEv.foldlRecOn (motive := fun t : State => t.f.stat = g.stat) _ rfl fun t ht e _ => (hone t e).trans ht

/-! ### Housekeeping item 1 before a hand-over ends -/

/-! What an update leaves is said of the update itself: unfolding `Field.advance` would have its arithmetic evaluated. -/

theorem Clk.update_eofs (c : Clk) (st : Stamp) (ph : Word) (tk n : Nat) (past : List (Stamp × BitVec 54 × BitVec 16)) :
    Clk.eofs { c with stamp := st, phase := ph, ticks := tk, fno := n, past := past } = c.eofs := rfl

theorem Field.update_refs (f : Field) (c : Clk) (r : Refs) : Field.refs { f with clk := c, refs := r } = r := rfl

theorem Field.update_pendW (f : Field) (c : Clk) (r : Refs) : Field.pendW { f with clk := c, refs := r } = f.pendW := rfl

theorem Field.advance_eofs (f : Field) : f.advance.clk.eofs = f.clk.eofs := f.clk.update_eofs ..

theorem Field.advance_refs (f : Field) : f.advance.refs = f.refs.slewMoved f.clk.frameLen := f.update_refs _ _

theorem Field.advance_pendW (f : Field) : f.advance.pendW = f.pendW := f.update_pendW _ _

theorem Refs.slewMoved_planned (r : Refs) (len : Nat) : (r.slewMoved len).planned = r.planned := by
  unfold Refs.slewMoved
  dsimp only
  split <;> rfl

/-- A hand-over is one frame older, and the frame that ended blended its share (R272). -/
theorem Refs.slewMoved_ho (r : Refs) (len : Nat) {h : HandOver} (hho : r.ho = some h) : (r.slewMoved len).ho =
    some { h with frames := h.frames + 1, blend := h.blend - r.rs * ((len * 2 ^ 17 : Nat) : Rat) } := by
  simp only [Refs.slewMoved, hho]

theorem Field.startCount_refs (f : Field) : f.startCount.refs = f.refs ∧ f.startCount.clk = f.clk := by
  have hheld (g : Field) : (((g.releaseHeld 0).releaseHeld 1).finishSets).power = g.power := by simp
  unfold Field.startCount
  split
  · exact ⟨rfl, rfl⟩
  · split
    · exact ⟨congrArg Power.refs (hheld _), congrArg Power.clk (hheld _)⟩
    · exact ⟨rfl, rfl⟩

theorem Field.wrapCheck_refs (f : Field) (old : Int) : (f.wrapCheck old).refs = f.refs ∧ (f.wrapCheck old).clk.eofs = f.clk.eofs := by
  unfold Field.wrapCheck
  dsimp only
  split
  · exact ⟨stage_refs .., by rw [stage_clk]⟩
  · exact ⟨rfl, rfl⟩

/-- Without a planned change a boundary adopts and selects nothing; r_d moves. -/
theorem Field.applyAdopts_unplanned (f : Field) (tset : Bool) (h : f.refs.planned = []) :
    (f.applyAdopts tset).refs = { f.refs with rd := f.refs.rdNext.getD f.refs.rd, rdNext := none } ∧
      (f.applyAdopts tset).clk = f.clk := by
  simp only [Field.applyAdopts, h, List.filterMap_nil, List.filter_nil, List.foldl_nil, and_self]

theorem Field.applySelects_unplanned (f : Field) (h : f.refs.planned = []) : f.applySelects = f := by
  have hsame : { f with refs := { f.refs with planned := [] } } = f := by rw [← h]
  simp only [Field.applySelects, h, List.foldl_nil, hsame]

theorem Field.commitAll_unwritten (f : Field) (h : f.pendW = []) : f.commitAll = f := by
  have hsame : { f with pendW := [] } = f := by rw [← h]
  simp only [Field.commitAll, h, List.foldl_nil, hsame]

/-- Item 1 of a boundary without a TSET apply, up to what the part itself planned (R32): time advances and may wrap, r_c moves. -/
def Field.item1Opens (f : Field) : Field :=
  let g := f.advance.startCount
  let g := { g with ev := g.ev.takeLevels g.clk.ticks, sched := { g.sched with lane := 0, slack := 0 } }.wrapCheck f.clk.unreduced
  { g with rate := { g.rate with rc := g.rate.rcNext.getD g.rate.rc, rcNext := none } }

theorem Field.item1_untimed (f : Field) (h : hasTset f.pendW = false) : f.item1 =
    ((((f.item1Opens.yieldCal.calBoundary).applyAdopts false).applySelects).handoverEnd false).commitAll.newRate := by
  simp only [Field.item1, Field.item1Opens, h, Bool.false_eq_true, if_false]

theorem Field.item1Opens_refs (f : Field) : f.item1Opens.refs = f.advance.refs ∧ f.item1Opens.clk.eofs = f.clk.eofs := by
  obtain ⟨hrefs, hclk⟩ := f.advance.startCount_refs
  exact ⟨(wrapCheck_refs _ _).1.trans hrefs, (wrapCheck_refs _ _).2.trans ((congrArg Clk.eofs hclk).trans f.advance_eofs)⟩

theorem Field.item1Opens_time (f : Field) : f.advance.KeepsTime f.item1Opens := by
  simp only [Field.item1Opens, keepsTime_mk, (wrapCheck_time _ _).iff, startCount_time]

/-- With no write that waits and no change planned, item 1 ends a hand-over that has only lived one frame more; then the new rate
is formed. -/
theorem Field.item1_unplanned (f : Field) (hplanned : f.refs.planned = []) (hpend : f.pendW = []) :
    ∃ g : Field, f.item1 = (g.handoverEnd false).newRate ∧ g.refs.ho = (f.refs.slewMoved f.clk.frameLen).ho ∧
      g.clk.eofs = f.clk.eofs := by
  obtain ⟨hrefs, heofs⟩ := f.item1Opens_refs
  have hpower : (f.item1Opens.yieldCal.calBoundary).power = f.item1Opens.power := (calBoundary_power _).trans (yieldCal_power _)
  have htime : f.advance.KeepsTime (f.item1Opens.yieldCal.calBoundary) :=
    (f.item1Opens_time.trans (yieldCal_time _)).trans (calBoundary_time _)
  rw [f.item1_untimed (by rw [hpend]; rfl)]
  generalize f.item1Opens.yieldCal.calBoundary = k at hpower htime
  have hkrefs : k.refs = f.refs.slewMoved f.clk.frameLen := ((congrArg Power.refs hpower).trans hrefs).trans f.advance_refs
  have hkeofs : k.clk.eofs = f.clk.eofs := (congrArg (fun p => p.clk.eofs) hpower).trans heofs
  have hkplanned : k.refs.planned = [] := by rw [hkrefs, Refs.slewMoved_planned, hplanned]
  obtain ⟨harefs, haclk⟩ := k.applyAdopts_unplanned false hkplanned
  obtain ⟨-, -, hleft, -⟩ := (htime.trans (k.applyAdopts_time false)).trans (handoverEnd_time _ false)
  rw [(k.applyAdopts false).applySelects_unplanned (by rw [harefs]; exact hkplanned),
    commitAll_unwritten _ (hleft.trans (f.advance_pendW.trans hpend))]
  exact ⟨_, rfl, by rw [harefs, hkrefs], by rw [haclk, hkeofs]⟩

/-! ### The end of a hand-over -/

theorem Field.newEpoch_left (f : Field) (eofs : BitVec 54) (cause : Nat) (hcause : cause ≠ 1) :
    (f.newEpoch eofs cause).refs = f.refs ∧ (f.newEpoch eofs cause).clk.eofs = eofs ∧ (f.newEpoch eofs cause).bit sbStepped = true := by
  refine ⟨(stage_refs ..).trans (if_neg hcause), (congrArg Clk.eofs (stage_clk ..) :), ?_⟩
  rw [Field.bit, Field.newEpoch, stage_stat]
  exact (bitOf_withBit _ _ _ (by decide)).trans ((if_neg (by decide)).trans (Field.bit_setBit _ (by decide)))

/-- R262: an offset of no whole frame is slewed. -/
theorem Field.step_slews (f : Field) (o : Rat) (leap : Bool) (h : roundTiesZero (o / 2 ^ 26) = 0) : (f.step o false leap).1 =
    { f with refs := { f.refs with slewOn := decide (o ≠ 0), slewRem := o, slewLeap := leap } } := by
  simp only [Field.step, h, Bool.not_false, decide_true, Bool.and_self, if_true]

/-- R262: an offset of whole frames is stepped, and its rest slewed. -/
theorem Field.step_steps (f : Field) (o : Rat) (leap : Bool) (h : roundTiesZero (o / 2 ^ 26) ≠ 0) :
    (f.step o false leap).1.clk.eofs = BitVec.ofInt 54 (f.clk.eofs.toInt + roundTiesZero (o / 2 ^ 26)) ∧
    (f.step o false leap).1.bit sbStepped = true ∧ (f.step o false leap).1.refs.ho = f.refs.ho ∧
    (f.step o false leap).1.refs.slewRem = o - (roundTiesZero (o / 2 ^ 26) : Rat) * 2 ^ 26 ∧
    (f.step o false leap).1.refs.slewOn = decide (o - (roundTiesZero (o / 2 ^ 26) : Rat) * 2 ^ 26 ≠ 0) ∧
    (f.step o false leap).1.refs.slewLeap = false := by
  obtain ⟨hrefs, heofs, hbit⟩ := f.newEpoch_left (BitVec.ofInt 54 (f.clk.eofs.toInt + roundTiesZero (o / 2 ^ 26)))
    (if roundTiesZero (o / 2 ^ 26) < 0 then 3 else 2) (by split <;> decide)
  have hstep : (f.step o false leap).1 =
      let g := f.newEpoch (BitVec.ofInt 54 (f.clk.eofs.toInt + roundTiesZero (o / 2 ^ 26)))
        (if roundTiesZero (o / 2 ^ 26) < 0 then 3 else 2)
      let rest := o - (roundTiesZero (o / 2 ^ 26) : Rat) * 2 ^ 26
      { g with refs := { g.refs with
        corr := g.refs.corr + (roundTiesZero (o / 2 ^ 26) : Rat) * 2 ^ 26, slewOn := decide (rest ≠ 0), slewRem := rest,
        slewLeap := false } } := by
    simp only [Field.step, h, decide_false, Bool.false_and, Bool.false_eq_true, if_false]
  rw [hstep]
  exact ⟨heofs, hbit, (congrArg Refs.ho hrefs :), rfl, rfl, rfl⟩

/-- R272: a hand-over that blended leaves the rest of its blend as a slew. -/
theorem Field.handoverEnd_blend (f : Field) {h : HandOver} (hho : f.refs.ho = some h) (hold : 64 ≤ h.frames) (hstep : h.step = false) :
    f.handoverEnd false =
      { f with refs := { f.refs with ho := none, slewOn := decide (h.blend ≠ 0), slewRem := h.blend, slewLeap := false } } := by
  simp only [Field.handoverEnd, hho, Nat.not_lt.mpr hold, hstep, Bool.false_eq_true, if_false]

/-- R262, R272: a hand-over that waited steps. -/
theorem Field.handoverEnd_step (f : Field) {h : HandOver} (hho : f.refs.ho = some h) (hold : 64 ≤ h.frames) (hstep : h.step = true) :
    f.handoverEnd false = (Field.step { f with refs := { f.refs with ho := none } } h.d false false).1 := by
  simp only [Field.handoverEnd, hho, Nat.not_lt.mpr hold, hstep, Bool.false_and, Bool.false_eq_true, if_false, if_true]

/-- A hand-over that has ended leaves no leap second under way (R272). -/
theorem Field.handoverEnd_ends (f : Field) {h : HandOver} (hho : f.refs.ho = some h) (hold : 64 ≤ h.frames) :
    (f.handoverEnd false).refs.ho = none ∧ (f.handoverEnd false).refs.slewLeap = false := by
  cases hstep : h.step with
  | false =>
    rw [f.handoverEnd_blend hho hold hstep]
    exact ⟨rfl, rfl⟩
  | true =>
    rw [f.handoverEnd_step hho hold hstep]
    by_cases hn : roundTiesZero (h.d / 2 ^ 26) = 0
    · rw [step_slews _ _ _ hn]
      exact ⟨rfl, rfl⟩
    · obtain ⟨-, -, hnone, -, -, hleap⟩ := step_steps { f with refs := { f.refs with ho := none } } h.d false hn
      exact ⟨hnone, hleap⟩

/-! ### HANDOVER_COMPLETE -/

/-- What the end of a hand-over moves: the hand-over, the slew, the epoch offset, the status bits. -/
structure Course where
  ho : Option HandOver
  slewOn : Bool
  slewRem : Rat
  slewLeap : Bool
  eofs : BitVec 54
  latched : Word

def Field.course (f : Field) : Course :=
  ⟨f.refs.ho, f.refs.slewOn, f.refs.slewRem, f.refs.slewLeap, f.clk.eofs, f.stat.latched⟩

theorem Field.newRate_course (f : Field) : f.newRate.course = f.course := rfl

theorem State.withField_course (s : State) (g : Field) : (s.withField g).f.course = g.course := by
  have hrefs : (s.withField g).f.refs = g.refs := congrArg Power.refs (s.withField_power g)
  have hclk : (s.withField g).f.clk = g.clk := congrArg Power.clk (s.withField_power g)
  rw [Field.course, hrefs, hclk, s.withField_stat]
  rfl

theorem doHandoverComplete_due (f : Field) {h : HandOver} (halive : f.start.alive = true) (hho : f.refs.ho = some h)
    (hold : 63 ≤ h.frames) (hitem1 : f.clk.item1 = false) : doHandoverComplete f = f.early := by
  simp only [doHandoverComplete, hho, halive, hitem1, Nat.not_lt.mpr hold, Bool.not_true, decide_false, Bool.or_self, Bool.false_eq_true,
    if_false]

theorem doHandoverComplete_idle (f : Field) (h : f.refs.ho = none ∨ f.clk.item1 = true) : doHandoverComplete f = f := by
  unfold doHandoverComplete
  split
  · next k hho =>
    have hitem1 : f.clk.item1 = true := h.resolve_left (by rw [hho]; exact Option.some_ne_none k)
    rw [hitem1, Bool.or_true, Bool.true_or, if_pos rfl]
  · rfl

theorem Field.early_course (f : Field) : f.early.course = f.item1.course := rfl

/-- The boundary at which a hand-over ends, with its step or the rest of its blend (R262, R272). -/
theorem handoverCompletes (s : State) (h : HandOver) (hup : FieldUp s) (hho : s.f.refs.ho = some h) (hold : 63 ≤ h.frames)
    (hitem1 : s.f.clk.item1 = false) (hplanned : s.f.refs.planned = []) (hpend : s.f.pendW = []) :
    ∃ t, exec .handoverComplete s = .next t ∧ t.f.refs.ho = none ∧ t.f.refs.slewLeap = false ∧ t.f.clk.item1 = true ∧
      t.f.clk.fno = s.f.clk.fno + 1 ∧
      (h.step = false →
        t.f.refs.slewRem = h.blend - s.f.refs.rs * ((s.f.clk.frameLen * 2 ^ 17 : Nat) : Rat) ∧
        t.f.refs.slewOn = decide (t.f.refs.slewRem ≠ 0) ∧ t.f.clk.eofs = s.f.clk.eofs) ∧
      (h.step = true →
        t.f.refs.slewRem = h.d - (roundTiesZero (h.d / 2 ^ 26) : Rat) * 2 ^ 26 ∧
        t.f.refs.slewOn = decide (t.f.refs.slewRem ≠ 0) ∧
        (roundTiesZero (h.d / 2 ^ 26) = 0 → t.f.clk.eofs = s.f.clk.eofs) ∧
        (roundTiesZero (h.d / 2 ^ 26) ≠ 0 →
          t.f.clk.eofs = BitVec.ofInt 54 (s.f.clk.eofs.toInt + roundTiesZero (h.d / 2 ^ 26)) ∧ t.f.bit sbStepped = true)) := by
  obtain ⟨halive, -⟩ := Bool.and_eq_true_iff.mp hup.1
  have hexec : exec .handoverComplete s = .next (s.withField s.f.early) := by
    rw [← doHandoverComplete_due s.f halive hho hold hitem1]
    rfl
  have hclk : (s.withField s.f.early).f.clk = s.f.early.clk := congrArg Power.clk (s.withField_power s.f.early)
  obtain ⟨g, hitem, hgho, hgeofs⟩ := s.f.item1_unplanned hplanned hpend
  rw [Refs.slewMoved_ho _ _ hho] at hgho
  have hcourse : (s.withField s.f.early).f.course = (g.handoverEnd false).course := by
    rw [s.withField_course, Field.early_course, hitem, Field.newRate_course]
  obtain ⟨htime, -, -⟩ := s.f.item1_time
  have hfno : (s.withField s.f.early).f.clk.fno = s.f.clk.fno + 1 := by
    rw [hclk]
    exact congrArg (fun c => c.2.2.2.1) (htime.trans s.f.advance_time)
  obtain ⟨hnone, hleap⟩ := g.handoverEnd_ends hgho (Nat.succ_le_succ hold)
  simp only [Field.course, Course.mk.injEq] at hcourse
  obtain ⟨tho, ton, trem, tleap, teofs, tstat⟩ := hcourse
  refine ⟨_, hexec, tho.trans hnone, tleap.trans hleap, by rw [hclk]; rfl, hfno, fun hstep => ?_, fun hstep => ?_⟩
  · rw [ton, trem, teofs, g.handoverEnd_blend hgho (Nat.succ_le_succ hold) hstep]
    exact ⟨rfl, rfl, hgeofs⟩
  · have hend := g.handoverEnd_step hgho (Nat.succ_le_succ hold) hstep
    rw [Field.bit, ton, trem, teofs, tstat, hend]
    by_cases hn : roundTiesZero (h.d / 2 ^ 26) = 0
    · rw [Field.step_slews _ _ _ hn]
      exact ⟨by simp [hn], rfl, fun _ => hgeofs, fun hne => absurd hn hne⟩
    · obtain ⟨heofs, hbit, -, hrem, hon, -⟩ := Field.step_steps { g with refs := { g.refs with ho := none } } h.d false hn
      rw [← hgeofs]
      exact ⟨hrem, hrem ▸ hon, fun hz => absurd hz hn, fun _ => ⟨heofs, hbit⟩⟩

/-! ### Lost references, slews, hold-over -/

/-- R253: 512 frames after its loss. -/
theorem doReferenceIdle_due (f : Field) (r : RefSrc) (hst : (f.refs.get r).st = .lost)
    (hlost : (f.refs.get r).lostAt + 512 ≤ f.clk.fno) :
    doReferenceIdle r f = { f with refs := f.refs.put r { f.refs.get r with st := .idle, run := none } } :=
  if_pos (by simp [hst, hlost])

/-- R264: nothing is left to move. -/
theorem doSlewEnd_due (f : Field) (hon : f.refs.slewOn = true) (hrem : f.refs.slewRem = 0) :
    doSlewEnd f = { f with refs := { f.refs with slewOn := false, slewLeap := false } } :=
  if_pos (by simp [hon, hrem])

/-- R282: 86 400 s of HOLD, as HOLD_SEC counts them. -/
theorem doHoldoverLong_due (f : Field) (hhold : f.refs.tref = .hold)
    (hlong : 86400 * 2 ^ 32 ≤ f.clk.stamp.toNat - f.refs.holdFrom) : doHoldoverLong f = f.setBit sbHoldoverLong := by
  have hsec : 86400 ≤ f.holdSec := by
    have hdiv : 86400 ≤ (f.clk.stamp.toNat - f.refs.holdFrom) / 2 ^ 32 := (Nat.le_div_iff_mul_le (by decide)).mpr hlong
    rw [Field.holdSec, if_pos hhold]
    exact le_min hdiv (by decide)
  exact if_pos (decide_eq_true hsec)

/-- Settles O23: the four timers that are due, `handoverCompletes` among them, and a hand-over that is not. -/
theorem referenceTimersEnd : Obligations.ReferenceTimersEnd :=
  ⟨fun s r hup hst hlost => s.fieldStep (.referenceIdle r) rfl (doReferenceIdle_due s.f r hst hlost) hup.2,
    fun s hup hon hrem => s.fieldStep .slewEnd rfl (doSlewEnd_due s.f hon hrem) hup.2,
    fun s hup hhold hlong => s.fieldStep .holdoverLongSet rfl (doHoldoverLong_due s.f hhold hlong) hup.2,
    handoverCompletes,
    fun s hup hidle => s.fieldStep .handoverComplete rfl (doHandoverComplete_idle s.f hidle) hup.2⟩

end Sys2Proof.Machine
end

section
/-! The pulses of the wake outputs (09_alarms_periods.md, R329 to R331): what the release of an output leaves, and the end of a pulse. -/

namespace Sys2Proof.Machine

/-- A transaction that is sent brings the job slots no news. -/
theorem Field.send_jobEv (f : Field) (ty : MsgType) (ws : List Word) : (f.send ty ws).jobEv = f.jobEv := by
  unfold Field.send
  split <;> rfl

/-! ### The release of PON_H (R124, R331) -/

/-- While linked, a `WAKE` goes out, and the field side keeps what it is for. -/
theorem Field.sendWake_linked (f : Field) (w : Word) (a : Option Firing) (hlink : f.bar.linked = true) :
    f.sendWake w a = Field.send { f with wake := { f.wake with sent := f.wake.sent ++ [a] } } .wake [w] :=
  if_pos hlink

/-- While linked, PON_H and its pulse end by a `WAKE` that asks for nothing. -/
theorem Field.releaseH_linked (f : Field) (hlink : f.bar.linked = true) :
    f.releaseH = Field.send { f with wake := { f.wake with
      ponH := false, ponHLeft := 0, ponHDue := false, sent := f.wake.sent ++ [none] } } .wake [0#32] :=
  (if_pos hlink).trans (Field.sendWake_linked _ _ none hlink)

/-- A dropped `WAKE` leaves PON_H as it is. -/
theorem Field.releaseH_unlinked (f : Field) (hlink : f.bar.linked = false) : f.releaseH = f :=
  if_neg (Bool.eq_false_iff.mp hlink)

/-! ### The end of a pulse (R330) -/

/-- The pulse of PON_F has run out: the output is released. -/
theorem doPonPulseEnd_ponF (f : Field) (hdue : f.wake.ponFDue = true) :
    doPonPulseEnd .ponF f = { f with wake := { f.wake with ponF := false, ponFLeft := 0, ponFDue := false } } :=
  if_pos hdue

/-- The pulse of PON_H has run out: it is no longer due, and its release is tried once. -/
theorem doPonPulseEnd_ponH (f : Field) (hdue : f.wake.ponHDue = true) :
    doPonPulseEnd .ponH f = Field.releaseH { f with wake := { f.wake with ponHDue := false } } :=
  if_pos hdue

/-- Settles O18: PON_F is released by the field side itself; PON_H by a `WAKE` where it is linked, and not at all where it is not. -/
theorem pulseEndReleases : Obligations.PulseEndReleases := by
  refine ⟨fun s hup hdue => ?ponF, fun s hup hdue hlink => ?ponHLinked, fun s hup hdue hlink => ?ponHUnlinked⟩
  case ponF => exact s.fieldStep (.ponPulseEnd .ponF) rfl (doPonPulseEnd_ponF s.f hdue) hup.2
  case ponHLinked =>
    exact s.fieldStep (.ponPulseEnd .ponH) rfl ((doPonPulseEnd_ponH s.f hdue).trans (Field.releaseH_linked _ hlink))
      ((Field.send_jobEv ..).trans hup.2)
  case ponHUnlinked =>
    exact s.fieldStep (.ponPulseEnd .ponH) rfl ((doPonPulseEnd_ponH s.f hdue).trans (Field.releaseH_unlinked _ hlink)) hup.2

end Sys2Proof.Machine
end

section
/-! Edges at the event inputs (10_event_capture.md, R353 to R367): what the lane's stamping leaves, and the three ways of an edge through
the filter. -/

namespace Sys2Proof.Machine

/-! ### A lane's capture (R360, R365, R367) -/

section
variable (f : Field) (i : Nat) (up : Bool) (tick ps n1 : Nat) (mv : Bool)

/-- On the field side a capture reaches the lane's captures, which may become coarse, its dead time and its domains. -/
theorem Field.capture_rest : ∃ caps hold dead tst, (f.capture i up tick ps n1 mv).2 =
    { f with ev := { f.ev with caps := caps, hold := hold, dead := dead }, tst := tst } ∧ caps.length = f.ev.caps.length := by
  unfold Field.capture
  extract_lets lane at8 e twin dead f0 coarse e1 dead' t1
  have hpaired : e1 = { e with caps := e1.caps, hold := e1.hold } ∧ e1.caps.length = e.caps.length := by
    unfold e1
    split
    · exact ⟨rfl, List.length_map _⟩
    · exact ⟨rfl, rfl⟩
  obtain ⟨hrest, hlength⟩ := hpaired
  exact ⟨_, _, _, _, congrArg (fun x : Ev =>
    ({ f with ev := { x with dead := dead' } }.domain (16 + 2 * lane)).domain (17 + 2 * lane)) hrest, hlength⟩

/-- The capture names its edge and the first tick of its lane (R360, R361). -/
theorem Field.capture_edge : (f.capture i up tick ps n1 mv).1.input = i ∧ (f.capture i up tick ps n1 mv).1.rising = up ∧
    (f.capture i up tick ps n1 mv).1.t1 = f.clk.ticks + tick + 1 ∧
    (f.capture i up tick ps n1 mv).1.st1 = f.clk.atTick (tick + 1) ∧ (f.capture i up tick ps n1 mv).1.n1 = n1 := by
  unfold Field.capture
  exact ⟨rfl, rfl, rfl, rfl, rfl⟩

/-- R365: while an increment moves, and before the calibration is restored, every edge is stamped coarse. -/
theorem Field.capture_coarse (h : mv = true ∨ f.start.restored = false) : (f.capture i up tick ps n1 mv).1.coarse = true := by
  rcases h with h | h <;> simp [Field.capture, Field.edgeCoarse, h]

/-- What the lane makes of an edge (R356): a capture where its direction is selected, else nothing. -/
def Field.stampEdge : Option Cap × Field :=
  if edgeSelected (f.evCfg i) up then (some (f.capture i up tick ps n1 mv).1, (f.capture i up tick ps n1 mv).2) else (none, f)

theorem Field.stampEdge_selected (h : edgeSelected (f.evCfg i) up = true) :
    f.stampEdge i up tick ps n1 mv = (some (f.capture i up tick ps n1 mv).1, (f.capture i up tick ps n1 mv).2) := if_pos h

theorem Field.stampEdge_unselected (h : edgeSelected (f.evCfg i) up = false) : f.stampEdge i up tick ps n1 mv = (none, f) :=
  if_neg (Bool.eq_false_iff.mp h)

theorem Field.stampEdge_rest : ∃ cap caps hold dead tst, f.stampEdge i up tick ps n1 mv =
      (cap, { f with ev := { f.ev with caps := caps, hold := hold, dead := dead }, tst := tst }) ∧
    cap.isSome = edgeSelected (f.evCfg i) up ∧ caps.length = f.ev.caps.length ∧
    (edgeSelected (f.evCfg i) up = false → tst = f.tst ∧ dead = f.ev.dead) := by
  cases hsel : edgeSelected (f.evCfg i) up with
  | true =>
    obtain ⟨caps, hold, dead, tst, hrest, hlength⟩ := f.capture_rest i up tick ps n1 mv
    rw [f.stampEdge_selected (h := hsel), hrest]
    exact ⟨_, caps, hold, dead, tst, rfl, rfl, hlength, nofun⟩
  | false =>
    rw [f.stampEdge_unselected (h := hsel)]
    exact ⟨none, f.ev.caps, f.ev.hold, f.ev.dead, f.tst, rfl, rfl, rfl, fun _ => ⟨rfl, rfl⟩⟩

end

/-! ### Holds that end without an event (R357, R358) -/

theorem Ev.drop_rest (e : Ev) (now : Nat) (c : Cap) : e.drop now c = { e with stray := (e.drop now c).stray } := by
  unfold Ev.drop
  split <;> rfl

theorem Ev.cancelHold_rest (e : Ev) (now i : Nat) :
    e.cancelHold now i = { e with hold := e.hold.setIfInBounds i none, stray := (e.cancelHold now i).stray } := by
  unfold Ev.cancelHold
  dsimp only
  split
  · exact Ev.drop_rest ..
  · rfl

/-! ### The filter (R357 to R359, R765) -/

/-- What the filter `filt` of input `i` makes at tick `now` of an edge that its lane has stamped as `cap`, on the field side `g`. -/
def filterEdge (i : Nat) (up : Bool) (now filt : Nat) (cap : Option Cap) (g : Field) : Field :=
  if filt < 2 then { g with ev := { g.ev with level := setBit8 g.ev.level i up, caps := g.ev.caps ++ cap.toList } }
  else
    let e := g.ev.cancelHold now i
    if up = e.level.getLsbD i then { g with ev := match cap with | some c => e.drop now c | none => e }
    else { g with ev := { e with hold := e.hold.setIfInBounds i (some ⟨cap, up, now + holdTicks filt⟩) } }

theorem Field.acceptEdge_eq (f : Field) (i : Nat) (up : Bool) (tick ps n1 : Nat) (mv : Bool) :
    f.acceptEdge i up tick ps n1 mv = filterEdge i up (f.clk.ticks + tick) (evFilt (f.evCfg i)) (f.stampEdge i up tick ps n1 mv).1
      (f.stampEdge i up tick ps n1 mv).2 := rfl

section
variable {i : Nat} {up : Bool} {now filt : Nat} {cap : Option Cap} {g : Field}

/-- FILT 0 and 1 hand the edge on at once. -/
theorem filterEdge_quick (hfilt : filt < 2) : filterEdge i up now filt cap g =
    { g with ev := { g.ev with level := setBit8 g.ev.level i up, caps := g.ev.caps ++ cap.toList } } :=
  if_pos hfilt

/-- FILT 2 to 4: an edge away from the level begins a hold, in place of one under way. -/
theorem filterEdge_away (hfilt : 2 ≤ filt) (haway : g.ev.level.getLsbD i ≠ up) : ∃ stray, filterEdge i up now filt cap g =
    { g with ev := { g.ev with
      hold := g.ev.hold.setIfInBounds i (some ⟨cap, up, now + holdTicks filt⟩), stray := stray } } := by
  refine ⟨(g.ev.cancelHold now i).stray, ?_⟩
  unfold filterEdge
  rw [if_neg (Nat.not_lt.mpr hfilt), Ev.cancelHold_rest]
  dsimp only
  rw [if_neg haway.symm, Vector.setIfInBounds_setIfInBounds]

/-- FILT 2 to 4: an edge back to the level ends the hold, and leads to no event. -/
theorem filterEdge_back (hfilt : 2 ≤ filt) (hback : g.ev.level.getLsbD i = up) : ∃ stray, filterEdge i up now filt cap g =
    { g with ev := { g.ev with hold := g.ev.hold.setIfInBounds i none, stray := stray } } := by
  unfold filterEdge
  rw [if_neg (Nat.not_lt.mpr hfilt), Ev.cancelHold_rest]
  dsimp only
  rw [if_pos hback.symm]
  cases cap with
  | none => exact ⟨_, rfl⟩
  | some c =>
    dsimp only
    rw [Ev.drop_rest]
    exact ⟨_, rfl⟩

end

/-! ### The rows of an edge (R353, R354, R356, R357) -/

/-- The field side whose pin `i` has gone to `up`. -/
def Field.pin (f : Field) (i : Nat) (up : Bool) : Field := { f with ev := { f.ev with raw := setBit8 f.ev.raw i up } }

section
variable (f : Field) (i : Fin 8) (up : Bool) (tick ps n1 : Nat) (mv : Bool)

/-- A disabled input, and one that waits for its level, ignore the edge. -/
theorem doEvEdge_ignored (h : evEnabled (f.evCfg i) = false ∨ f.ev.arm.getLsbD i = true ∧ f.clk.ticks + tick < f.ev.armAt) :
    doEvEdge i up tick ps n1 mv f = f.pin i up := by
  rcases h with hdis | ⟨harm, hwait⟩
  · exact if_pos (by simp [hdis])
  · unfold doEvEdge
    simp only [harm, hwait, if_true, ite_self]
    rfl

section
variable {f i} (hrun : f.runs = true) (hen : evEnabled (f.evCfg i) = true) (harm : f.ev.arm.getLsbD i = false)
include hrun hen harm

/-- An enabled input that shows its level hands the edge to its lane and its filter. -/
theorem doEvEdge_filtered : doEvEdge i up tick ps n1 mv f = filterEdge i up (f.clk.ticks + tick) (evFilt (f.evCfg i))
    ((f.pin i up).stampEdge i up tick ps n1 mv).1 ((f.pin i up).stampEdge i up tick ps n1 mv).2 := by
  unfold doEvEdge
  simp only [hrun, hen, harm]
  exact Field.acceptEdge_eq ..

theorem doEvEdge_quick_unselected (hfilt : evFilt (f.evCfg i) < 2) (hsel : edgeSelected (f.evCfg i) up = false) :
    doEvEdge i up tick ps n1 mv f =
      { f with ev := { f.ev with raw := setBit8 f.ev.raw i up, level := setBit8 f.ev.level i up } } := by
  have hstamp := (f.pin i up).stampEdge_unselected i up tick ps n1 mv hsel
  rw [doEvEdge_filtered up tick ps n1 mv hrun hen harm, filterEdge_quick hfilt, hstamp, Option.toList_none,
    List.append_nil]
  rfl

/-- The capture of the edge itself is the last one. -/
theorem doEvEdge_quick_selected (hfilt : evFilt (f.evCfg i) < 2) (hsel : edgeSelected (f.evCfg i) up = true) :
    ∃ caps hold dead tst, doEvEdge i up tick ps n1 mv f = { f with
        ev := { f.ev with
          raw := setBit8 f.ev.raw i up, level := setBit8 f.ev.level i up, hold := hold, dead := dead,
          caps := caps ++ [((f.pin i up).capture i up tick ps n1 mv).1] },
        tst := tst } ∧ caps.length = f.ev.caps.length := by
  have hstamp := (f.pin i up).stampEdge_selected i up tick ps n1 mv hsel
  obtain ⟨caps, hold, dead, tst, hrest, hlength⟩ := (f.pin i up).capture_rest i up tick ps n1 mv
  refine ⟨caps, hold, dead, tst, ?_, hlength⟩
  rw [doEvEdge_filtered up tick ps n1 mv hrun hen harm, filterEdge_quick hfilt, hstamp, hrest]
  rfl

/-- The hold takes the capture along, where the direction is selected. -/
theorem doEvEdge_away (hfilt : 2 ≤ evFilt (f.evCfg i)) (haway : f.ev.level.getLsbD i ≠ up) :
    ∃ cap caps hold dead stray tst, doEvEdge i up tick ps n1 mv f = { f with
        ev := { f.ev with
          raw := setBit8 f.ev.raw i up, caps := caps, dead := dead, stray := stray,
          hold := Vector.setIfInBounds hold i (some ⟨cap, up, f.clk.ticks + tick + holdTicks (evFilt (f.evCfg i))⟩) },
        tst := tst } ∧ caps.length = f.ev.caps.length ∧ cap.isSome = edgeSelected (f.evCfg i) up := by
  obtain ⟨cap, caps, hold, dead, tst, hstamp, hsome, hlength, -⟩ := (f.pin i up).stampEdge_rest i up tick ps n1 mv
  rw [doEvEdge_filtered up tick ps n1 mv hrun hen harm, hstamp]
  obtain ⟨stray, hhold⟩ := filterEdge_away (now := f.clk.ticks + tick) (cap := cap)
    (g := { f.pin i up with ev := { (f.pin i up).ev with caps := caps, hold := hold, dead := dead }, tst := tst }) hfilt haway
  exact ⟨cap, caps, hold, dead, stray, tst, hhold, hlength, hsome⟩

/-- The lane stamps the edge that ends a hold too, where its direction is selected. -/
theorem doEvEdge_back (hfilt : 2 ≤ evFilt (f.evCfg i)) (hback : f.ev.level.getLsbD i = up) :
    ∃ caps hold dead stray tst, doEvEdge i up tick ps n1 mv f = { f with
        ev := { f.ev with
          raw := setBit8 f.ev.raw i up, caps := caps, dead := dead, stray := stray, hold := Vector.setIfInBounds hold i none },
        tst := tst } ∧ caps.length = f.ev.caps.length ∧
      (edgeSelected (f.evCfg i) up = false → tst = f.tst ∧ dead = f.ev.dead) := by
  obtain ⟨cap, caps, hold, dead, tst, hstamp, -, hlength, hidle⟩ := (f.pin i up).stampEdge_rest i up tick ps n1 mv
  rw [doEvEdge_filtered up tick ps n1 mv hrun hen harm, hstamp]
  obtain ⟨stray, hhold⟩ := filterEdge_back (now := f.clk.ticks + tick) (cap := cap)
    (g := { f.pin i up with ev := { (f.pin i up).ev with caps := caps, hold := hold, dead := dead }, tst := tst }) hfilt hback
  exact ⟨caps, hold, dead, stray, tst, hhold, hlength, hidle⟩

end

end

/-- A hold that is due ends: the level changes, and the pending capture goes on. -/
theorem doFilterHold_due (f : Field) (i : Fin 8) (tick : Nat) (h : FHold) (hrun : f.runs = true)
    (hhold : f.ev.hold[i.val]? = some (some h)) (hdue : h.due ≤ f.clk.ticks + tick) :
    doFilterHold i tick f = { f with ev := { f.ev with
      hold := f.ev.hold.setIfInBounds i.val none, level := setBit8 f.ev.level i.val h.level,
      caps := f.ev.caps ++ (h.cap.map fun c => { c with ready := max c.ready h.due }).toList } } := by
  have hheld : f.ev.hold[i.val]?.getD none = some h := congrArg (Option.getD · none) hhold
  unfold doFilterHold
  rw [hheld]
  dsimp only
  rw [if_neg (by simp [hrun, hdue])]
  cases h.cap with
  | none => simp
  | some c => rfl

/-- Settles O31: an edge is ignored (`doEvEdge_ignored`), handed on at once, or begins or ends a hold (`doEvEdge_away`,
`doEvEdge_back`), which runs out by `doFilterHold_due`. -/
theorem edgesAreCaptured : Obligations.EdgesAreCaptured := by
  refine ⟨fun s i up tick ps n1 mv hup hignored => ?ignored, fun s i up tick ps n1 mv hup hen harm hfilt hsel => ?unselected,
    fun s i up tick ps n1 mv hup hen harm hfilt hsel => ?captured, fun s i up tick ps n1 mv hup hen harm hfilt haway => ?held,
    fun s i up tick ps n1 mv hup hen harm hfilt hback => ?returned, fun s i tick h hup hhold hdue => ?completed⟩
  case ignored =>
    exact s.fieldStep (.evEdge i up tick ps n1 mv) rfl (doEvEdge_ignored (s.f.atTick tick) i up tick ps n1 mv hignored) hup.2
  case unselected =>
    exact s.fieldStep (.evEdge i up tick ps n1 mv) rfl
      (doEvEdge_quick_unselected (f := s.f.atTick tick) up tick ps n1 mv hup.1 hen harm hfilt hsel) hup.2
  case captured =>
    obtain ⟨caps, hold, dead, tst, hedge, hlength⟩ :=
      doEvEdge_quick_selected (f := s.f.atTick tick) up tick ps n1 mv hup.1 hen harm hfilt hsel
    obtain ⟨t, ht, hfield, hhost, -⟩ := s.fieldStep (.evEdge i up tick ps n1 mv) rfl hedge hup.2
    obtain ⟨hinput, hrising, ht1, hst1, hn1⟩ := ((s.f.atTick tick).pin i up).capture_edge i up tick ps n1 mv
    refine ⟨t, (((s.f.atTick tick).pin i up).capture i up tick ps n1 mv).1, ht, hhost, ?_⟩
    rw [hfield]
    exact ⟨rfl, rfl, List.length_append.trans (congrArg (· + 1) hlength), List.getLast?_concat, hinput, hrising, ht1, hst1, hn1,
      Field.capture_coarse _ _ _ _ _ _ _⟩
  case held =>
    obtain ⟨cap, caps, hold, dead, stray, tst, hedge, hlength, hsome⟩ :=
      doEvEdge_away (f := s.f.atTick tick) up tick ps n1 mv hup.1 hen harm hfilt haway
    obtain ⟨t, ht, hfield, hhost, -⟩ := s.fieldStep (.evEdge i up tick ps n1 mv) rfl hedge hup.2
    refine ⟨t, ⟨cap, up, s.f.clk.ticks + tick + holdTicks (evFilt (s.f.evCfg i))⟩, ht, hhost, ?_⟩
    rw [hfield]
    exact ⟨rfl, rfl, hlength, rfl, Vector.getElem?_setIfInBounds_self_of_lt i.isLt, rfl, rfl, hsome⟩
  case returned =>
    obtain ⟨caps, hold, dead, stray, tst, hedge, hlength, hidle⟩ :=
      doEvEdge_back (f := s.f.atTick tick) up tick ps n1 mv hup.1 hen harm hfilt hback
    obtain ⟨t, ht, hfield, hhost, -⟩ := s.fieldStep (.evEdge i up tick ps n1 mv) rfl hedge hup.2
    refine ⟨t, ht, hhost, ?_⟩
    rw [hfield]
    exact ⟨rfl, rfl, rfl, Vector.getElem?_setIfInBounds_self_of_lt i.isLt, hlength, rfl, hidle⟩
  case completed =>
    exact s.fieldStep (.filterHoldComplete i tick) rfl (doFilterHold_due (s.f.atTick tick) i tick h hup.1 hhold hdue) hup.2

end Sys2Proof.Machine
end

section
/-! The event queue and the EVENT records (10_event_capture.md, R363, R372, R375 to R379). -/

namespace Sys2Proof.Machine

/-! ### Records -/

/-- What staging a record leaves in the journal is told by the journal and the frame. -/
theorem Field.stage_jrn_congr {f g : Field} (a : Slot) (hjrn : g.jrn = f.jrn) (hfno : g.clk.fno = f.clk.fno) :
    (g.stage a).jrn = (f.stage a).jrn := by
  simp only [Field.stage, Field.stageRec, Field.jrnRo, apply_ite Field.jrn, hjrn, hfno]

/-- The EVENT record of an entry. -/
def Field.eventSlot (f : Field) (e : EvEntry) (filt : Nat) : Slot :=
  recEvent e.input e.rising e.coarse e.rc e.stamp (epochAt f.clk e.stamp).2 filt

/-- R375, R379: the record is staged, or counted where staging has no room. -/
theorem Field.eventRec_eq (f : Field) (e : EvEntry) (filt : Nat) : f.eventRec e filt = { f with
    ev := { f.ev with norec := if f.roomFor 1 then f.ev.norec else satAdd f.ev.norec 1 },
    jrn := (f.stage (f.eventSlot e filt)).jrn } := by
  have hstage (g : Field) (hjrn : g.jrn = f.jrn) (hclk : g.clk = f.clk) :
      g.stage (f.eventSlot e filt) = { g with jrn := (f.stage (f.eventSlot e filt)).jrn } := by
    rw [g.stage_rest, Field.stage_jrn_congr _ hjrn (congrArg Clk.fno hclk)]
  unfold Field.eventRec
  by_cases hroom : f.roomFor 1 = true
  · simp only [if_pos hroom]
    exact hstage f rfl rfl
  · simp only [if_neg hroom]
    exact hstage _ rfl rfl

/-! ### The queue (R372, R376, R377) -/

/-- The field side with an entry at the end of its queue. -/
def Field.queued (f : Field) (e : EvEntry) : Field := { f with ev := { f.ev with queue := f.ev.queue ++ [e] } }

theorem Field.enqueue_room (f : Field) (e : EvEntry) (hroom : f.ev.queue.length < Config.eventQueueDepth) :
    f.enqueue e = f.queued e :=
  if_pos hroom

/-- A full queue refuses the entry: it counts as lost, and among the refusals since the first one, which sets EVOVF. -/
theorem Field.enqueue_full (f : Field) (e : EvEntry) (hfull : Config.eventQueueDepth ≤ f.ev.queue.length) :
    ∃ first, (f.enqueue e).ev = { f.ev with
        lost := satAdd f.ev.lost 1, refused := if f.bit sbEvovf then f.ev.refused + 1 else 1, refusedFirst := first } ∧
      (f.enqueue e).bit sbEvovf = true ∧ (f.enqueue e).jobEv = f.jobEv := by
  unfold Field.enqueue
  rw [if_neg (Nat.not_lt.mpr hfull)]
  cases hbit : f.bit sbEvovf with
  | true => exact ⟨_, rfl, hbit, rfl⟩
  | false =>
    simp only [Bool.not_false, if_true]
    rw [Field.stage_rest]
    exact ⟨_, rfl, Field.bit_setBit _ (by decide), rfl⟩

/-! ### A capture that completes (R361, R363, R375) -/

/-- The entry of a capture, its fine stamp completed by `n2`. -/
def Field.entryOf (f : Field) (c : Cap) (n2 : Nat) : EvEntry :=
  ⟨c.input, c.rising, c.coarse, c.rc, if c.coarse then c.st1 else f.fineStamp c n2⟩

/-- A coarse capture counts in EV_COARSE. -/
def Field.countCoarse (f : Field) (c : Cap) : Field :=
  { f with ev := { f.ev with coarse := if c.coarse then satAdd f.ev.coarse 1 else f.ev.coarse } }

theorem Field.eventDone_eq (f : Field) (c : Cap) (n2 : Nat) : f.eventDone c n2 =
    if evJrn (((f.countCoarse c).enqueue (f.entryOf c n2)).evCfg c.input) then
      ((f.countCoarse c).enqueue (f.entryOf c n2)).eventRec (f.entryOf c n2) c.filt
    else (f.countCoarse c).enqueue (f.entryOf c n2) := by
  have hcount : (if c.coarse then { f with ev := { f.ev with coarse := satAdd f.ev.coarse 1 } } else f) = f.countCoarse c := by
    unfold Field.countCoarse
    split <;> rfl
  rw [← hcount]
  rfl

/-- With room in the queue: the entry, the coarse count, and under `JRN` the record or the count of those without one. -/
theorem Field.eventDone_room (f : Field) (c : Cap) (n2 : Nat) (hroom : f.ev.queue.length < Config.eventQueueDepth) :
    f.eventDone c n2 = { f with
      ev := { f.ev with
        queue := f.ev.queue ++ [f.entryOf c n2],
        coarse := if c.coarse then satAdd f.ev.coarse 1 else f.ev.coarse,
        norec := if evJrn (f.evCfg c.input) && !f.roomFor 1 then satAdd f.ev.norec 1 else f.ev.norec },
      jrn := if evJrn (f.evCfg c.input) then (f.stage (f.eventSlot (f.entryOf c n2) c.filt)).jrn else f.jrn } := by
  have hqueue := (f.countCoarse c).enqueue_room (f.entryOf c n2) hroom
  have hjrn : evJrn (((f.countCoarse c).enqueue (f.entryOf c n2)).evCfg c.input) = evJrn (f.evCfg c.input) := by
    rw [hqueue]
    rfl
  rw [Field.eventDone_eq, hjrn, hqueue]
  cases evJrn (f.evCfg c.input) with
  | false => rfl
  | true =>
    have hnorec : (if f.roomFor 1 then f.ev.norec else satAdd f.ev.norec 1) =
        if true && !f.roomFor 1 then satAdd f.ev.norec 1 else f.ev.norec := by
      cases f.roomFor 1 <;> rfl
    simp only [if_true]
    rw [Field.eventRec_eq, ← hnorec, Field.stage_jrn_congr (f := f) (g := (f.countCoarse c).queued (f.entryOf c n2)) _ rfl rfl]
    rfl

/-- With the queue full: the entry is lost, and the first such one sets EVOVF; a record under `JRN` leaves that as it is. -/
theorem Field.eventDone_full (f : Field) (c : Cap) (n2 : Nat) (hfull : Config.eventQueueDepth ≤ f.ev.queue.length) :
    (f.eventDone c n2).ev.queue = f.ev.queue ∧ (f.eventDone c n2).ev.lost = satAdd f.ev.lost 1 ∧
      (f.eventDone c n2).bit sbEvovf = true ∧
      (f.eventDone c n2).ev.refused = (if f.bit sbEvovf then f.ev.refused + 1 else 1) ∧ (f.eventDone c n2).jobEv = f.jobEv := by
  obtain ⟨first, hev, hbit, hnews⟩ := (f.countCoarse c).enqueue_full (f.entryOf c n2) hfull
  rw [Field.eventDone_eq]
  split
  · rw [Field.eventRec_eq, hev]
    exact ⟨rfl, rfl, hbit, rfl, hnews⟩
  · rw [hev]
    exact ⟨rfl, rfl, hbit, rfl, hnews⟩

/-! ### The row (R363, R364) -/

/-- The capture that is next of all leaves the captures, and completes. -/
theorem doEventQueue_next (f : Field) {i : Fin 8} {tick n2 : Nat} {c : Cap} (hrun : f.runs = true)
    (hnext : nextCap (f.clk.ticks + tick) f.ev.caps = some c) (hinput : c.input = i.val) :
    doEventQueue i tick n2 f = ({ f with ev := { f.ev with caps := f.ev.caps.erase c } }.eventDone c n2).sram 1 := by
  obtain ⟨halive, -⟩ := Bool.and_eq_true_iff.mp hrun
  unfold doEventQueue
  rw [hnext]
  exact if_pos (by simp [hinput, halive])

/-- A capture of another input waits for the row of that input. -/
theorem doEventQueue_other (f : Field) {i : Fin 8} {tick n2 : Nat}
    (hother : ∀ c, nextCap (f.clk.ticks + tick) f.ev.caps = some c → c.input ≠ i.val) : doEventQueue i tick n2 f = f := by
  unfold doEventQueue
  cases hnext : nextCap (f.clk.ticks + tick) f.ev.caps with
  | none => rfl
  | some c => exact if_neg (by simp [hother c hnext])

/-- Settles O32: the next capture completes into a queue with room (`Field.eventDone_room`) or a full one (`Field.eventDone_full`); one
of another input waits. -/
theorem eventsAreQueued : Obligations.EventsAreQueued := by
  refine ⟨fun s i tick n2 c e hup hnext hinput hroom he => ?queued, fun s i tick n2 c hup hnext hinput hfull => ?lost,
    fun s i tick n2 hup hother => ?waits⟩
  case queued =>
    obtain ⟨t, ht, hfield, hhost, -⟩ := s.fieldStep (.eventQueue i tick n2) rfl
      ((doEventQueue_next (s.f.atTick tick) hup.1 hnext hinput).trans (congrArg (Field.sram · 1) (Field.eventDone_room _ _ _ hroom)))
      hup.2
    refine ⟨t, ht, hhost, ?_⟩
    rw [hfield, he]
    refine ⟨rfl, rfl, ?_⟩
    exact congrArg (fun j => if evJrn (s.f.evCfg c.input) then j else s.f.jrn) (Field.stage_jrn_congr _ rfl rfl)
  case lost =>
    obtain ⟨hqueue, hlost, hbit, hrefused, hnews⟩ := Field.eventDone_full
      { s.f.atTick tick with ev := { s.f.ev with caps := s.f.ev.caps.erase c } } c n2 hfull
    obtain ⟨t, ht, hfield, hhost, -⟩ := s.fieldStep (.eventQueue i tick n2) rfl
      (doEventQueue_next (s.f.atTick tick) hup.1 hnext hinput) (hnews.trans hup.2)
    refine ⟨t, ht, hhost, ?_⟩
    rw [hfield]
    exact ⟨hqueue, hlost, hbit, hrefused⟩
  case waits =>
    exact s.fieldStep (.eventQueue i tick n2) rfl (doEventQueue_other (s.f.atTick tick) hother) hup.2

end Sys2Proof.Machine
end

section
/-! Jobs of the host side as the line of one command starts and cancels them (17_status_jobs.md): what a job's operations do is the same
whether a line executes or not, so the line's end finds what they leave outside a line. -/

namespace Sys2Proof.Machine

/-! ### A host side that holds a line -/

/-- The host side with the domains `m` on in its frame, and the line record `c`. -/
def HostSide.held (m : BitVec 56) (c : Option Cur) (h : HostSide) : HostSide :=
  { h with domNow := h.domNow ||| m, line := { h.line with cur := c } }

/-- The domains of a line that executes (R92). -/
def lineDomains : BitVec 56 := (1#56 <<< 18) ||| (1#56 <<< 20)

theorem HostSide.held_none {h : HostSide} (hc : h.line.cur = none) : h.held 0#56 none = h := by
  simp only [HostSide.held, BitVec.or_zero, ← hc]

/-- The end of a line hands its response to TXD as if no line had been held. -/
theorem HostSide.held_lineDone {h : HostSide} (c : Option Cur) (ls : List Text) (hc : h.line.cur = none) :
    ((h.held lineDomains c).respond none false ls TxAfter.none).lineDone = sent h ls := by
  have hdone : (sent h ls).lineDone = sent h ls := HostSide.lineDone_of_none hc
  have hdom : h.domNow ||| lineDomains = h.ran.domNow := (BitVec.or_assoc ..).symm
  rw [← hdone]
  simp only [HostSide.held, hdom]
  rfl

theorem State.lineOf_held (s : State) (i : Instr) :
    s.lineOf i 0 = ⟨s.host (HostSide.held lineDomains (some ((ownLine i).cur 0))), lineCur 0⟩ := by
  simp only [State.lineOf, State.host, HostSide.held, lineDomains, HostSide.ran, HostSide.domain, BitVec.or_assoc]

/-- A command of its own that acts on the state outside its line and answers. -/
theorem State.textCmd_acts (s u : State) (i : Instr) (r : CmdRes) (ls : List Text) (hs : HostIdle s)
    (hrun : runCmd i (s.lineOf i 0) = (⟨u.host (HostSide.held lineDomains (some ((ownLine i).cur 0))), lineCur 0⟩, r))
    (hr : answerLines r = some ls) (hc : u.h.line.cur = none) : s.textCmd i = u.host (sent · ls) := by
  rw [s.textCmd_answered i hs _ r ls hrun hr (.refl _)]
  exact congrArg (fun h => (⟨u.f, h, u.pending⟩ : State)) (HostSide.held_lineDone _ ls hc)

/-! ### Job slots, the status word and the radio while a line is held -/

section
variable (m : BitVec 56) (c : Option Cur)

theorem HostSide.notice_held (h : HostSide) (t : Text) : (h.held m c).notice t = (h.notice t).held m c := by
  rw [HostSide.notice, HostSide.notice, apply_ite (HostSide.held m c)]
  rfl

theorem HostSide.attn_held (h : HostSide) (n : Nat) : (h.held m c).attn n = (h.attn n).held m c := by
  unfold HostSide.attn
  dsimp only
  rw [apply_ite (HostSide.held m c), ← HostSide.notice_held]
  rfl

theorem HostSide.masked_held (old h : HostSide) : HostSide.masked (old.held m c) (h.held m c) = (HostSide.masked old h).held m c := by
  unfold HostSide.masked
  rw [apply_ite (HostSide.held m c), ← HostSide.attn_held]
  rfl

theorem HostSide.setBit_held (h : HostSide) (i : Nat) : (h.held m c).setBit i = (h.setBit i).held m c :=
  HostSide.masked_held m c h { h with latched := withBit h.latched i true }

theorem HostSide.putJob_held (h : HostSide) (i : Nat) (g : Job → Job) : (h.held m c).putJob i g = (h.putJob i g).held m c := by
  have hjobs : (h.held m c).jobs = h.jobs := rfl
  simp only [HostSide.putJob, hjobs]
  cases h.jobs[i]? <;> rfl

theorem HostSide.endJob_held (h : HostSide) (i st err : Nat) : (h.held m c).endJob i st err = (h.endJob i st err).held m c := by
  have hjobs : (h.held m c).jobs = h.jobs := rfl
  simp only [HostSide.endJob, hjobs]
  cases h.jobs[i]? with
  | none => rfl
  | some j => simp only [apply_ite (HostSide.held m c), HostSide.putJob_held, HostSide.setBit_held]

theorem HostSide.startJob_held (h : HostSide) (kind : Nat) (lines : List Text) (info : JobInfo) :
    (h.held m c).startJob kind lines info = (h.startJob kind lines info).map fun r => (r.1.held m c, r.2) := by
  have hslot : (h.held m c).freeSlot = h.freeSlot := rfl
  have hord : (h.held m c).nextOrd = h.nextOrd := rfl
  simp only [HostSide.startJob, hslot, hord, HostSide.putJob_held, Option.map_map]
  rfl

/-- While a job is live the host side is awake with a line or without (R92), so that a stamp is as valid as it was. -/
theorem HostSide.cutStamp_held (h : HostSide) (t : TxPend) (hlive : h.jobs.toList.any Job.live = true) :
    (h.held m c).cutStamp t = h.cutStamp t := by
  have hawake : (h.held m c).awake = h.awake := by simp only [HostSide.awake, HostSide.held, hlive, Bool.or_true, Bool.true_or]
  have hmir : (h.held m c).mirOk = h.mirOk := by
    simp only [HostSide.mirOk, hawake]
    rfl
  have hstamp (n : Nat) : (h.held m c).stampAt n = h.stampAt n := by
    simp only [HostSide.stampAt, hmir]
    rfl
  simp only [HostSide.cutStamp, hstamp]
  rfl

theorem HostSide.rfTo_held (h : HostSide) (st : RfSt) : (h.held m c).rfTo st = (h.rfTo st).held m c := by
  simp only [HostSide.rfTo, HostSide.held, BitVec.or_assoc, BitVec.or_comm m]

theorem HostSide.txReturn_held (h : HostSide) (t : TxPend) : (h.held m c).txReturn t = (h.txReturn t).held m c := by
  simp only [HostSide.txReturn, apply_ite (HostSide.held m c), ← HostSide.rfTo_held]
  rfl

theorem HostSide.txEnd_cancelled_held (h : HostSide) (t : TxPend) (st : Option HStamp) :
    (h.held m c).txEnd t .cancelled st = (h.txEnd t .cancelled st).held m c := by
  have hback := HostSide.txReturn_held m c { h with radio := h.radio.putResult t.id .cancelled st } t
  unfold HostSide.txEnd
  cases t.job with
  | none => exact hback
  | some i =>
    dsimp only
    rw [← HostSide.endJob_held, ← HostSide.putJob_held, ← hback]
    rfl

theorem HostSide.rfCancel_held (h : HostSide) (i : Nat) (hlive : h.jobs.toList.any Job.live = true) :
    (h.held m c).rfCancel i = (h.rfCancel i).held m c := by
  have hradio : (h.held m c).radio = h.radio := rfl
  simp only [HostSide.rfCancel, hradio, h.cutStamp_held m c _ hlive, HostSide.txEnd_cancelled_held]
  cases h.radio.tx with
  | none => rfl
  | some t =>
    dsimp only
    rw [apply_ite (HostSide.held m c)]
    rfl

/-! ### The news of field work while a line is held -/

/-- A state whose host side holds a line. -/
def State.held (s : State) : State := s.host (HostSide.held m c)

theorem State.testEnd_held (s : State) (i : Nat) : (s.held m c).testEnd i = (s.testEnd i).held m c := by
  have hinfo : ((s.held m c).h.jobOf i).info = (s.h.jobOf i).info := rfl
  unfold State.testEnd
  rw [hinfo]
  split
  · next pass fail na _ =>
    have hend := s.h.endJob_held m c i (if fail = 0 then 3 else 4) 0
    simp only [State.held, State.host, hend]
    rfl
  · rfl

/-- Updates of the live slots of one kind, one after the other. -/
theorem State.slots_held (p : JobInfo → Bool) (g : HostSide → Nat → HostSide) (s : State)
    (hg : ∀ h i, g (h.held m c) i = (g h i).held m c) :
    ((s.held m c).host fun h => (h.slotsOf p).foldl g h) = (s.host fun h => (h.slotsOf p).foldl g h).held m c :=
  congrArg (fun h => (⟨s.f, h, s.pending⟩ : State)) (List.foldl_hom (HostSide.held m c) hg)

theorem State.jobEvent_held (s : State) (e : JobEv) : (s.held m c).jobEvent e = (s.jobEvent e).held m c := by
  cases e with
  | calStarted item lane => exact s.slots_held m c _ _ fun h i => h.putJob_held m c ..
  | calDone item lane line rejected =>
    refine s.slots_held m c _ _ fun h i => ?_
    have hinfo : ((h.held m c).jobOf i).info = (h.jobOf i).info := rfl
    simp only [hinfo, HostSide.putJob_held]
    split
    · simp only [apply_ite (HostSide.held m c), HostSide.endJob_held]
    · rfl
  | calAbandoned item lane => exact s.slots_held m c _ _ fun h i => h.endJob_held m c ..
  | jrnStarted => exact s.slots_held m c _ _ fun h i => h.putJob_held m c ..
  | eraseDone first last => exact s.slots_held m c _ _ fun h i => h.putJob_held m c ..
  | eraseEnd => exact s.slots_held m c _ _ fun h i => h.endJob_held m c ..
  | testSlice line verdict =>
    refine List.foldl_hom (State.held m c) fun s i => ?_
    have hinfo : ((s.held m c).h.jobOf i).info = (s.h.jobOf i).info := rfl
    rw [hinfo]
    split
    · next left n _ _ _ _ =>
      have hput := s.h.putJob_held m c i fun j => j.tested line verdict left (n - 1)
      rw [← State.testEnd_held]
      simp only [State.held, State.host, hput]
    · rfl
  | testDropped => exact s.slots_held m c _ _ fun h i => h.endJob_held m c ..
  | testCancelled => exact s.slots_held m c _ _ fun h i => h.endJob_held m c ..

theorem State.withField_held (s : State) (g : Field) : (s.held m c).withField g = (s.withField g).held m c :=
  List.foldl_hom (State.held m c) (State.jobEvent_held m c) (init := { s with f := { g with jobEv := [] } })

/-! ### Cancels (R591) -/

theorem HostSide.live_any {h : HostSide} {n : Nat} (hlive : (h.jobOf n).live = true) : h.jobs.toList.any Job.live = true := by
  cases hj : h.jobs[n]? with
  | none => simp [HostSide.jobOf, hj, idleJob, Job.live] at hlive
  | some j =>
    rw [HostSide.jobOf, hj, Option.getD_some] at hlive
    exact List.any_eq_true.mpr ⟨j, Vector.mem_toList_iff.mpr (Vector.mem_of_getElem? hj), hlive⟩

theorem State.cancelJob_held (s : State) (n : Nat) (hlive : (s.h.jobOf n).live = true) :
    (s.held m c).cancelJob n = (s.cancelJob n).held m c := by
  have hinfo : ((s.held m c).h.jobOf n).info = (s.h.jobOf n).info := rfl
  have hend (u : State) : ((u.held m c).host fun h => h.endJob n 6 0) = (u.host fun h => h.endJob n 6 0).held m c :=
    congrArg (fun h => (⟨u.f, h, u.pending⟩ : State)) (u.h.endJob_held m c n 6 0)
  unfold State.cancelJob
  rw [hinfo]
  split
  · exact hend { s with f := s.f.dropJrnJob }
  · exact hend { s with f := s.f.dropErase }
  · next item lanes _ _ _ => exact hend { s with f := s.f.calCancel item lanes }
  · rw [apply_ite (State.held m c), ← State.withField_held, ← hend]
    rfl
  · have hradio : ((s.held m c).host fun h => h.rfCancel n) = (s.host fun h => h.rfCancel n).held m c :=
      congrArg (fun h => (⟨s.f, h, s.pending⟩ : State)) (s.h.rfCancel_held m c n (HostSide.live_any hlive))
    rw [hradio]
    exact hend (s.host fun h => h.rfCancel n)
  · next item _ =>
    exact hend (s.host fun h => { h with radio := h.radio.setCal item ⟨(h.radio.calOf item).due, none⟩ })
  · exact hend s
  · exact hend s

end

theorem State.cancelJob_pending (s : State) (n : Nat) : (s.cancelJob n).pending = s.pending := by
  unfold State.cancelJob
  split
  case h_4 =>
    split
    · exact (s.withField_news _).2.2
    · rfl
  all_goals rfl

theorem State.cancelJob_cur (s : State) (n : Nat) (hlive : (s.h.jobOf n).live = true) (hc : s.h.line.cur = none) :
    (s.cancelJob n).h.line.cur = none := by
  have hself : s.held 0#56 none = s := congrArg (fun h => (⟨s.f, h, s.pending⟩ : State)) (HostSide.held_none hc)
  have hkeep := s.cancelJob_held 0#56 none n hlive
  rw [hself] at hkeep
  exact congrArg (fun u : State => u.h.line.cur) hkeep

/-- A command that starts a job of the host side takes its slot and names it (R585, R628). -/
theorem State.starts_job (s : State) (i : Instr) (kind : Nat) (info : JobInfo) (h : HostSide) (k : Nat) (hs : HostIdle s)
    (hexec : exec i s = .next (s.textCmd i)) (hrun : runCmd i (s.lineOf i 0) = (s.lineOf i 0).begin kind [] info)
    (hstart : s.h.startJob kind [] info = some (h, k)) :
    ∃ t, exec i s = .next t ∧ OnlyHost s t (sent h (valueLines ('J' :: decText k))) := by
  have hc : h.line.cur = none := by
    obtain ⟨j, -, hj⟩ := Option.map_eq_some_iff.mp hstart
    rw [← (Prod.mk.inj hj).1]
    exact (HostSide.putJob_jobsOnly ..).cur.trans hs.2.1
  refine ⟨_, hexec, ?_⟩
  rw [s.textCmd_acts { s with h := h } i (.val ('J' :: decText k)) _ hs ?_ rfl hc]
  · exact ⟨rfl, rfl, rfl⟩
  · rw [hrun, s.lineOf_held, Lx.begin, State.host_h, HostSide.startJob_held, hstart]
    rfl

theorem State.jobCancel_cancels (s : State) (n : Nat) (hs : HostIdle s) (hn : n ≤ 3) (hlive : (s.h.jobOf n).live = true) :
    exec (.jobCancel n) s = .next ((s.cancelJob n).host (sent · okLines)) := by
  have hst : ¬ (s.h.jobOf n).st = 0 := by
    intro h0
    simp [Job.live, h0] at hlive
  have hrun : runCmd (.jobCancel n) (s.lineOf (.jobCancel n) 0) =
      (⟨(s.cancelJob n).host (HostSide.held lineDomains (some ((ownLine (.jobCancel n)).cur 0))), lineCur 0⟩, .ok) := by
    have hgone : ¬ (decide (3 < n) || decide ((s.h.jobOf n).st = 0)) = true := by simp [hst]; omega
    have hended : ¬ (!(s.h.jobOf n).live) = true := by simp [hlive]
    have hcancel := s.cancelJob_held lineDomains (some ((ownLine (.jobCancel n)).cur 0)) n hlive
    rw [s.lineOf_held]
    exact (if_neg hgone).trans ((if_neg hended).trans (congrArg (fun u => ((⟨u, lineCur 0⟩ : Lx), CmdRes.ok)) hcancel))
  exact congrArg Host.Outcome.next (s.textCmd_acts _ _ .ok okLines hs hrun rfl (s.cancelJob_cur n hlive hs.2.1))

/-- Settles O11: a job starts by `State.starts_job`; `State.jobCancel_cancels`, and the job's kind says what its cancel leaves. -/
theorem hostJobsStartAndCancel : Obligations.HostJobsStartAndCancel := by
  refine ⟨fun s h i hs hserved hstart => ?_, fun s it h i hs hit hstart => ?_, fun s n hs hn hlive => ?_⟩
  · have hready : ¬ (!s.h.table.served) = true := by simp [hserved]
    exact s.starts_job .descDump 7 (.desc 0) h i hs rfl (if_neg hready) hstart
  · rcases hit with rfl | rfl
    · exact s.starts_job (.calRun (some .iq) none) 4 (.rfCal .iq) h i hs rfl rfl hstart
    · exact s.starts_job (.calRun (some .pa) none) 4 (.rfCal .pa) h i hs rfl rfl hstart
  · refine ⟨_, s.jobCancel_cancels n hs hn hlive, (State.host_pending ..).trans (s.cancelJob_pending n), ?_⟩
    rw [State.host_f, State.host_h]
    unfold State.cancelJob
    cases (s.h.jobOf n).info with
    | test fo left k p x na =>
      by_cases hjob : s.f.tst.job.isSome = true
      · simp only [if_pos hjob, and_self]
      · simp only [if_neg hjob]
        exact ⟨rfl, rfl⟩
    | _ => exact ⟨rfl, rfl⟩

end Sys2Proof.Machine
end

section
/-! What the journal's operations leave on the field side (12_journal.md): a record reaches the places for records alone, a message the
field stream; the news of field work reach no one where no job is live. -/

namespace Sys2Proof.Machine

/-! ### News without a live job -/

theorem State.slotsOf_noJobs (s : State) (hs : NoJobs s) (p : JobInfo → Bool) : s.h.slotsOf p = [] := by
  refine List.filter_eq_nil_iff.mpr fun i _ => ?_
  have hi := hs i
  unfold HostSide.jobOf at hi
  cases hj : s.h.jobs[i]? with
  | none => simp
  | some j => simp_all

theorem State.jobEvent_noJobs (s : State) (e : JobEv) (hs : NoJobs s) : s.jobEvent e = s := by
  cases e <;> simp only [State.jobEvent, State.host, s.slotsOf_noJobs hs, List.foldl_nil]

theorem State.withField_noJobs (s : State) (g : Field) (hs : NoJobs s) : s.withField g = { s with f := { g with jobEv := [] } } := by
  have hnews (l : List JobEv) (u : State) (hu : NoJobs u) : l.foldl State.jobEvent u = u := by
    induction l with
    | nil => rfl
    | cons e l ih => rw [List.foldl_cons, u.jobEvent_noJobs e hu, ih]
  exact hnews g.jobEv _ hs

/-- Without a live job a step of the field side is what its operation leaves, whatever it has to tell. -/
theorem State.fieldStep_noJobs (s : State) (i : Instr) {g : Field} (hexec : exec i s = .next (s.withField g)) (hs : NoJobs s) :
    ∃ t, exec i s = .next t ∧ OnlyField s t { g with jobEv := [] } :=
  ⟨_, hexec, s.withField_noJobs g hs ▸ ⟨rfl, rfl, rfl⟩⟩

/-! ### Messages -/

theorem Field.send_rest (f : Field) (ty : MsgType) (ws : List Word) : f.send ty ws = { f with bar := (f.send ty ws).bar } := by
  unfold Field.send
  split <;> rfl

/-- What a message leaves of the stream is told by the stream. -/
theorem Field.send_bar_congr {f g : Field} (ty : MsgType) (ws : List Word) (hbar : g.bar = f.bar) :
    (g.send ty ws).bar = (f.send ty ws).bar := by
  simp only [Field.send, hbar, apply_ite Field.bar]

/-! ### Records -/

/-- From `j` to `k` only what records reach differs: staging, the ring with its counts, and the refused ones. -/
def Jrn.RecordsOnly (j k : Jrn) : Prop :=
  k = { j with
    staging := k.staging, ring := k.ring, job := k.job, ringOvw := k.ringOvw, ovwPend := k.ovwPend, ovwFirst := k.ovwFirst,
    refused := k.refused, refusedFirst := k.refusedFirst }

theorem Jrn.RecordsOnly.refl (j : Jrn) : j.RecordsOnly j := rfl

theorem Jrn.RecordsOnly.trans {j k l : Jrn} (a : j.RecordsOnly k) (b : k.RecordsOnly l) : j.RecordsOnly l := by
  unfold Jrn.RecordsOnly at *
  rw [b, a]

theorem Jrn.ringPut_records (j : Jrn) (s : Slot) : j.RecordsOnly (j.ringPut s) := by
  unfold Jrn.ringPut
  split <;> rfl

theorem Field.stage_records (f : Field) (a : Slot) : f.jrn.RecordsOnly (f.stage a).jrn := by
  unfold Field.stage Field.stageRec
  split
  · exact f.jrn.ringPut_records a
  · split <;> rfl

theorem Field.foldl_stage_records {α : Type} (r : Field → α → Slot) (l : List α) (f : Field) :
    f.jrn.RecordsOnly (l.foldl (fun f a => f.stage (r f a)) f).jrn :=
  l.foldlRecOn (motive := fun g : Field => f.jrn.RecordsOnly g.jrn) _ (.refl _) fun g hg a _ => hg.trans (g.stage_records (r g a))

/-! ### Uncorrectable slots (R445) -/

theorem satAdd_zero {n : Nat} (c : BitVec n) : satAdd c 0 = c := by
  have hc := c.isLt
  rw [satAdd, Nat.add_zero, Nat.min_eq_left (by omega), BitVec.ofNat_toNat, BitVec.setWidth_eq]

theorem Field.unreadable_clean (f : Field) (phys : Nat) (bsn : Word) : f.unreadable phys bsn 0 false = f := by
  simp [Field.unreadable, satAdd_zero]

/-- Uncorrectable slots count, set NVM_ERR, and leave a record each. -/
theorem Field.unreadable_slots (f : Field) (phys : Nat) (bsn : Word) {n : Nat} (hn : 0 < n) : ∃ j,
    f.unreadable phys bsn n false = { f.setBit sbNvmErr with jrn := j } ∧ j.uncorr = satAdd f.jrn.uncorr n := by
  let g : Field := ({ f with jrn := { f.jrn with uncorr := satAdd f.jrn.uncorr n } } : Field).setBit sbNvmErr
  let r : Field → Nat → Slot := fun g _ => recWear 6 g.clk.stamp phys g.jrn.spares.length (g.jrn.cyc phys) 0 bsn.toNat 0
  have hbits : f.unreadable phys bsn n false = (List.range n).foldl (fun g i => g.stage (r g i)) g := by
    simp [Field.unreadable, hn, g, r, Field.wearRec]
  have hrecs := g.foldl_stage_records r (List.range n)
  refine ⟨_, hbits.trans (Field.foldl_stage_rest r (List.range n) g), ?_⟩
  rw [hrecs]
  rfl

end Sys2Proof.Machine
end

section
/-! The service of a `JREQ` (12_journal.md section 4). -/

namespace Sys2Proof.Machine

/-- What a service slice has of the `cnt` slots from `at0`: the code and the value of each (R442). -/
def Blk.read (b : Blk) (reads : List SlotRead) (at0 cnt : Nat) : List (Nat × Slot) :=
  (List.range cnt).map fun i =>
    let s := b.slot (at0 + i)
    match reads.find? fun r => r.pos = i with
    | some r => if r.ecc = 2#2 then (2, r.value) else if r.ecc = 1#2 then (1, s) else (if s = erasedSlot then 3 else 0, s)
    | none => (if s = erasedSlot then 3 else 0, s)

/-- Without corrections or errors each slot is read as stored, erased or clean. -/
theorem Blk.read_stored (b : Blk) (at0 cnt : Nat) :
    b.read [] at0 cnt = ((List.range cnt).map fun i => b.slot (at0 + i)).map fun s => (if s = erasedSlot then 3 else 0, s) := by
  rw [List.map_map]
  rfl

theorem worstEcc_stored (ss : List Slot) :
    worstEcc (ss.map fun s => if s = erasedSlot then 3 else 0) = if erasedSlot ∈ ss then 3 else 0 := by
  have hcode (n : Nat) : n ∈ (ss.map fun s => if s = erasedSlot then 3 else 0) ↔ ∃ s ∈ ss, (if s = erasedSlot then 3 else 0) = n :=
    List.mem_map
  have htwo : 2 ∉ (ss.map fun s => if s = erasedSlot then 3 else 0) := by
    rw [hcode]
    rintro ⟨s, -, h⟩
    split at h <;> omega
  have hone : 1 ∉ (ss.map fun s => if s = erasedSlot then 3 else 0) := by
    rw [hcode]
    rintro ⟨s, -, h⟩
    split at h <;> omega
  have hthree : 3 ∈ (ss.map fun s => if s = erasedSlot then 3 else 0) ↔ erasedSlot ∈ ss := by
    rw [hcode]
    simp
  simp only [worstEcc, List.contains_iff_mem, htwo, hone, hthree, if_false]

/-- The field side as a service slice has begun: the slice has left the plan, and its domains are on. -/
def Field.serving (f : Field) (rest : List Req) (x : Tst) : Field :=
  { f.planLeft rest with jobEv := f.jobEv ++ [.jrnStarted], tst := x }

/-- A service slice hands a job that runs the slots it has read. -/
def Field.jobReads (f : Field) (at0 : Nat) (slots : List Slot) : Field :=
  { f with jrn := { f.jrn with job := f.jrn.job.map fun x => x.read at0 slots } }

theorem Field.job_map_none (f : Field) (u : JrnJob → JrnJob) (hjob : f.jrn.job = none) :
    { f with jrn := { f.jrn with job := f.jrn.job.map u } } = f := by
  rw [hjob, Option.map_none, ← hjob]

theorem Jrn.sealFails_none {j : Jrn} (hjob : j.job = none) (b : Blk) (at0 : Nat) (slots : List Slot) :
    j.sealFails b at0 slots = false := by
  rw [Jrn.sealFails, hjob]

/-- A service slice where no job of the journal runs: slots of the ring, or of a stored block. -/
theorem doJournalService_serves {f : Field} {p n : Nat} {w0 w1 : Word} {rest : List Req} (hslices : f.slices = true)
    (hplan : f.sched.plan = ⟨p, n, .journal w0 w1⟩ :: rest) (hjob : f.jrn.job = none) (reads : List SlotRead) : ∃ x,
    (reqOp w0 = 2 → doJournalService reads f =
      (f.serving rest x).send .jdat (jdatWords w0 w1 0 ((f.jrn.ring.drop w1.toNat).take (reqCnt w0)))) ∧
    ∀ b got, reqOp w0 = 1 → f.jrn.blk w1 = some b → b.read reads (reqSlot w0) (reqCnt w0) = got → doJournalService reads f =
      (((f.serving rest x).unreadable b.phys b.bsn (got.filter fun e => e.1 = 2).length false).jobReads (reqSlot w0)
        (got.map Prod.snd)).send .jdat (jdatWords w0 w1 (worstEcc (got.map Prod.fst)) (got.map Prod.snd)) := by
  have htake : takeReq ReqKind.isJournal f.sched.plan = some (⟨p, n, .journal w0 w1⟩, rest) := by rw [hplan]; rfl
  obtain ⟨x, hx⟩ : ∃ x, Field.nvmOn { f.planLeft rest with jobEv := f.jobEv ++ [.jrnStarted] }
    (match f.jrn.blk w1 with | some b => b.phys | none => 0) false true = f.serving rest x := Field.nvmOn_tst ..
  refine ⟨x, fun hop => ?_, fun b got hop hblk hgot => ?_⟩
  all_goals
    unfold doJournalService
    rw [htake]
    refine (if_neg (by simp [hslices])).trans ?_
    extract_lets left k g asks ring g' cnt jrn
    have hg : g = f.serving rest x := hx
    have hasks : asks = false := by
      have hidle : g.jrn.job = none := (congrArg (fun g : Field => g.jrn.job) hg).trans hjob
      simp only [asks, hidle]
      cases g.jrn.openBlk <;> rfl
    have hg' : g' = f.serving rest x := by simp only [g', hasks, hg, Bool.false_eq_true, if_false]
    clear_value g'
    subst hg'
  · rw [if_pos hop]
    have hring : ring = f.jrn.ring := by simp only [ring, hg, Field.serving, Field.planLeft, hjob]
    rw [hring]
  · rw [if_neg (by omega)]
    split
    · next h => exact absurd (hblk.symm.trans h) (Option.some_ne_none b)
    · next c hc =>
      obtain rfl : b = c := Option.some.inj (hblk.symm.trans hc)
      extract_lets one got' slots bad g1 g2 left2 g3
      have hgot' : got' = got := hgot
      have hidle : g1 = f.serving rest x := Field.job_map_none _ _ hjob
      have hseal : g1.jrn.sealFails b (reqSlot w0) slots = false := Jrn.sealFails_none (by rw [hidle]; exact hjob) ..
      have hunread : g2 = (f.serving rest x).unreadable b.phys b.bsn (got.filter fun e => e.1 = 2).length false := by
        rw [← hgot', ← hidle, ← hseal]
      change (g2.jobReads (reqSlot w0) (got'.map Prod.snd)).send .jdat
        (jdatWords w0 w1 (worstEcc (got'.map Prod.fst)) (got'.map Prod.snd)) = _
      rw [hunread, hgot']

/-- Slots that are read as stored go out so, with the worst of their codes. -/
theorem doJournalService_stored {f : Field} {p n : Nat} {w0 w1 : Word} {rest : List Req} {b : Blk} (hslices : f.slices = true)
    (hplan : f.sched.plan = ⟨p, n, .journal w0 w1⟩ :: rest) (hjob : f.jrn.job = none) (hop : reqOp w0 = 1)
    (hblk : f.jrn.blk w1 = some b) {ss : List Slot} (hss : ss = (List.range (reqCnt w0)).map fun i => b.slot (reqSlot w0 + i)) : ∃ x,
    doJournalService [] f = (f.serving rest x).send .jdat (jdatWords w0 w1 (if erasedSlot ∈ ss then 3 else 0) ss) := by
  obtain ⟨x, -, hblock⟩ := doJournalService_serves hslices hplan hjob []
  have hclean : (ss.map fun s => (if s = erasedSlot then 3 else 0, s)).filter (fun e => e.1 = 2) = [] := by
    refine List.filter_eq_nil_iff.mpr fun e he => ?_
    obtain ⟨s, -, rfl⟩ := List.mem_map.mp he
    dsimp only
    split <;> decide
  have hcodes : (ss.map fun s => (if s = erasedSlot then 3 else 0, s)).map Prod.fst = ss.map fun s => if s = erasedSlot then 3 else 0 :=
    List.map_map
  have hslots : (ss.map fun s => (if s = erasedSlot then 3 else 0, s)).map Prod.snd = ss := List.map_map.trans (List.map_id' ss)
  have hstep := hblock b _ hop hblk (b.read_stored (reqSlot w0) (reqCnt w0))
  rw [← hss, hclean, hcodes, hslots, worstEcc_stored, List.length_nil, Field.unreadable_clean] at hstep
  exact ⟨x, hstep.trans (congrArg (Field.send · .jdat _) (Field.job_map_none (f.serving rest x) _ hjob))⟩

/-- A service slice that reads no uncorrectable slot sends its answer, and the plan goes on. -/
theorem serviceSlice_sends (s : State) (reads : List SlotRead) {rest : List Req} {x : Tst} {ws : List Word} (hup : FieldUp s)
    (hjobs : NoJobs s) (hstep : doJournalService reads s.f = (s.f.serving rest x).send .jdat ws) :
    ∃ t, exec (.journalServiceSlice reads) s = .next t ∧ t.h = s.h ∧
      t.f = { s.f with sched := { s.f.sched with plan := rest }, bar := t.f.bar, tst := t.f.tst } ∧
      t.f.bar = (s.f.send .jdat ws).bar := by
  obtain ⟨t, ht, hfield, hhost, -⟩ := s.fieldStep_noJobs (.journalServiceSlice reads) rfl hjobs
  rw [hstep, Field.send_rest] at hfield
  refine ⟨t, ht, hhost, ?_, ?_⟩
  · rw [hfield, ← hup.2]
    rfl
  · rw [hfield]
    exact Field.send_bar_congr .jdat ws rfl

/-- A slot that is uncorrectable goes out as it was read, and sets NVM_ERR (R442, R445). -/
theorem serviceSlice_uncorrectable (s : State) {p n : Nat} {w0 w1 : Word} {rest : List Req} {b : Blk} {r : SlotRead} (hup : FieldUp s)
    (hjobs : NoJobs s) (hwdog : s.f.start.wdog = false) (hplan : s.f.sched.plan = ⟨p, n, .journal w0 w1⟩ :: rest) (hop : reqOp w0 = 1)
    (hjob : s.f.jrn.job = none) (hblk : s.f.jrn.blk w1 = some b) (hone : reqCnt w0 = 1) (hpos : r.pos = 0) (hecc : r.ecc = 2#2) :
    ∃ t, exec (.journalServiceSlice [r]) s = .next t ∧ t.h = s.h ∧ t.f.bit sbNvmErr = true ∧
      t.f.bar = (s.f.send .jdat (jdatWords w0 w1 2 [r.value])).bar := by
  have hslices : s.f.slices = true := by simp [Field.slices, hup.1, hwdog]
  have hread : b.read [r] (reqSlot w0) (reqCnt w0) = [(2, r.value)] := by simp [Blk.read, hone, hpos, hecc]
  obtain ⟨x, -, hblock⟩ := doJournalService_serves hslices hplan hjob [r]
  have hstep := hblock b _ hop hblk hread
  obtain ⟨j, hunread, -⟩ := (s.f.serving rest x).unreadable_slots b.phys b.bsn (Nat.zero_lt_one)
  obtain ⟨t, ht, hfield, hhost, -⟩ := s.fieldStep_noJobs (.journalServiceSlice [r]) rfl hjobs
  change doJournalService [r] s.f = ((Field.unreadable _ b.phys b.bsn 1 false).jobReads _ [r.value]).send .jdat
    (jdatWords w0 w1 2 [r.value]) at hstep
  rw [hstep, hunread, Field.send_rest] at hfield
  refine ⟨t, ht, hhost, ?_, ?_⟩
  · rw [hfield]
    exact Field.bit_setBit s.f (by decide : sbNvmErr < 32)
  · rw [hfield]
    exact Field.send_bar_congr .jdat _ rfl

end Sys2Proof.Machine
end

section
/-! Scrubbing (12_journal.md section 7): the slice of a pass, and the uncorrectable slots that it meets. -/

namespace Sys2Proof.Machine

/-- Behind the last slice of a data block its wear is levelled (R446). -/
def Field.levelled (f : Field) (blk : Option Blk) (last : Prop) [Decidable last] : Field :=
  match blk with
  | some b => if last then f.level b else f
  | none => f

/-- Levelling tells no one, and leaves the status word and the count of uncorrectable slots. -/
theorem Field.level_rest (f : Field) (b : Blk) : ∃ j, f.level b = { f with jrn := j } ∧ j.uncorr = f.jrn.uncorr := by
  unfold Field.level
  split
  · exact ⟨_, rfl, rfl⟩
  · split
    · refine ⟨_, Field.stage_rest _ _, ?_⟩
      rw [Field.stage_records]
      rfl
    · exact ⟨_, rfl, rfl⟩

theorem Field.levelled_rest (f : Field) (blk : Option Blk) (last : Prop) [Decidable last] :
    ∃ j, f.levelled blk last = { f with jrn := j } ∧ j.uncorr = f.jrn.uncorr := by
  unfold Field.levelled
  split
  · split
    · exact f.level_rest _
    · exact ⟨_, rfl, rfl⟩
  · exact ⟨_, rfl, rfl⟩

theorem foldl_max_lt {n : Nat} (hn : 0 < n) (l : List Nat) (hl : ∀ k ∈ l, k < n) : l.foldl max 0 < n :=
  l.foldlRecOn (motive := (· < n)) _ hn fun _ hb a ha => Nat.max_lt.mpr ⟨hb, hl a ha⟩

/-- A scrub slice of a block in use, with no slot that needs two corrections: the pass goes on, and the slots that are
uncorrectable are counted. -/
theorem doScrubSlice_due (f : Field) (corr uncorr : List Nat) (hdue : f.scrubDue = true) (hlane : f.laneFree 2 = true)
    (huse : f.jrn.inUse (f.jrn.scrubPos / 8) = true) (hcorr : ∀ n ∈ corr, n < 2) : ∃ x bsn, doScrubSlice corr uncorr true f =
      ((({ f.laneTook 2 with tst := x } : Field).scrubOn (corr.take 16).sum).unreadable (f.jrn.scrubPos / 8) bsn
        (uncorr.filter fun i => decide (i < 16)).length false).levelled
        (f.jrn.blocks.find? fun b => b.phys = f.jrn.scrubPos / 8) (f.jrn.scrubPos % 8 = 7) := by
  have hfew : ∀ n ∈ corr.take 16, n < 2 := fun n hn => hcorr n (List.mem_of_mem_take hn)
  have hcapped : ((corr.take 16).map fun n => min n 3) = corr.take 16 :=
    (List.map_congr_left fun n hn => Nat.min_eq_left (by have := hfew n hn; omega)).trans (List.map_id' _)
  have hworst : ¬ 2 ≤ (corr.take 16).foldl max 0 := Nat.not_le.mpr (foldl_max_lt (by omega) _ hfew)
  unfold doScrubSlice
  rw [if_neg (by simp [hdue, hlane])]
  extract_lets took phys last corr' worst blk closed f' bsn bad f''
  obtain ⟨x, hx⟩ := took.nvmOn_tst phys false (decide last && closed)
  have hon : f' = ({ f.laneTook 2 with tst := x } : Field).scrubOn (corr.take 16).sum := by
    rw [← hcapped]
    exact congrArg (Field.scrubOn · corr'.sum) hx
  have hseal : (decide last && closed && !true) = false := Bool.and_false _
  have hread : f'' = f'.unreadable phys bsn bad false := congrArg (f'.unreadable phys bsn bad) hseal
  have hfew' : ¬ 2 ≤ worst := by
    change ¬ 2 ≤ ((corr.take 16).map fun n => min n 3).foldl max 0
    rwa [hcapped]
  refine ⟨x, bsn, (if_neg ?_).trans ((if_neg hfew').trans ?_)⟩
  · change ¬ (!f.jrn.inUse (f.jrn.scrubPos / 8)) = true
    simp [huse]
  · rw [hread, hon]
    rfl

/-- A pass goes on to the next sixteen slots (R443). -/
theorem Field.scrubOn_next (f : Field) (bits : Nat) (hpos : f.jrn.scrubPos ≠ 8191) : f.scrubOn bits = { f with jrn := { f.jrn with
    scrubPos := f.jrn.scrubPos + 1, passBits := f.jrn.passBits + bits,
    scrubNext := if f.jrn.scrubPos = 0 then stampSec f.clk.stamp + 86400 else f.jrn.scrubNext } } :=
  if_neg hpos

/-- The last slice of a pass leaves its rate of corrected bits (R447). -/
theorem Field.scrubOn_last (f : Field) (bits : Nat) (hpos : f.jrn.scrubPos = 8191) : f.scrubOn bits = { f with jrn := { f.jrn with
    scrubPos := 0, passBits := 0, scrubDone := stampSec f.clk.stamp,
    cbpk := BitVec.ofNat 16 (min 0xFFFF ((f.jrn.passBits + bits) * 8000 / 8192)) } } :=
  if_pos hpos

theorem Field.scrubOn_rest (f : Field) (bits : Nat) : ∃ j, f.scrubOn bits = { f with jrn := j } ∧ j.uncorr = f.jrn.uncorr := by
  by_cases hpos : f.jrn.scrubPos = 8191
  · exact ⟨_, f.scrubOn_last bits hpos, rfl⟩
  · exact ⟨_, f.scrubOn_next bits hpos, rfl⟩

/-- A scrub slice that meets no error and moves no block. -/
theorem doScrubSlice_clean (f : Field) (corr : List Nat) (hdue : f.scrubDue = true) (hlane : f.laneFree 2 = true)
    (huse : f.jrn.inUse (f.jrn.scrubPos / 8) = true) (hcorr : ∀ n ∈ corr, n < 2)
    (hstays : f.jrn.scrubPos % 8 = 7 → f.jrn.blocks.find? (fun b => b.phys = f.jrn.scrubPos / 8) = none) : ∃ x,
    doScrubSlice corr [] true f = ({ f.laneTook 2 with tst := x } : Field).scrubOn (corr.take 16).sum := by
  obtain ⟨x, bsn, hstep⟩ := doScrubSlice_due f corr [] hdue hlane huse hcorr
  refine ⟨x, hstep.trans ?_⟩
  rw [List.filter_nil, List.length_nil, Field.unreadable_clean]
  unfold Field.levelled
  split
  · next b hb => exact if_neg fun hlast => by simp [hstays hlast] at hb
  · rfl

/-- A scrub slice that meets an uncorrectable slot counts it, and sets NVM_ERR (R445). -/
theorem doScrubSlice_uncorrectable (f : Field) {i : Nat} (hdue : f.scrubDue = true) (hlane : f.laneFree 2 = true)
    (huse : f.jrn.inUse (f.jrn.scrubPos / 8) = true) (hi : i < 16) : ∃ x j,
    doScrubSlice [] [i] true f = { ({ f.laneTook 2 with tst := x } : Field).setBit sbNvmErr with jrn := j } ∧
      j.uncorr = satAdd f.jrn.uncorr 1 := by
  obtain ⟨x, bsn, hstep⟩ := doScrubSlice_due f [] [i] hdue hlane huse (by simp)
  have hone : ([i].filter fun i => decide (i < 16)).length = 1 := by simp [hi]
  obtain ⟨j, hon, hj⟩ := ({ f.laneTook 2 with tst := x } : Field).scrubOn_rest ([].take 16).sum
  obtain ⟨k, hread, hk⟩ := Field.unreadable_slots { f.laneTook 2 with tst := x, jrn := j } (f.jrn.scrubPos / 8) bsn Nat.zero_lt_one
  obtain ⟨l, hlevel, hl⟩ := Field.levelled_rest { ({ f.laneTook 2 with tst := x } : Field).setBit sbNvmErr with jrn := k }
    (f.jrn.blocks.find? fun b => b.phys = f.jrn.scrubPos / 8) (f.jrn.scrubPos % 8 = 7)
  refine ⟨x, l, ?_, ?_⟩
  · rw [hstep, hone, hon, hread]
    exact hlevel
  · rw [hl]
    exact hk.trans (congrArg (satAdd · 1) hj)

end Sys2Proof.Machine
end

section
/-! Erasure (12_journal.md section 6): the oldest exported block goes, its seal stays as the anchor. -/

namespace Sys2Proof.Machine

/-! ### What erasing a block leaves -/

theorem Field.ovfRing_rest (f : Field) : f.ovfRing.jobEv = f.jobEv ∧ f.jrn.RecordsOnly f.ovfRing.jrn := by
  unfold Field.ovfRing
  split
  · exact ⟨Field.stage_jobEv .., Field.stage_records ..⟩
  · exact ⟨rfl, .refl _⟩

theorem Jrn.RecordsOnly.withRoom {j k : Jrn} (h : j.RecordsOnly k) :
    Jrn.RecordsOnly { j with roFull := false } { k with roFull := false } := by
  unfold Jrn.RecordsOnly at *
  rw [h]

/-- With an erased block at hand the cause full ends (R441). -/
theorem Field.drain_rest (f : Field) (hworn : f.jrn.roWorn = false) (hsome : f.jrn.erased ≠ []) :
    f.drain.jobEv = f.jobEv ∧ Jrn.RecordsOnly { f.jrn with roFull := false } f.drain.jrn := by
  have herased : f.jrn.erased.isEmpty = false := by simpa using hsome
  unfold Field.drain
  by_cases hfull : f.jrn.roFull = true
  · rw [if_pos (by simp [hfull, hworn, herased])]
    exact Field.ovfRing_rest _
  · have hopen : f.jrn.roFull = false := by simpa using hfull
    rw [if_neg (by simp [hopen]), ← hopen]
    exact ⟨rfl, .refl _⟩

/-- The oldest block is erased: its place joins the erased ones, and its seal is the anchor (R438, R441). -/
theorem Field.eraseOldest_erases (f : Field) {b : Blk} {bs : List Blk} (hblocks : f.jrn.blocks = b :: bs) (hworn : f.jrn.roWorn = false) :
    (f.eraseOldest b).jobEv = f.jobEv ∧ Jrn.RecordsOnly { f.jrn with
      anchor := b.slot 127, blocks := bs, erased := f.jrn.erased ++ [b.phys], roFull := false } (f.eraseOldest b).jrn := by
  let g : Field := { f with jrn := { f.jrn with
    anchor := b.slot 127, blocks := f.jrn.blocks.tail, erased := f.jrn.erased ++ [b.phys] } }
  let r : Slot := recWear 5 g.clk.stamp b.phys g.jrn.spares.length (g.jrn.cyc b.phys) (min 0 255) b.bsn.toNat b.bsn.toNat
  have hrecs : g.jrn.RecordsOnly (g.stage r).jrn := g.stage_records r
  obtain ⟨hnews, hdrained⟩ := (g.stage r).drain_rest (by rw [hrecs]; exact hworn) (by rw [hrecs]; simp [g])
  have htail : f.jrn.blocks.tail = bs := congrArg List.tail hblocks
  rw [← htail]
  exact ⟨hnews.trans (g.stage_jobEv r), hrecs.withRoom.trans hdrained⟩

/-- What is erasable is the oldest block. -/
theorem Field.blocks_of_erasable {f : Field} {b : Blk} (h : f.erasable = some b) : f.jrn.blocks = b :: f.jrn.blocks.tail := by
  unfold Field.erasable at h
  split at h
  · next c bs e hblocks _ =>
    obtain ⟨-, hc⟩ := Option.ite_none_right_eq_some.mp h
    rw [hblocks, Option.some.inj hc, List.tail_cons]
  · cases h

/-! ### The rows that erase -/

/-- What a row that erases block `b` leaves: its seal as the anchor, its place among the erased ones. -/
def Jrn.Erases (j k : Jrn) (b : Blk) : Prop :=
  k.anchor = b.slot 127 ∧ j.blocks = b :: k.blocks ∧ k.erased = j.erased ++ [b.phys] ∧ k.roFull = false

theorem Field.eraseSlice_erases (f : Field) {b : Blk} (hb : f.erasable = some b) (hworn : f.jrn.roWorn = false) :
    (((f.laneTook 3).nvmOn b.phys true false).eraseOldest b).jobEv = f.jobEv ∧
    (((f.laneTook 3).nvmOn b.phys true false).eraseOldest b).jrn.eraseJob = f.jrn.eraseJob ∧
    f.jrn.Erases (((f.laneTook 3).nvmOn b.phys true false).eraseOldest b).jrn b := by
  obtain ⟨x, hx⟩ := Field.nvmOn_tst (f.laneTook 3) b.phys true false
  have hblocks := Field.blocks_of_erasable hb
  rw [hx]
  obtain ⟨hnews, hrecs⟩ := Field.eraseOldest_erases { f.laneTook 3 with tst := x } hblocks hworn
  refine ⟨hnews, ?_⟩
  rw [hrecs]
  exact ⟨rfl, rfl, hblocks, rfl, rfl⟩

theorem doWrapErase_due (f : Field) {b : Blk} (hplan : f.planRuns = true) (hlane : f.laneFree 3 = true) (hmount : f.start.mounted = true)
    (hwrap : f.jrn.policy = true) (hworn : f.jrn.roWorn = false) (hfew : f.jrn.erased.length < 4) (hb : f.erasable = some b) :
    doWrapErase f = ((f.laneTook 3).nvmOn b.phys true false).eraseOldest b := by
  unfold doWrapErase
  rw [if_pos (by simp [hplan, hlane, hmount, hwrap, hworn, hfew]), hb]

/-- The slice of an erase job erases a block; the job ends where no further one is erasable (R439). -/
theorem doEraseSlice_due (f : Field) {b : Blk} (hlane : f.laneFree 3 = true) (hjob : f.jrn.eraseJob = true) (hworn : f.jrn.roWorn = false)
    (hb : f.erasable = some b) : f.jrn.Erases (doEraseSlice f).jrn b ∧
      (doEraseSlice f).jrn.eraseJob = (doEraseSlice f).erasable.isSome := by
  obtain ⟨-, hkept, herases⟩ := f.eraseSlice_erases hb hworn
  unfold doEraseSlice
  rw [if_neg (by simp [hlane, hjob, hworn]), hb]
  dsimp only
  split
  · next hnone => exact ⟨herases, (congrArg Option.isSome hnone).symm⟩
  · next c hsome => exact ⟨herases, hkept.trans (hjob.trans (congrArg Option.isSome hsome).symm)⟩

theorem doEraseSlice_ends (f : Field) (hlane : f.laneFree 3 = true) (hjob : f.jrn.eraseJob = true) (hworn : f.jrn.roWorn = false)
    (hb : f.erasable = none) : doEraseSlice f = { f with jrn := { f.jrn with eraseJob := false } }.tell .eraseEnd := by
  unfold doEraseSlice
  rw [if_neg (by simp [hlane, hjob, hworn]), hb]

/-- Settles O34: a service by `serviceSlice_sends` and `serviceSlice_uncorrectable`, a scrub slice by `doScrubSlice_clean` and
`doScrubSlice_uncorrectable`, an erasure by `Jrn.Erases`. -/
theorem journalIsServedAndCleared : Obligations.JournalIsServedAndCleared := by
  refine ⟨⟨fun s p n w0 w1 rest b ss hup hjobs hwdog hplan hop hjob hblk hss => ?stored,
    fun s p n w0 w1 rest b r hup hjobs hwdog hplan hop hjob hblk hone hpos hecc =>
      serviceSlice_uncorrectable s hup hjobs hwdog hplan hop hjob hblk hone hpos hecc,
    fun s p n w0 w1 rest hup hjobs hwdog hplan hop hjob => ?ring⟩,
    fun s corr hup hdue hlane hpos huse hcorr => ?next, fun s corr hup hdue hlane hpos huse hgone hcorr => ?last,
    fun s i hup hdue hlane huse hi => ?uncorrectable, fun s corr bad ok hup hidle => ?idle,
    fun s b hup hplan hlane hmount hwrap hworn hfew hb => ?wrap, fun s b hup hjobs hlane hjob hworn hb => ?erase,
    fun s hup hjobs hlane hjob hworn hb => ?ends⟩
  case stored =>
    have hslices : s.f.slices = true := by simp [Field.slices, hup.1, hwdog]
    obtain ⟨x, hstep⟩ := doJournalService_stored hslices hplan hjob hop hblk hss
    exact serviceSlice_sends s [] hup hjobs hstep
  case ring =>
    have hslices : s.f.slices = true := by simp [Field.slices, hup.1, hwdog]
    obtain ⟨x, hring, -⟩ := doJournalService_serves hslices hplan hjob []
    exact serviceSlice_sends s [] hup hjobs (hring hop)
  case next =>
    obtain ⟨x, hstep⟩ := doScrubSlice_clean s.f corr hdue hlane huse hcorr fun h => absurd h hpos
    have hmid : s.f.jrn.scrubPos ≠ 8191 := fun h => hpos (by rw [h])
    have hnext := Field.scrubOn_next { s.f.laneTook 2 with tst := x } (corr.take 16).sum hmid
    obtain ⟨t, ht, hfield, hhost, -⟩ := s.fieldStep (.scrubSlice corr [] true) rfl (hstep.trans hnext) hup.2
    refine ⟨t, ht, hhost, ?_⟩
    rw [hfield]
    exact ⟨rfl, rfl⟩
  case last =>
    have hnone : s.f.jrn.blocks.find? (fun b => b.phys = s.f.jrn.scrubPos / 8) = none :=
      List.find?_eq_none.mpr fun b hb => by simpa [hpos] using hgone b hb
    obtain ⟨x, hstep⟩ := doScrubSlice_clean s.f corr hdue hlane (by rwa [hpos]) hcorr fun _ => hnone
    have hlast := Field.scrubOn_last { s.f.laneTook 2 with tst := x } (corr.take 16).sum hpos
    obtain ⟨t, ht, hfield, hhost, -⟩ := s.fieldStep (.scrubSlice corr [] true) rfl (hstep.trans hlast) hup.2
    refine ⟨t, ht, hhost, ?_⟩
    rw [hfield]
    exact ⟨rfl, rfl⟩
  case uncorrectable =>
    obtain ⟨x, j, hstep, hcount⟩ := doScrubSlice_uncorrectable s.f hdue hlane huse hi
    obtain ⟨t, ht, hfield, hhost, -⟩ := s.fieldStep (.scrubSlice [] [i] true) rfl hstep hup.2
    refine ⟨t, ht, hhost, ?_⟩
    rw [hfield]
    exact ⟨Field.bit_setBit s.f (by decide : sbNvmErr < 32), hcount⟩
  case idle =>
    have hstep : doScrubSlice corr bad ok s.f = s.f := if_pos (by rcases hidle with h | h <;> simp [h])
    exact s.fieldStep (.scrubSlice corr bad ok) rfl hstep hup.2
  case wrap =>
    obtain ⟨hnews, -, hanchor, hblocks, herased, hfull⟩ := s.f.eraseSlice_erases hb hworn
    obtain ⟨t, ht, hfield, hhost, -⟩ := s.fieldStep .wrapErase rfl (doWrapErase_due s.f hplan hlane hmount hwrap hworn hfew hb)
      (hnews.trans hup.2)
    refine ⟨t, ht, hhost, ?_⟩
    rw [hfield]
    exact ⟨hanchor, hblocks, herased, hfull⟩
  case erase =>
    obtain ⟨⟨hanchor, hblocks, herased, -⟩, hleft⟩ := doEraseSlice_due s.f hlane hjob hworn hb
    obtain ⟨t, ht, hfield, hhost, -⟩ := s.fieldStep_noJobs .eraseJobSlice rfl hjobs
    refine ⟨t, ht, hhost, ?_⟩
    rw [hfield]
    exact ⟨hanchor, hblocks, herased, hleft⟩
  case ends =>
    obtain ⟨t, ht, hfield, hhost, hpend⟩ := s.fieldStep_noJobs .eraseJobSlice rfl hjobs
    refine ⟨t, ht, ?_, hhost, hpend⟩
    rw [hfield, doEraseSlice_ends s.f hlane hjob hworn hb, ← hup.2]
    rfl

end Sys2Proof.Machine
end

section
/-! The background calibrations (13_calibration.md): what starts one, what a slice does, and how an ADC calibration is booked, measured
and computed. -/

namespace Sys2Proof.Machine

/-! ### Work that switches domains on -/

theorem Field.TstOnly.eq {f g : Field} (h : f.TstOnly g) : g = { f with tst := g.tst } :=
  congrArg (fun k : Field => { k with tst := g.tst }) h

/-- A step of the field side that leaves `k` but for the domains that it switches on, where that has no news. -/
theorem State.fieldStep_tstOnly (s : State) (i : Instr) {g k : Field} (hexec : exec i s = .next (s.withField g)) (hg : k.TstOnly g)
    (hnews : k.jobEv = []) : ∃ t, exec i s = .next t ∧ t.h = s.h ∧ t.f = { k with tst := t.f.tst } := by
  obtain ⟨t, ht, hfield, hhost, -⟩ := s.fieldStep i hexec hg.eq hnews
  exact ⟨t, ht, hhost, by rw [hfield]⟩

/-! ### A calibration starts (R453, R467, R479) -/

/-- An ADC calibration is booked, and takes no turn among the items that are due (R479). -/
theorem Field.nextDue_ne_adc {f : Field} {it : CalItem} {lane : Nat} (h : f.nextDue = some (it, lane)) : it ≠ .adc := by
  rintro rfl
  simpa using List.mem_of_find?_eq_some h

/-- The due item that goes first starts on its lane. -/
theorem doCalItemDue_starts (f : Field) (it : CalItem) (lane : Fin 4) (hfree : f.cal.act = none) (hframes : 8 ≤ f.start.frames)
    (hnext : f.nextDue = some (it, lane.val)) :
    doCalItemDue it lane f =
      { f with cal := { f.cal with act := some ⟨it, lane.val, false, 0, none, none⟩ } }.tell (.calStarted it lane.val) := by
  have hidle : ¬ (f.cal.act.isSome || decide (f.start.frames < 8)) = true := by simp [hfree, hframes]
  have hadc := Field.nextDue_ne_adc hnext
  cases it with
  | adc => exact absurd rfl hadc
  | _ => simp [doCalItemDue, hidle, hnext]

/-- On a main, a request books an ADC calibration (R467). -/
theorem doCalItemDue_books (f : Field) (lane : Fin 4) (hfree : f.cal.adc = none) (hframes : 8 ≤ f.start.frames)
    (hallowed : f.calAllowed .adc = true) (hmain : f.sup.sel ≠ .vbat) (hasked : f.cal.asked.getLsbD 4 = true) :
    doCalItemDue .adc lane f =
      { f with cal := { f.cal with adc := some ⟨f.clk.fno + f.bookMain, none, false⟩ } }.tell (.calStarted .adc 0) := by
  have hidle : ¬ (f.cal.adc.isSome || !f.calAllowed .adc || decide (f.start.frames < 8)) = true := by
    simp [hfree, hframes, hallowed]
  simp only [doCalItemDue, if_neg hidle, if_neg hmain, hasked, Bool.true_or, if_true]

/-! ### Slices (R466, R471, R474) -/

/-- The calibration `a` after one more slice, which holds the result `m` if it is the last of its run. -/
def CalAct.sliced (a : CalAct) (m : CalMeas) : CalAct :=
  if a.slices + 1 < runSlices a.item then { a with slices := a.slices + 1 }
  else if a.run2 then { a with slices := a.slices + 1, res2 := some m }
  else { a with slices := 0, run2 := true, run1 := some m }

/-- A slice of the calibration under way takes the lane. -/
theorem doCalSlice_due (f : Field) (m : CalMeas) {a : CalAct} (hslices : f.slices = true) (hlane : f.sched.lane = 0)
    (hadc : f.adcComputeDue = false) (hact : f.cal.act = some a) (hused : f.cal.sliceUsed = false) (hopen : a.res2 = none)
    (hallowed : f.calAllowed a.item = true) :
    Field.TstOnly { f.laneTook 1 with cal := { f.cal with
      act := some (a.sliced m), sliceUsed := true, sliceLane := if a.item = .tdc then some a.lane else none } }
      (doCalSlice m f) := by
  have hdue : ¬ (!f.slices || decide (0 < f.sched.lane) || f.adcComputeDue || f.cal.sliceUsed || a.res2.isSome ||
      !f.calAllowed a.item) = true := by simp [hslices, hlane, hadc, hused, hopen, hallowed]
  simp only [doCalSlice, hact, if_neg hdue]
  split <;> rfl

/-! ### An ADC calibration (R469, R470) -/

/-- Both runs are measured in the booked frame. -/
theorem doAdcCalFrame_booked (f : Field) (a b c d : AdcRun) {x : AdcAct} (hrun : f.runs = true) (hbooked : f.cal.adc = some x)
    (hframe : x.fc = f.clk.fno) (hnew : x.runs = none) :
    Field.TstOnly { f with cal := { f.cal with adc := some { x with runs := some (a, b, c, d) } } } (doAdcCalFrame a b c d f) := by
  have hdue : (f.runs && decide (x.fc = f.clk.fno) && x.runs.isNone) = true := by simp [hrun, hframe, hnew]
  simp only [doAdcCalFrame, hbooked, if_pos hdue, Field.tstOnly_domain]
  rfl

/-- The computation of runs that are measured takes the lane. -/
theorem doAdcCompute_due (f : Field) {x : AdcAct} (hslices : f.slices = true) (hlane : f.sched.lane = 0)
    (hmeasured : f.cal.adc = some x) (hlater : x.fc < f.clk.fno) (hruns : x.runs.isSome = true) (hnew : x.computed = false)
    (hused : f.cal.sliceUsed = false) :
    Field.TstOnly { f.laneTook 1 with cal := { f.cal with adc := some { x with computed := true }, sliceUsed := true } }
      (doAdcCompute f) := by
  have hwaits : f.adcComputeDue = true := by simp [Field.adcComputeDue, hmeasured, hlater, hruns, hnew]
  have hdue : (f.slices && f.adcComputeDue && decide (f.sched.lane = 0) && !f.cal.sliceUsed) = true := by
    simp [hslices, hwaits, hlane, hused]
  simp only [doAdcCompute, hmeasured, if_pos hdue, Field.tstOnly_domain]
  rfl

/-- Settles O36: a calibration starts by `doCalItemDue_starts` or `doCalItemDue_books`, whose news reach no job; its slice
(`CalAct.sliced`), the ADC's frame and its computation switch domains on. -/
theorem calibrationsRun : Obligations.CalibrationsRun := by
  refine ⟨fun s it lane hup hjobs hfree hframes hnext => ?starts, fun s lane hup hjobs hfree hframes hallowed hmain hasked => ?books,
    fun s m a hup hwdog hlane hadc hact hused hopen hallowed => ?slice, fun s a b c d x hup hbooked hframe hnew => ?measures,
    fun s x hup hmeasured hlater hruns hnew hwdog hlane hused => ?computes⟩
  case starts =>
    obtain ⟨t, ht, honly⟩ := s.fieldStep_noJobs (.calItemDue it lane) rfl hjobs
    rw [doCalItemDue_starts s.f it lane hfree hframes hnext, ← hup.2] at honly
    exact ⟨t, ht, honly⟩
  case books =>
    obtain ⟨t, ht, honly⟩ := s.fieldStep_noJobs (.calItemDue .adc lane) rfl hjobs
    rw [doCalItemDue_books s.f lane hfree hframes hallowed hmain hasked, ← hup.2] at honly
    exact ⟨t, ht, honly⟩
  case slice =>
    have hslices : s.f.slices = true := by simp [Field.slices, hup.1, hwdog]
    have hstep := doCalSlice_due s.f m hslices hlane hadc hact hused hopen hallowed
    exact (s.fieldStep_tstOnly (.calSlice m) rfl hstep hup.2 :)
  case measures =>
    exact (s.fieldStep_tstOnly (.adcCalFrame a b c d) rfl (doAdcCalFrame_booked s.f a b c d hup.1 hbooked hframe hnew) hup.2 :)
  case computes =>
    have hslices : s.f.slices = true := by simp [Field.slices, hup.1, hwdog]
    have hstep := doAdcCompute_due s.f hslices hlane hmeasured hlater hruns hnew hused
    exact (s.fieldStep_tstOnly .adcCalCompute rfl hstep hup.2 :)

end Sys2Proof.Machine
end

section
/-! Stores in system blocks (R452, R489 to R492, R600, R697): what one slice of each leaves, where no system block is abandoned. -/

namespace Sys2Proof.Machine

/-- A slice of the non-volatile memory switches domains on. -/
theorem Field.tstOnly_nvmOn {f g : Field} {phys : Nat} {program hash : Bool} :
    f.TstOnly (g.nvmOn phys program hash) ↔ f.TstOnly g := by
  obtain ⟨x, hx⟩ := g.nvmOn_tst phys program hash
  rw [hx]
  exact .rfl

/-! ### The working set (R489 to R492) -/

/-- The first store that is asked for on a main takes an image of the working set. -/
theorem doCalStoreDue_starts (f : Field) (hrun : f.runs = true) (hrestored : f.start.restored = true)
    (hmain : f.sup.sel = .vfld ∨ f.sup.sel = .iso) (hdirty : f.cal.dirty = true) (hreq : f.cal.storeReq = true)
    (hfirst : f.cal.lastStore = none) (hidle : f.cal.store = none) :
    doCalStoreDue f = { f with cal := { f.cal with
      storeReq := false, csn := f.cal.csn + 1, lastStore := some (stampSec f.clk.stamp),
      store := some ⟨calImage f.cal.ws f.uid (f.cal.csn + 1) (stampSec f.clk.stamp), 0, false⟩ } } := by
  unfold doCalStoreDue
  extract_lets sec main aged rested csn
  have hdue : (f.runs && f.start.restored && main && f.cal.dirty && (f.cal.storeReq || aged) && rested && f.cal.store.isNone) =
      true := by simp [main, rested, hrun, hrestored, hmain, hdirty, hreq, hfirst, hidle]
  exact if_pos hdue

/-- The fifth slice of a store writes copy A, which reads back right (R491). -/
theorem doCalStoreSlice_copyA (f : Field) {st : CalStore} (hplan : f.planRuns = true) (hlane : f.laneFree 3 = true)
    (hstore : f.cal.store = some st) (hsys : f.jrn.sysBad = []) (hfifth : st.slices = 4) (hboth : st.aOnly = false) :
    Field.TstOnly { f.laneTook 3 with
      cal := { f.cal with copyA := some st.image, aOk := true, store := some { st with slices := 5 } } }
      (doCalStoreSlice true f) := by
  have hdue : ¬ (!f.planRuns || !f.laneFree 3) = true := by simp [hplan, hlane]
  obtain ⟨x, hx⟩ := (f.laneTook 3).nvmOn_tst (f.jrn.sysPhys ((st.slices + 1) / 6)) true false
  simp only [doCalStoreSlice, hstore, if_neg hdue, hx]
  simp only [hsys, hfifth, hboth]
  rfl

/-- The tenth slice of a store writes copy B and ends the store; a copy that does not read back right is none (R491, R492). -/
theorem doCalStoreSlice_copyB (f : Field) {st : CalStore} (ok : Bool) (hplan : f.planRuns = true) (hlane : f.laneFree 3 = true)
    (hstore : f.cal.store = some st) (hsys : f.jrn.sysBad = []) (htenth : st.slices = 9) :
    Field.TstOnly { f.laneTook 3 with
      cal := if ok then { f.cal with
          copyB := some st.image, bOk := true, store := none, dirty := decide (f.cal.ws ≠ wsOfImage st.image) }
        else { f.cal with bOk := false, store := none } }
      (doCalStoreSlice ok f) := by
  have hdue : ¬ (!f.planRuns || !f.laneFree 3) = true := by simp [hplan, hlane]
  obtain ⟨x, hx⟩ := (f.laneTook 3).nvmOn_tst (f.jrn.sysPhys ((st.slices + 1) / 6)) true false
  simp only [doCalStoreSlice, hstore, if_neg hdue, hx]
  simp only [hsys, htenth, Cal.sameAs, ← decide_not]
  rfl

/-! ### `KEEP` (R600) -/

/-- The first slice of a save writes S10. -/
theorem doKeepSaveSlice_first (f : Field) {bs : List Byte} (hlane : f.laneFree 3 = true) (hsave : f.jrn.mirrorSave = some (bs, 0))
    (hsys : f.jrn.sysBad = []) :
    Field.TstOnly { f.laneTook 3 with jrn := { f.jrn with
      mirrorA := some (f.jrn.mirrorCount, bs), mirrorSave := some (bs, f.jrn.mirrorCount + 1) } } (doKeepSaveSlice f) := by
  simp only [doKeepSaveSlice, hlane, hsave, hsys, Bool.not_true, Bool.false_eq_true, if_false, Field.tstOnly_nvmOn]
  rfl

/-- The second slice writes S11 under the same count, and ends the save. -/
theorem doKeepSaveSlice_second (f : Field) {bs : List Byte} {n : Nat} (hlane : f.laneFree 3 = true)
    (hsave : f.jrn.mirrorSave = some (bs, n + 1)) (hsys : f.jrn.sysBad = []) :
    Field.TstOnly { f.laneTook 3 with jrn := { f.jrn with mirrorB := some (n, bs), mirrorSave := none } } (doKeepSaveSlice f) := by
  simp only [doKeepSaveSlice, hlane, hsave, hsys, Bool.not_true, Bool.false_eq_true, if_false, Field.tstOnly_nvmOn]
  rfl

/-! ### The overlay (R697) -/

/-- Limits that have changed go to S2; read back right, they go to S3, else S2 holds none. -/
theorem doOverlayRewrite_due (f : Field) (ok : Bool) (hlane : f.laneFree 3 = true) (hmain : f.sup.sel = .vfld ∨ f.sup.sel = .iso)
    (hmount : f.start.mounted = true) (hfirst : f.ovl.last = none) (hnew : f.ovl.s2 ≠ some f.limits) (hsys : f.jrn.sysBad = []) :
    Field.TstOnly (if ok then { f.laneTook 3 with
        ovl := { f.ovl with s2 := some f.limits, s3 := some f.limits, last := some (stampSec f.clk.stamp) } }
      else Field.setBit { f.laneTook 3 with ovl := { f.ovl with s2 := none, last := some (stampSec f.clk.stamp) } } sbNvmErr)
      (doOverlayRewrite ok f) := by
  have hdue : ¬ (!f.laneFree 3 || !(decide (f.sup.sel = .vfld) || decide (f.sup.sel = .iso)) || !f.start.mounted || false ||
      decide (f.ovl.s2 = some f.limits)) = true := by
    rcases hmain with hmain | hmain <;> simp [hlane, hmain, hmount, hnew]
  have hkept : (f.laneTook 3).jrn.sysBad = [] := hsys
  obtain ⟨x, hx⟩ := (f.laneTook 3).nvmOn_tst (f.jrn.sysPhys 2) true false
  simp only [doOverlayRewrite, hfirst, if_neg hdue, hx, hsys, hkept]
  cases ok with
  | false => rfl
  | true =>
    simp only [Bool.not_true, Bool.false_eq_true, if_false, if_true, Field.tstOnly_nvmOn]
    rfl

/-- Settles O37: each clause is one slice of a store, which takes the lane and switches domains on. -/
theorem copiesAreStored : Obligations.CopiesAreStored := by
  refine ⟨fun s hup hrestored hmain hdirty hreq hfirst hidle => ?starts,
    fun s st hup hplan hlane hstore hsys hfifth hboth => ?copyA, fun s st hup hplan hlane hstore hsys htenth => ?copyB,
    fun s st hup hplan hlane hstore hsys htenth => ?noCopy, fun s bs hup hlane hsave hsys => ?keepFirst,
    fun s bs n hup hlane hsave hsys => ?keepSecond, fun s hup hlane hmain hmount hfirst hnew hsys => ⟨?overlay, ?noOverlay⟩⟩
  case starts =>
    exact s.fieldStep .calStoreDue rfl (doCalStoreDue_starts s.f hup.1 hrestored hmain hdirty hreq hfirst hidle) hup.2
  case copyA =>
    exact (s.fieldStep_tstOnly (.calStoreSlice true) rfl (doCalStoreSlice_copyA s.f hplan hlane hstore hsys hfifth hboth) hup.2 :)
  case copyB =>
    exact (s.fieldStep_tstOnly (.calStoreSlice true) rfl (doCalStoreSlice_copyB s.f true hplan hlane hstore hsys htenth) hup.2 :)
  case noCopy =>
    exact (s.fieldStep_tstOnly (.calStoreSlice false) rfl (doCalStoreSlice_copyB s.f false hplan hlane hstore hsys htenth) hup.2 :)
  case keepFirst => exact (s.fieldStep_tstOnly .keepSaveSlice rfl (doKeepSaveSlice_first s.f hlane hsave hsys) hup.2 :)
  case keepSecond => exact (s.fieldStep_tstOnly .keepSaveSlice rfl (doKeepSaveSlice_second s.f hlane hsave hsys) hup.2 :)
  case overlay =>
    have hstep := doOverlayRewrite_due s.f true hlane hmain hmount hfirst hnew hsys
    exact (s.fieldStep_tstOnly (.overlayRewrite true) rfl hstep hup.2 :)
  case noOverlay =>
    have hstep := doOverlayRewrite_due s.f false hlane hmain hmount hfirst hnew hsys
    obtain ⟨t, ht, hhost, hfield⟩ := s.fieldStep_tstOnly (.overlayRewrite false) rfl hstep hup.2
    refine ⟨t, ht, hhost, ?_⟩
    rw [hfield]
    exact ⟨Field.bit_setBit _ (by decide), rfl, rfl⟩

end Sys2Proof.Machine
end

section
/-! The radio's states and its receiver (18_radio.md; items 0x07 and 0x08 of 13_calibration.md): where a transition leads, what becomes of
a packet, what two runs of a calibration decide, and what a loss of lock leaves. -/

namespace Sys2Proof.Machine

/-! ### Transitions (R648) -/

theorem HostSide.rfDone_idle (h : HostSide) (l : Byte) (hask : h.radio.rxAsk = false) (hgoal : h.radio.goal = some .idle) :
    h.rfDone l = (HostSide.rfTo { h with radio := { h.radio with goal := none } } .idle, true) := by
  simp only [HostSide.rfDone, hask, hgoal, Bool.false_eq_true, if_false]

theorem HostSide.rfDone_stby (h : HostSide) (l : Byte) (hask : h.radio.rxAsk = false) (hgoal : h.radio.goal = some .stby)
    (hst : h.radio.st = .synth) :
    h.rfDone l = (HostSide.rfTo { h with radio := { h.radio with goal := none, lockT := l } } .stby, true) := by
  simp only [HostSide.rfDone, hask, hgoal, hst, Bool.false_eq_true, if_false, if_true]

/-- Without coexistence no grant is sampled on the way into RX (R673). -/
theorem HostSide.rfEnterRx_free (h : HostSide) (hcx : h.radio.cxEn = false) : h.rfEnterRx = (h, true) :=
  if_neg (by rw [hcx, Bool.false_and]; decide)

theorem HostSide.rfDone_rx (h : HostSide) (l : Byte) (hask : h.radio.rxAsk = false) (hgoal : h.radio.goal = some .rx)
    (hst : h.radio.st = .synth) (hcx : h.radio.cxEn = false) :
    h.rfDone l = (HostSide.rfTo { h with radio := { h.radio with goal := none, lockT := l } } .rx, true) := by
  simp only [HostSide.rfDone, hask, hgoal, hst, Bool.false_eq_true, if_false, if_true]
  rw [HostSide.rfEnterRx_free _ (by exact hcx), if_pos rfl]

/-- A transition that no line waits for. -/
theorem rfTransitionDone_silent (s : State) (l : Byte) {h : HostSide} (hrun : s.h.run = true) (hline : NoRadioLine s)
    (hdone : s.h.rfDone l = (h, true)) : ∃ t, exec (.rfTransitionDone l) s = .next t ∧ OnlyHost s t h := by
  have hcur : h.line = s.h.line := by
    rw [← s.h.rfDone_line l, hdone]
  have hwait : State.waiting { s with h := h } ≠ some .radio := by
    simpa only [NoRadioLine, State.waiting, hcur] using hline
  have hexec : exec (.rfTransitionDone l) s = .next { s with h := h } := by
    simp only [exec, execRfTransitionDone, hrun, hdone, Bool.not_true, Bool.false_eq_true, if_false, if_true, State.radioAnswer,
      if_neg hwait]
  exact ⟨_, hexec, rfl, rfl, rfl⟩

/-- A line that waits for the radio and has no other command is answered `OK` (R557, R648). -/
theorem State.radioAnswer_ok (s : State) {h : HostSide} (hh : s.h = h.lineWaits .radio) (hcur : h.line.cur = none) :
    s.radioAnswer .ok = { s with h := sent h okLines } := by
  obtain ⟨f, k, q⟩ := s
  obtain rfl : k = h.lineWaits .radio := hh
  have hdone : (sent h okLines).lineDone = sent h okLines := HostSide.lineDone_of_none hcur
  rw [← hdone]
  exact Lx.settle_done ⟨⟨f, (h.lineWaits .radio).ran, q⟩, oneLine⟩ okLines rfl rfl rfl rfl rfl rfl rfl

/-- A transition into IDLE that the line of one command waits for. -/
theorem rfTransitionDone_answers (s : State) (l : Byte) {h : HostSide} (hh : s.h = h.lineWaits .radio) (hcur : h.line.cur = none)
    (hrun : h.run = true) (hask : h.radio.rxAsk = false) (hgoal : h.radio.goal = some .idle) :
    ∃ t, exec (.rfTransitionDone l) s = .next t ∧
      OnlyHost s t (sent (HostSide.rfTo { h with radio := { h.radio with goal := none } } .idle) okLines) := by
  have hrun' : s.h.run = true := by
    rw [hh]
    exact hrun
  have hdone : s.h.rfDone l = ((HostSide.rfTo { h with radio := { h.radio with goal := none } } .idle).lineWaits .radio, true) := by
    rw [hh]
    exact HostSide.rfDone_idle _ l hask hgoal
  have hanswer := State.radioAnswer_ok
    { s with h := (HostSide.rfTo { h with radio := { h.radio with goal := none } } .idle).lineWaits .radio } rfl hcur
  have hexec : exec (.rfTransitionDone l) s = .next (State.radioAnswer
      { s with h := (HostSide.rfTo { h with radio := { h.radio with goal := none } } .idle).lineWaits .radio } .ok) := by
    simp only [exec, execRfTransitionDone, hrun', hdone, Bool.not_true, Bool.false_eq_true, if_false, if_true]
  rw [hanswer] at hexec
  exact ⟨_, hexec, rfl, rfl, rfl⟩

/-! ### Errors of the radio (R682) -/

theorem JobsOnly.radio {h t : HostSide} (a : JobsOnly h t) : t.radio = h.radio := by rw [a]

/-- An error sets its bit of `RF_ERR`, and no other part of the radio. -/
theorem HostSide.rfErr_radio (h : HostSide) {i : Nat} (hi : i < 5) :
    ∃ e : BitVec 5, (h.rfErr i).radio = { h.radio with err := e } ∧ e.getLsbD i = true := by
  unfold HostSide.rfErr
  split
  · next hset => exact ⟨h.radio.err, rfl, hset⟩
  · exact ⟨_, (HostSide.setBit_jobsOnly ..).radio, by simp [hi]⟩

/-- `RFERR` sets where the bit of `RF_ERR` was 0. -/
theorem HostSide.rfErr_latched (h : HostSide) (i : Nat) :
    bitOf (h.rfErr i).latched sbRferr = (h.radio.err.getLsbD i == false || bitOf h.latched sbRferr) := by
  unfold HostSide.rfErr
  split
  · next hset => simp [hset]
  · next hclear => simp [hclear, HostSide.bit_setBit _ (by decide : sbRferr < 32)]

/-! ### Packets (R667 to R669) -/

/-- In RX an SFD is stamped. -/
theorem HostSide.rfSfd_stamped (h : HostSide) (o : Nat) (hst : h.radio.st = .rx) (hsusp : h.radio.susp = false)
    (hnone : h.radio.rxNow = none) : h.rfSfd o = { h with radio := { h.radio with rxNow := some (h.stampAt o) } } :=
  if_pos (by simp [Radio.receives, hst, hsusp, hnone])

/-- A packet for which the queue of eight has room joins it (R668). -/
theorem HostSide.rfAdmit_queued (h : HostSide) (x : HStamp) (p : RxFrame) (hms : p.phr.getLsbD 0 = false) (hlen : phrLen p.phr ≠ 0)
    (hroom : h.radio.rxq.length < 8) (hoctets : h.radio.octets + phrLen p.phr ≤ 4096) :
    h.rfAdmit x p = HostSide.rfCount { h with radio := { h.radio with
      rxq := h.radio.rxq ++ [⟨h.radio.nextRx, x, p.phr.getLsbD 3, p.rssi,
        if p.phr.getLsbD 4 then whiten (p.psdu.take (phrLen p.phr)) else p.psdu.take (phrLen p.phr)⟩],
      nextRx := h.radio.nextRx + 1, marks := (h.radio.nextRx, x) :: h.radio.marks } } cRxOk := by
  have hfits : ¬ (decide (8 < h.radio.rxq.length + 1) || decide (4096 < h.radio.octets + phrLen p.phr)) = true := by
    simp only [Bool.or_eq_true, decide_eq_true_eq]
    omega
  simp only [HostSide.rfAdmit, hms, hlen, if_neg hfits, Bool.false_eq_true, if_false]

/-- A mode switch is counted, and its PHR kept (R667). -/
theorem HostSide.rfAdmit_switch (h : HostSide) (x : HStamp) (p : RxFrame) (hms : p.phr.getLsbD 0 = true) :
    h.rfAdmit x p = HostSide.rfCount { h with radio := { h.radio with phr := p.phr } } cMsw := if_pos hms

theorem HostSide.rfAdmit_empty (h : HostSide) (x : HStamp) (p : RxFrame) (hms : p.phr.getLsbD 0 = false) (hlen : phrLen p.phr = 0) :
    h.rfAdmit x p = h.rfCount cPhrBad := by
  simp only [HostSide.rfAdmit, hms, hlen, Bool.false_eq_true, if_false, if_true]

/-- A packet behind eight others is counted and dropped (R668). -/
theorem HostSide.rfAdmit_dropped (h : HostSide) (x : HStamp) (p : RxFrame) (hms : p.phr.getLsbD 0 = false) (hlen : phrLen p.phr ≠ 0)
    (hfull : 8 ≤ h.radio.rxq.length) : h.rfAdmit x p = (h.rfCount cRxDrop).rfErr 3 := by
  have hover : (decide (8 < h.radio.rxq.length + 1) || decide (4096 < h.radio.octets + phrLen p.phr)) = true := by
    simp only [Bool.or_eq_true, decide_eq_true_eq]
    omega
  simp only [HostSide.rfAdmit, hms, hlen, if_pos hover, Bool.false_eq_true, if_false]

/-- With no transmission pending the end of a packet is its admission. -/
theorem HostSide.rfPacketEnd_admits (h : HostSide) (p : RxFrame) {x : HStamp} {k : HostSide} (hnow : h.radio.rxNow = some x)
    (hadmit : HostSide.rfAdmit { h with radio := { h.radio with rxNow := none } } x p = k) (htx : k.radio.tx = none) :
    h.rfPacketEnd p = k := by
  simp only [HostSide.rfPacketEnd, hnow, hadmit, htx]

/-! ### Calibration (R457 to R461, R476) -/

/-- Two runs within 1 dB give the new figure. -/
theorem HostSide.rfVerdict_agree (h : HostSide) {a b : Int} (hjobs : h.rfCalJobs .iq = []) (hnear : (a - b).natAbs ≤ 10) :
    h.rfVerdict .iq a b = { h with radio := { h.radio with
      calIq := ⟨some (h.hf + 38400), none⟩, irr := BitVec.ofInt 8 (roundDiv (a + b) 20), rej7 := 0#4 } } := by
  have hok : decide ((a - b).natAbs ≤ rfCalTol) = true := decide_eq_true hnear
  simp only [HostSide.rfVerdict, hok, if_true]
  exact congrArg (List.foldl _ _) hjobs

/-- Two runs that differ by more are rejected, here not for the third time (R460, R461). -/
theorem HostSide.rfVerdict_reject (h : HostSide) {a b : Int} (hjobs : h.rfCalJobs .iq = []) (hfar : 10 < (a - b).natAbs)
    (hthird : h.radio.rej7 ≠ 2#4) :
    h.rfVerdict .iq a b = { h with radio := Radio.count { h.radio with
      calIq := ⟨some (h.hf + 38400), none⟩, rej7 := satAdd h.radio.rej7 1 } cCalRej } := by
  have hok : decide ((a - b).natAbs ≤ rfCalTol) = false := decide_eq_false (Nat.not_le.mpr hfar)
  have hmore : ¬ (Radio.setCal h.radio .iq ⟨some (h.hf + 38400), none⟩).rej7 = 2#4 := hthird
  simp only [HostSide.rfVerdict, hok, Bool.false_eq_true, if_false, if_true, if_neg hmore]
  exact congrArg (List.foldl _ _) hjobs

/-- In IDLE a second run meets the first one's. -/
theorem HostSide.rfCalSlice_second (h : HostSide) {run a : Int} (hst : h.radio.st = .idle) (hgoal : h.radio.goal = none)
    (htx : h.radio.tx = none) (hfirst : h.radio.calIq.run1 = some a) : h.rfCalSlice .iq run true = h.rfVerdict .iq a run := by
  simp [HostSide.rfCalSlice, Radio.calOf, hst, hgoal, htx, hfirst]

/-- In IDLE the first run of an item that is due is kept. -/
theorem HostSide.rfCalSlice_first (h : HostSide) {run : Int} {d : Nat} (hst : h.radio.st = .idle) (hgoal : h.radio.goal = none)
    (htx : h.radio.tx = none) (hjobs : h.rfCalJobs .iq = []) (hcal : h.radio.calIq = ⟨some d, none⟩) (hdue : d ≤ h.hf) :
    h.rfCalSlice .iq run false = { h with radio := { h.radio with calIq := ⟨some d, some run⟩ } } := by
  have hstep : h.rfCalSlice .iq run false =
      (HostSide.rfCalJobs { h with radio := h.radio.setCal .iq ⟨some d, some run⟩ } .iq).foldl
        (fun h i => h.putJob i fun j => { j with st := 2 }) { h with radio := h.radio.setCal .iq ⟨some d, some run⟩ } := by
    simp [HostSide.rfCalSlice, Radio.calOf, hst, hgoal, htx, hcal, hdue]
  rw [hstep]
  exact congrArg (List.foldl _ _) hjobs

/-! ### A lost lock (R652) -/

/-- A packet being received is dropped and counted. -/
theorem HostSide.rfDrop_counts (h : HostSide) :
    h.rfDrop.radio = { (if h.radio.rxNow.isSome then h.radio.count cRxAbort else h.radio) with rxNow := none } := by
  unfold HostSide.rfDrop
  split
  · next hnone =>
    have hquiet : ¬ h.radio.rxNow.isSome = true := by simp [hnone]
    rw [if_neg hquiet, ← hnone]
  · next x hsome =>
    rw [hsome]
    rfl

/-- The host side after a band search whose lock took `l` µs, a packet being received dropped. -/
def HostSide.relocked (h : HostSide) (l : Byte) : HostSide :=
  { h.rfDrop with radio := { h.rfDrop.radio with lockT := l }, domNow := h.rfDrop.domNow ||| RfSt.synth.domains }

/-- In RX with no transmission pending, the loss of lock drops the packet, is reported and counted. -/
theorem HostSide.rfUnlock_rx (h : HostSide) (l : Byte) (hst : h.radio.st = .rx) (htx : h.radio.tx = none) :
    h.rfUnlock l = ((h.relocked l).rfErr 0).rfCount cUnlock := by
  simp [HostSide.rfUnlock, HostSide.relocked, hst, htx]

theorem HostSide.relocked_radio (h : HostSide) (l : Byte) :
    (h.relocked l).radio = { (if h.radio.rxNow.isSome then h.radio.count cRxAbort else h.radio) with rxNow := none, lockT := l } :=
  congrArg (fun r : Radio => { r with lockT := l }) h.rfDrop_counts

/-- The report of a loss of lock: of the radio it sets the bit of `RF_ERR`, of the status word `RFERR` where that bit was 0 (R682). -/
theorem HostSide.relocked_reports (h : HostSide) (l : Byte) :
    ∃ e : BitVec 5, ((h.relocked l).rfErr 0).radio = { (h.relocked l).radio with err := e } ∧ e.getLsbD 0 = true ∧
      bitOf ((h.relocked l).rfErr 0).latched sbRferr = (h.radio.err.getLsbD 0 == false || bitOf h.latched sbRferr) := by
  obtain ⟨e, hradio, hset⟩ := (h.relocked l).rfErr_radio (by decide : 0 < 5)
  have herr : (h.relocked l).radio.err = h.radio.err := by
    rw [h.relocked_radio l]
    dsimp only
    split <;> rfl
  have hdrop : h.rfDrop = _ := h.rfDrop_radio
  have hlatched : (h.relocked l).latched = h.latched := (congrArg HostSide.latched hdrop :)
  refine ⟨e, hradio, hset, ?_⟩
  rw [HostSide.rfErr_latched, herr, hlatched]

/-- Settles O53: a transition by `rfDone`, answered to the line that waits for it; a packet's end is its admission; a calibration is
its verdict where no job asks for it; a loss of lock drops, reports and counts. -/
theorem radioReceives : Obligations.RadioReceives := by
  refine ⟨fun s l hrun hline hask => ⟨fun hgoal => ?idle, fun hgoal hst => ?stby, fun hgoal hst hcx => ?rx⟩,
    fun s h l hh hcur hrun hask hgoal => ?answers, fun s o hrun hst hsusp hnone => ?sfd,
    fun s p x hrun hnow htx hms hlen hroom hoctets => ?queued,
    fun s p x hrun hnow htx => ⟨fun hms => ?switch, fun hms hlen => ?empty, fun hms hlen hfull => ?dropped⟩,
    fun s run a hrun hst hgoal htx hjobs hfirst => ⟨fun hnear => ?agree, fun hfar hthird => ?reject⟩,
    fun s run d hrun hst hgoal htx hjobs hcal hdue => ?first, fun s l hrun hst htx => ?unlock⟩
  case idle => exact rfTransitionDone_silent s l hrun hline (s.h.rfDone_idle l hask hgoal)
  case stby => exact rfTransitionDone_silent s l hrun hline (s.h.rfDone_stby l hask hgoal hst)
  case rx => exact rfTransitionDone_silent s l hrun hline (s.h.rfDone_rx l hask hgoal hst hcx)
  case answers => exact rfTransitionDone_answers s l hh hcur hrun hask hgoal
  case sfd => exact s.hostStep (.rfSfdDetect o) rfl hrun (s.h.rfSfd_stamped o hst hsusp hnone)
  case queued =>
    have hadmit := HostSide.rfAdmit_queued { s.h with radio := { s.h.radio with rxNow := none } } x p hms hlen hroom hoctets
    exact s.hostStep (.rfPacketEnd p) rfl hrun (s.h.rfPacketEnd_admits p hnow hadmit htx)
  case switch =>
    have hadmit := HostSide.rfAdmit_switch { s.h with radio := { s.h.radio with rxNow := none } } x p hms
    exact s.hostStep (.rfPacketEnd p) rfl hrun (s.h.rfPacketEnd_admits p hnow hadmit htx)
  case empty =>
    have hadmit := HostSide.rfAdmit_empty { s.h with radio := { s.h.radio with rxNow := none } } x p hms hlen
    exact s.hostStep (.rfPacketEnd p) rfl hrun (s.h.rfPacketEnd_admits p hnow hadmit htx)
  case dropped =>
    have hadmit := HostSide.rfAdmit_dropped { s.h with radio := { s.h.radio with rxNow := none } } x p hms hlen hfull
    obtain ⟨e, hradio, herr⟩ := HostSide.rfErr_radio
      (HostSide.rfCount { s.h with radio := { s.h.radio with rxNow := none } } cRxDrop) (by decide : 3 < 5)
    obtain ⟨t, ht, hhost, hfield, -⟩ := s.hostStep (.rfPacketEnd p) rfl hrun
      (s.h.rfPacketEnd_admits p hnow hadmit ((congrArg Radio.tx hradio).trans htx))
    refine ⟨t, ht, ?_⟩
    rw [hhost, hradio]
    exact ⟨rfl, herr, rfl, rfl, hfield⟩
  case agree =>
    have hnone : s.h.rfCalJobs .iq = [] := s.slotsOf_noJobs hjobs _
    exact s.hostStep (.rfCalSlice .iq run true) rfl hrun
      ((s.h.rfCalSlice_second hst hgoal htx hfirst).trans (s.h.rfVerdict_agree hnone hnear))
  case reject =>
    have hnone : s.h.rfCalJobs .iq = [] := s.slotsOf_noJobs hjobs _
    exact s.hostStep (.rfCalSlice .iq run true) rfl hrun
      ((s.h.rfCalSlice_second hst hgoal htx hfirst).trans (s.h.rfVerdict_reject hnone hfar hthird))
  case first =>
    have hnone : s.h.rfCalJobs .iq = [] := s.slotsOf_noJobs hjobs _
    exact s.hostStep (.rfCalSlice .iq run false) rfl hrun (s.h.rfCalSlice_first hst hgoal htx hnone hcal hdue)
  case unlock =>
    obtain ⟨t, ht, hhost, hfield, -⟩ := s.hostStep (.synthUnlock l) rfl hrun (s.h.rfUnlock_rx l hst htx)
    obtain ⟨e, hreport, hset, hlatched⟩ := s.h.relocked_reports l
    have hradio : t.h.radio = Radio.count { (s.h.relocked l).radio with err := e } cUnlock := by
      rw [hhost, ← hreport]
      rfl
    rw [s.h.relocked_radio l] at hradio
    refine ⟨t, ht, hfield, ?_⟩
    rw [hradio, hhost]
    refine ⟨?_, rfl, rfl, hset, hlatched, rfl⟩
    dsimp only [Radio.count]
    split <;> exact hst

end Sys2Proof.Machine
end

section
/-! The limits of the host side under its operations (R534, R547, R553, R593, R608, R662, R668): what they measure of a host side, and what the
shared operations, the registers and the radio leave of it. -/

namespace Sys2Proof.Machine

/-- What the limits measure: the lines that wait, the tags held, the characters of the partial line, the PPS stamps, the octets of each packet
received, the transmit results, the transmit buffer. -/
def HostSide.sizes (h : HostSide) : Nat × Nat × Nat × Nat × List Nat × Nat × List (Nat × Byte) :=
  (h.line.lines.length, h.line.cache.length, h.uart.buf.length, h.pps.stamps.length, h.radio.rxq.map fun p => p.psdu.length,
    h.radio.results.length, h.radio.buf)

theorem JobsOnly.sizes {h t : HostSide} (a : JobsOnly h t) : t.sizes = h.sizes := by
  rw [a]
  rfl

theorem Radio.whitenFrom_length (s : BitVec 9) (bs : List Byte) : (whitenFrom s bs).length = bs.length := by
  induction bs generalizing s with
  | nil => rfl
  | cons b bs ih => simp [whitenFrom, ih]

theorem labelFirst_length (ok : HStamp × Bool → Bool) (es : List (HStamp × Bool)) : (labelFirst ok es).length = es.length := by
  induction es with
  | nil => rfl
  | cons e es ih =>
    unfold labelFirst
    split <;> simp [ih]

end Sys2Proof.Machine

namespace Sys2Proof

open Sys2Proof.Machine

section
variable {h k : HostSide}

/-- The limits look at sizes alone. -/
theorem Bounded.of_sizes (hb : Bounded h) (e : k.sizes = h.sizes) : Bounded k := by
  simp only [HostSide.sizes, Prod.mk.injEq] at e
  obtain ⟨hlines, hcache, hpart, hstamps, hrxq, hresults, hbuf⟩ := e
  have hcount : k.radio.rxq.length = h.radio.rxq.length := by simpa using congrArg List.length hrxq
  simpa only [Bounded, Radio.octets, hlines, hcache, hpart, hstamps, hcount, hrxq, hresults, hbuf] using hb

theorem Bounded.ite {c : Prop} [Decidable c] (a : Bounded h) (b : Bounded k) : Bounded (if c then h else k) := by
  split
  · exact a
  · exact b

theorem Bounded.jobs (hb : Bounded h) (a : JobsOnly h k) : Bounded k := a.bounded hb

theorem Bounded.foldl {α : Type} {g : HostSide → α → HostSide} (hg : ∀ h a, Bounded h → Bounded (g h a)) (l : List α) (hb : Bounded h) :
    Bounded (l.foldl g h) := by
  induction l generalizing h with
  | nil => exact hb
  | cons a l ih => exact ih (hg h a hb)

/-! ### Jobs, the status word, the host stream -/

theorem Bounded.setBit (hb : Bounded h) (i : Nat) : Bounded (h.setBit i) := hb.jobs (h.setBit_jobsOnly i)
theorem Bounded.notice (hb : Bounded h) (t : Text) : Bounded (h.notice t) := hb.jobs (h.notice_jobsOnly t)
theorem Bounded.attn (hb : Bounded h) (n : Nat) : Bounded (h.attn n) := hb.jobs (h.attn_jobsOnly n)
theorem Bounded.putJob (hb : Bounded h) (i : Nat) (g : Job → Job) : Bounded (h.putJob i g) := hb.jobs (h.putJob_jobsOnly i g)
theorem Bounded.endJob (hb : Bounded h) (i st e : Nat) : Bounded (h.endJob i st e) := hb.jobs (h.endJob_jobsOnly i st e)

theorem Bounded.startJob (hb : Bounded h) {kind i : Nat} {lines : List Text} {info : JobInfo} (hjob : h.startJob kind lines info = some (k, i)) :
    Bounded k := by
  obtain ⟨n, -, hn⟩ := Option.map_eq_some_iff.mp hjob
  obtain ⟨rfl, -⟩ := Prod.mk.inj hn
  exact hb.putJob n _

theorem Bounded.clearBits (hb : Bounded h) (m : Word) : Bounded (h.clearBits m) := .ite (hb.of_sizes (by rfl)) (hb.of_sizes (by rfl))

theorem Bounded.launch (hb : Bounded h) (t : Txn) : Bounded (h.launch t) := by
  rw [h.launch_rest t]
  exact hb.of_sizes (by rfl)

theorem Bounded.pump (hb : Bounded h) : Bounded h.pump := by
  unfold HostSide.pump
  split
  · exact hb
  · split
    · exact hb
    · exact Bounded.launch (hb.of_sizes (by rfl)) _

theorem Bounded.send (hb : Bounded h) (ty : MsgType) (ws : List Word) (cmd : Option FieldCmd) : Bounded (h.send ty ws cmd) :=
  Bounded.pump (hb.of_sizes (by rfl))

/-! ### The radio (18_radio.md) -/

theorem Bounded.rfTo (hb : Bounded h) (st : RfSt) : Bounded (h.rfTo st) := hb.of_sizes (by rfl)
theorem Bounded.rfCount (hb : Bounded h) (i : Nat) : Bounded (h.rfCount i) := hb.of_sizes (by rfl)
theorem Bounded.cxRelease (hb : Bounded h) : Bounded h.cxRelease := hb.of_sizes (by rfl)

theorem Bounded.rfErr (hb : Bounded h) (i : Nat) : Bounded (h.rfErr i) := .ite hb (Bounded.setBit (hb.of_sizes (by rfl)) _)

theorem Bounded.rfDrop (hb : Bounded h) : Bounded h.rfDrop := by
  unfold HostSide.rfDrop
  split
  · exact hb
  · exact hb.of_sizes (by rfl)

theorem Bounded.rfSleep (hb : Bounded h) : Bounded h.rfSleep := hb.rfDrop.of_sizes (by rfl)
theorem Bounded.rfDown (hb : Bounded h) (st : RfSt) : Bounded (h.rfDown st) := hb.rfDrop.of_sizes (by rfl)
theorem Bounded.rfWoken (hb : Bounded h) : Bounded h.rfWoken := .ite (hb.of_sizes (by rfl)) hb

theorem Bounded.rfUp (hb : Bounded h) (t : RfTarget) : Bounded (h.rfUp t) := by
  have hgoal : Bounded { h with radio := { h.radio with goal := some t } } := hb.of_sizes (by rfl)
  unfold HostSide.rfUp
  dsimp only
  split
  · exact hgoal.rfWoken
  · exact hgoal.rfWoken.rfTo _
  · exact hgoal.rfWoken.rfTo _
  · exact hgoal.rfWoken

theorem Bounded.rfEnterRx (hb : Bounded h) : Bounded h.rfEnterRx.1 := by
  unfold HostSide.rfEnterRx
  dsimp only
  split
  · split <;> exact hb.of_sizes (by rfl)
  · exact hb

theorem Bounded.rfState (hb : Bounded h) (t : RfTarget) : Bounded (h.rfState t).1 := by
  unfold HostSide.rfState
  dsimp only
  split
  · exact hb
  · split
    · exact hb
    · split
      · exact hb.rfSleep
      · exact hb.rfUp _
      · exact hb.rfDown _
      · exact hb.of_sizes (by rfl)
      · exact hb.rfDown _
      · exact hb.rfUp _
      · exact hb
      · exact (hb.rfUp _).rfEnterRx
      · exact hb.rfUp _

theorem Bounded.rfDone (hb : Bounded h) (lock : Byte) : Bounded (h.rfDone lock).1 := by
  unfold HostSide.rfDone
  extract_lets r locked
  have hlocked {x : HostSide} (hx : Bounded x) : Bounded (locked x) := Bounded.ite (hx.of_sizes (by rfl)) hx
  split
  · exact hb
  · split
    · exact hb
    · exact hb
    · exact hb.of_sizes (by rfl)
    · exact (hlocked (hb.of_sizes (by rfl))).rfTo _
    · split
      · exact (hlocked hb).rfEnterRx.of_sizes (by rfl)
      · exact (hlocked hb).rfEnterRx

theorem Bounded.rfTune (hb : Bounded h) (w : Word) : Bounded (h.rfTune w) := by
  have hstored : Bounded { h with radio := { h.radio with ch := w } } := hb.of_sizes (by rfl)
  unfold HostSide.rfTune
  dsimp only
  split
  · exact hstored
  · split
    · exact hstored.of_sizes (by rfl)
    · exact hstored.rfDrop.of_sizes (by rfl)
    · exact hstored

theorem Bounded.setCx (hb : Bounded h) (w : Word) : Bounded (h.setCx w) := .ite (hb.of_sizes (by rfl)) (hb.of_sizes (by rfl))

theorem Bounded.groupApply (hb : Bounded h) (gid : Nat) : Bounded (h.groupApply gid).1 := by
  have hunstaged : Bounded { h with radio := h.radio.unstage gid } := by
    unfold Radio.unstage
    split
    · exact hb.of_sizes (by rfl)
    · split <;> exact hb.of_sizes (by rfl)
  unfold HostSide.groupApply
  dsimp only
  split
  · exact hunstaged
  · exact hb

/-- A new transmission leaves at most 16 results (R662). -/
theorem Bounded.newTx (hb : Bounded h) (psdu : List Byte) (job : Option Nat) : Bounded { h with radio := h.radio.newTx psdu job } := by
  obtain ⟨hlines, hcache, hpart, hstamps, hcount, hoctets, -, hbuf⟩ := hb
  exact ⟨hlines, hcache, hpart, hstamps, hcount, hoctets, h.radio.newTx_results psdu job, hbuf⟩

theorem Bounded.putResult (hb : Bounded h) (id : Byte) (x : TxResult) (st : Option HStamp) :
    Bounded { h with radio := h.radio.putResult id x st } := hb.of_sizes (by simp [HostSide.sizes, Radio.putResult])

theorem Bounded.txReturn (hb : Bounded h) (t : TxPend) : Bounded (h.txReturn t) := .ite (hb.of_sizes (by rfl)) (hb.of_sizes (by rfl))

theorem Bounded.txEnd (hb : Bounded h) (t : TxPend) (x : TxResult) (st : Option HStamp) : Bounded (h.txEnd t x st) := by
  have hback := (hb.putResult t.id x st).txReturn t
  unfold HostSide.txEnd
  dsimp only
  split
  · exact hback
  · have hput (i : Nat) (g : Job → Job) := hback.putJob i g
    cases x with
    | pending => exact hput _ _
    | sent | unlock | cancelled | txDenied | cxAbort => exact (hput _ _).endJob _ _ _

theorem Bounded.txStart (hb : Bounded h) (t : TxPend) (htemp : Byte) (vpa : Nat) : Bounded (h.txStart t htemp vpa) :=
  .ite (Bounded.rfErr (hb.of_sizes (by rfl)) 4) (hb.of_sizes (by rfl))

theorem Bounded.txRequest (hb : Bounded h) (t : TxPend) (htemp : Byte) (vpa : Nat) : Bounded (h.txRequest t htemp vpa) :=
  .ite (hb.of_sizes (by rfl)) (hb.txStart t htemp vpa)

theorem Bounded.rfService (hb : Bounded h) (htemp : Byte) (vpa : Nat) : Bounded (h.rfService htemp vpa) := by
  unfold HostSide.rfService
  split
  · exact hb
  · extract_lets t r moved shown
    have hmoved : Bounded moved := hb.of_sizes (by rfl)
    have hshown : Bounded shown := by
      unfold shown
      split
      · exact hmoved.putJob _ _
      · exact hmoved
    exact .ite (hshown.txRequest _ _ _) hshown

theorem Bounded.cxSample (hb : Bounded h) (level : Bool) (htemp : Byte) (vpa : Nat) : Bounded (h.cxSample level htemp vpa).1 := by
  unfold HostSide.cxSample
  dsimp only
  split
  · split
    · exact hb.of_sizes (by rfl)
    · have hdenied : Bounded (HostSide.setBit (HostSide.rfCount (HostSide.cxRelease { h with radio := { h.radio with rxAsk := false } })
          cCxRxDeny) sbCxDeny) := Bounded.setBit (hb.of_sizes (by rfl)) _
      exact hdenied.of_sizes (by rfl)
  · split
    · split
      · exact hb
      · split
        · exact hb.txStart _ _ _
        · exact hb.of_sizes (by rfl)
    · exact hb

theorem Bounded.cxRise (hb : Bounded h) (htemp : Byte) (vpa : Nat) : Bounded (h.cxRise htemp vpa) := by
  have hgranted : Bounded { h with radio := { h.radio with susp := false } } := hb.of_sizes (by rfl)
  unfold HostSide.cxRise
  dsimp only
  split
  · exact .ite hgranted (.ite (hb.of_sizes (by rfl)) (hgranted.txStart _ _ _))
  · exact hgranted

theorem Bounded.cxSuspend (hb : Bounded h) : Bounded h.cxSuspend :=
  .ite (Bounded.setBit (hb.rfDrop.of_sizes (by rfl)) _) hb

theorem Bounded.cxFall (hb : Bounded h) : Bounded h.cxFall := by
  unfold HostSide.cxFall
  refine .ite hb ?_
  split
  · exact .ite (Bounded.setBit ((hb.txEnd _ _ _).of_sizes (by rfl)) _) hb.cxSuspend
  · exact hb.cxSuspend

theorem Bounded.cxTimeout (hb : Bounded h) : Bounded h.cxTimeout := by
  unfold HostSide.cxTimeout
  split
  · exact .ite (Bounded.setBit ((hb.txEnd _ _ _).of_sizes (by rfl)) _) hb
  · exact hb

theorem Bounded.rfTxDone (hb : Bounded h) (offset : Nat) (e : Int) : Bounded (h.rfTxDone offset e) := by
  have hlearnt (t : TxPend) : Bounded { h with radio := h.radio.learnPower t e } := by
    unfold Radio.learnPower
    split <;> exact hb.of_sizes (by rfl)
  unfold HostSide.rfTxDone
  split
  · exact .ite hb (((hlearnt _).txEnd _ _ _).rfCount _)
  · exact hb

theorem Bounded.rfUnlock (hb : Bounded h) (lock : Byte) : Bounded (h.rfUnlock lock) := by
  unfold HostSide.rfUnlock
  extract_lets r g d y x
  refine .ite hb ?_
  have hg : Bounded g := by
    unfold g
    split
    · exact .ite ((hb.txEnd _ _ _).of_sizes (by rfl)) hb
    · exact hb
  have hx : Bounded x := hg.rfDrop.of_sizes (by rfl)
  exact (hx.rfErr 0).rfCount _

theorem Bounded.rfCancel (hb : Bounded h) (i : Nat) : Bounded (h.rfCancel i) := by
  unfold HostSide.rfCancel
  split
  · exact .ite ((hb.txEnd _ _ _).of_sizes (by rfl)) hb
  · exact hb

/-- A packet is admitted while 8 packets and 4096 octets hold it (R668). -/
theorem Bounded.rfAdmit (hb : Bounded h) (s : HStamp) (p : RxFrame) : Bounded (h.rfAdmit s p) := by
  unfold HostSide.rfAdmit
  dsimp only
  refine .ite (hb.of_sizes (by rfl)) (.ite (hb.of_sizes (by rfl)) ?_)
  split
  · exact Bounded.rfErr (hb.of_sizes (by rfl)) 3
  · next hroom =>
    simp only [Bool.or_eq_true, decide_eq_true_eq, not_or, not_lt] at hroom
    obtain ⟨hlines, hcache, hpart, hstamps, -, -, hresults, hbuf⟩ := hb
    have hlen : (if p.phr.getLsbD 4 then whiten (p.psdu.take (phrLen p.phr)) else p.psdu.take (phrLen p.phr)).length ≤ phrLen p.phr := by
      split <;> simp [whiten, Radio.whitenFrom_length]
    refine ⟨hlines, hcache, hpart, hstamps, ?_, ?_, hresults, hbuf⟩
    · simpa [HostSide.rfCount, Radio.count] using hroom.1
    · have hoctets := hroom.2
      simp only [HostSide.rfCount, Radio.count, Radio.octets, List.map_append, List.sum_append, List.map_cons, List.map_nil, List.sum_cons,
        List.sum_nil] at hoctets ⊢
      omega

theorem Bounded.rfPacketEnd (hb : Bounded h) (p : RxFrame) : Bounded (h.rfPacketEnd p) := by
  unfold HostSide.rfPacketEnd
  split
  · exact hb
  · next s _ =>
    have hadmitted : Bounded (HostSide.rfAdmit { h with radio := { h.radio with rxNow := none } } s p) := Bounded.rfAdmit (hb.of_sizes (by rfl)) s p
    dsimp only
    split
    · exact .ite (hadmitted.of_sizes (by rfl)) hadmitted
    · exact hadmitted

theorem Bounded.setCal (hb : Bounded h) (item : CalItem) (c : RfCal) : Bounded { h with radio := h.radio.setCal item c } := by
  unfold Radio.setCal
  split <;> exact hb.of_sizes (by rfl)

theorem Bounded.rfVerdict (hb : Bounded h) (item : CalItem) (a b : Int) : Bounded (h.rfVerdict item a b) := by
  unfold HostSide.rfVerdict
  extract_lets ok g r x n m t line
  have hg : Bounded g := hb.setCal item _
  have ht : Bounded t := by
    unfold t
    split
    · split <;> exact hg.of_sizes (by rfl)
    · have hm : Bounded m := by
        unfold m
        split <;> exact hg.of_sizes (by rfl)
      exact .ite (hm.rfErr _) hm
  exact Bounded.foldl (fun h i hh => (hh.putJob i _).endJob i _ 0) _ ht

theorem Bounded.rfCalSlice (hb : Bounded h) (item : CalItem) (run : Int) (second : Bool) : Bounded (h.rfCalSlice item run second) := by
  unfold HostSide.rfCalSlice
  dsimp only
  refine .ite hb ?_
  split
  · exact .ite (Bounded.foldl (fun h i hh => hh.putJob i _) _ (hb.setCal item _)) hb
  · exact hb.rfVerdict item _ run
  · exact hb

/-! ### Registers (20_register_map.md) -/

/-- PPS_IN is stamped or not; disabling discards the stamps (R593). -/
theorem Bounded.setPps (hb : Bounded h) (on : Bool) : Bounded (h.setPps on) := by
  obtain ⟨hlines, hcache, hpart, hstamps, hrest⟩ := hb
  cases on with
  | true => exact ⟨hlines, hcache, hpart, hstamps, hrest⟩
  | false => exact ⟨hlines, hcache, hpart, Nat.zero_le _, hrest⟩

theorem Bounded.putReg (hb : Bounded h) (a : Nat) (w : Word) : Bounded (h.putReg a w) :=
  .ite (hb.of_sizes (by rfl)) (.ite (hb.setPps _) (.ite (hb.of_sizes (by rfl)) (.ite (hb.setCx w) (.ite (hb.rfTune w) (.ite (hb.of_sizes (by rfl))
    (.ite (hb.of_sizes (by rfl)) (.ite (hb.of_sizes (by rfl)) hb)))))))

theorem Bounded.putRegs (hb : Bounded h) (ws : List (Nat × Word)) : Bounded (h.putRegs ws) :=
  Bounded.foldl (fun _ w hh => hh.putReg w.1 w.2) ws hb

theorem Bounded.groupNow (hb : Bounded h) (gid : Nat) : Bounded (h.groupNow gid) := (hb.groupApply gid).putRegs _

theorem Bounded.clearReg (hb : Bounded h) (a : Nat) (w : Word) : Bounded (h.clearReg a w) := by
  unfold HostSide.clearReg
  refine .ite (hb.of_sizes (by rfl)) (.ite (hb.of_sizes (by rfl)) (.ite (hb.of_sizes (by rfl)) (.ite (hb.of_sizes (by rfl))
    (.ite (hb.of_sizes (by rfl))
    (.ite (hb.of_sizes (by rfl)) (.ite (hb.of_sizes (by rfl)) (.ite (hb.of_sizes (by rfl)) (.ite (hb.of_sizes (by rfl)) ?_))))))))
  split
  · exact .ite (hb.of_sizes (by rfl)) hb
  · split
    · exact hb.of_sizes (by rfl)
    · exact hb

/-- What a write stages on the radio leaves what the limits measure. -/
theorem Bounded.stageWr (r : Option Radio) (hr : ∀ x, r = some x → Bounded { h with radio := x }) (gid : Nat) (ap : Bool) :
    (h.stageWr r gid ap).Keeps Bounded := by
  cases r with
  | none => exact trivial
  | some r => cases ap <;> exact hr r rfl

theorem Bounded.stageCh (hb : Bounded h) (w : Word) : ∀ x, h.radio.stageCh w = some x → Bounded { h with radio := x } := by
  intro x hx
  obtain ⟨-, ⟨⟩⟩ := Option.ite_none_left_eq_some.mp hx
  exact hb.of_sizes (by rfl)

theorem Bounded.stagePhy (hb : Bounded h) (w : Word) : ∀ x, h.radio.stagePhy w = some x → Bounded { h with radio := x } := by
  intro x hx
  obtain ⟨-, ⟨⟩⟩ := Option.ite_none_left_eq_some.mp hx
  exact hb.of_sizes (by rfl)

theorem Bounded.stageFrm (hb : Bounded h) (w : Word) : ∀ x, h.radio.stageFrm w = some x → Bounded { h with radio := x } := by
  intro x hx
  obtain ⟨-, ⟨⟩⟩ := Option.ite_none_left_eq_some.mp hx
  exact hb.of_sizes (by rfl)

theorem Bounded.stagePa (hb : Bounded h) (w : Word) : ∀ x, h.radio.stagePa w = some x → Bounded { h with radio := x } := by
  intro x hx
  obtain ⟨-, ⟨⟩⟩ := Option.ite_none_left_eq_some.mp hx
  exact hb.of_sizes (by rfl)

theorem Bounded.writeReg (hb : Bounded h) (a : Nat) (w : Word) : (h.writeReg a w).Keeps Bounded := by
  have hpps (c : BitVec 16) : Bounded { h with pps := { h.pps with cnt := c } } := hb.of_sizes (by rfl)
  unfold HostSide.writeReg
  exact .ite trivial (.ite trivial (.ite (.ite hb trivial) (.ite (.ite trivial trivial) (.ite trivial (.ite (hpps _)
    (.ite (.ite trivial hb) (.ite (.ite trivial (.ite trivial hb)) (.ite (Bounded.stageWr _ (hb.stageCh w) _ _)
      (.ite (Bounded.stageWr _ (hb.stagePhy w) _ _)
      (.ite (Bounded.stageWr _ (hb.stageFrm w) _ _) (.ite (Bounded.stageWr _ (hb.stagePa w) _ _) (hb.clearReg a w))))))))))))

end

end Sys2Proof
end

section
/-! A line under the limits (15_command_line.md, 16_commands.md): what each text command, each access and the end of a line leave of the
invariant, on the host side and on the field side, which has nothing to tell before and after. -/

namespace Sys2Proof.Machine

theorem HostSide.domain_sizes (h : HostSide) (d : Nat) : (h.domain d).sizes = h.sizes := rfl

theorem HostSide.msgDomains_sizes (h : HostSide) : h.msgDomains.sizes = h.sizes := by
  simp only [HostSide.msgDomains, HostSide.domain_sizes]

theorem HostSide.ran_sizes (h : HostSide) : h.ran.sizes = h.sizes := by
  simp only [HostSide.ran, HostSide.domain_sizes]

/-- The part meets the invariant, and the queue `q` waits. -/
def State.Within (q : List Instr) (s : State) : Prop := Inv s ∧ s.pending = q

/-- A command leaves the part within its limits, whatever it answers. -/
def Stays (q : List Instr) (r : Lx × CmdRes) : Prop := r.1.s.Within q

section
variable {q : List Instr} {s : State} {l : Lx}

theorem State.Within.host (hs : s.Within q) {g : HostSide → HostSide} (hg : Bounded (g s.h)) : (s.host g).Within q :=
  ⟨⟨hg, hs.1.2⟩, hs.2⟩

/-- An update of the host side that measures the same. -/
theorem State.Within.same (hs : s.Within q) {g : HostSide → HostSide} (hg : (g s.h).sizes = s.h.sizes := by rfl) : (s.host g).Within q :=
  hs.host (hs.1.1.of_sizes hg)

theorem State.Within.ran (hs : s.Within q) : (s.host HostSide.ran).Within q := hs.same s.h.ran_sizes

theorem State.Within.field (hs : s.Within q) {f : Field} (hf : f.jobEv = s.f.jobEv) : State.Within q { s with f := f } :=
  ⟨⟨hs.1.1, hf.trans hs.1.2⟩, hs.2⟩

theorem State.Within.withField (hs : s.Within q) (f : Field) : (s.withField f).Within q :=
  ⟨s.withField_inv f hs.1, (s.withField_news f).2.2.trans hs.2⟩

theorem State.Within.ite {c : Prop} [Decidable c] {t : State} (hs : s.Within q) (ht : t.Within q) : State.Within q (if c then s else t) := by
  split
  · exact hs
  · exact ht

/-- What tells no news keeps them told. -/
theorem State.Within.news (hs : s.Within q) {t : State} (a : NewsOnly s t) : t.Within q :=
  ⟨⟨a.1.bounded hs.1.1, a.2.1.trans hs.1.2⟩, a.2.2.trans hs.2⟩

theorem Stays.refused {e : Nat} (hl : l.s.Within q) : Stays q (l.fail e) := hl

theorem Stays.guard {c : Prop} [Decidable c] {r : Lx × CmdRes} {e : Nat} (hl : l.s.Within q) (h : Stays q r) :
    Stays q (if c then l.fail e else r) := by
  split
  · exact hl
  · exact h

theorem Stays.thenDo {r : Lx × CmdRes} {g : Lx → Lx × CmdRes} (h : Stays q r) (hg : ∀ k : Lx, k.s.Within q → Stays q (g k)) :
    Stays q (thenDo r g) := by
  unfold Machine.thenDo
  split
  · exact h
  · exact h
  · exact hg _ h

/-! ### Accesses (R54, R55, R113) -/

/-- A write at its receipt tells the job slots nothing. -/
theorem Field.writeReg_jobEv (f : Field) (c : Clk) (a : Nat) (w : Word) : (f.writeReg c a w).1.jobEv = f.jobEv := by
  have htset : f.tsetGo.1.jobEv = f.jobEv := by
    unfold Field.tsetGo
    dsimp only
    split
    · rfl
    · split <;> rfl
  have halarm (n i : Nat) : (f.stageAlarm n i w).jobEv = f.jobEv := by
    unfold Field.stageAlarm
    split <;> rfl
  have hal (g : Field) (n : Nat) : (g.alApply n).1.jobEv = g.jobEv := by
    unfold Field.alApply
    split
    · rfl
    · dsimp only
      split <;> rfl
  have hprb (g : Field) (n : Nat) : (g.prbApply n).1.jobEv = g.jobEv := by
    unfold Field.prbApply
    dsimp only
    split <;> rfl
  unfold Field.writeReg
  split
  · rfl
  · split
    · split
      · exact htset
      · rfl
    · split
      · split <;> rfl
      · split
        · dsimp only
          split <;> rfl
        · split
          · split
            · rfl
            · dsimp only
              split
              · exact (hal _ _).trans (halarm _ _)
              · exact halarm _ _
          · split
            · dsimp only
              split
              · exact hprb _ _
              · rfl
            · split
              · dsimp only
                split <;> rfl
              · split <;> rfl

theorem Field.answerRead_jobEv (f : Field) (seq : BitVec 4) (a : Nat) : (f.answerRead seq a).1.jobEv = f.jobEv := by
  unfold Field.answerRead
  split
  · next w g h =>
    obtain ⟨v, -, hv⟩ := Option.map_eq_some_iff.mp h
    obtain ⟨-, rfl⟩ := Prod.mk.inj hv
    exact f.readChecks_jobEv a
  · rfl

theorem Field.answerWrite_jobEv (f : Field) (seq : BitVec 4) (a : Nat) (w : Word) : (f.answerWrite seq a w).1.jobEv = f.jobEv := by
  unfold Field.answerWrite
  dsimp only
  split
  · exact f.writeReg_jobEv f.clk a w
  · split
    · rfl
    · exact f.writeReg_jobEv f.clk a w

theorem Field.serve_jobEv (f : Field) (seq : BitVec 4) (x : Acc) : (f.serve seq x).1.jobEv = f.jobEv := by
  cases x with
  | read a => exact f.answerRead_jobEv seq a
  | write a w => exact f.answerWrite_jobEv seq a w
  | stClr m => rfl

theorem HostSide.copied_sizes (h : HostSide) (x : Acc) (e : Nat) : (h.copied x e).sizes = h.sizes := by
  unfold HostSide.copied
  split
  · split <;> rfl
  · rfl
  · rfl

theorem State.access_sizes (s : State) (x : Acc) : (s.access x).1.h.sizes = s.h.sizes :=
  (HostSide.copied_sizes { s.h.msgDomains with bar := { s.h.bar with nextSeq := s.h.bar.nextSeq + 1 } } x
    (resultOf (s.f.serve s.h.bar.nextSeq x).2).1).trans s.h.msgDomains_sizes

theorem State.access_jobEv (s : State) (x : Acc) : (s.access x).1.f.jobEv = s.f.jobEv := s.f.serve_jobEv s.h.bar.nextSeq x

theorem State.Within.served (hs : s.Within q) (x : Acc) : (s.access x).1.Within q :=
  ⟨⟨hs.1.1.of_sizes (s.access_sizes x), (s.access_jobEv x).trans hs.1.2⟩, hs.2⟩

theorem State.Within.access (hl : l.s.Within q) (x : Acc) : (l.access x).1.s.Within q := by
  unfold Lx.access
  split
  · exact hl
  · split
    · exact hl
    · split
      · exact hl.served x
      · exact hl

theorem State.Within.readWord (hl : l.s.Within q) (a : Nat) : Stays q (l.readWord a) := by
  unfold Lx.readWord
  dsimp only
  split <;> exact hl.access (.read a)

theorem State.Within.send (hl : l.s.Within q) (x : Acc) : Stays q (l.send x) := by
  unfold Lx.send
  dsimp only
  split <;> exact hl.access x

theorem State.Within.reads (hl : l.s.Within q) (as : List Nat) : Stays q (Lx.reads as l) := by
  induction as generalizing l with
  | nil => exact hl
  | cons a as ih => exact (hl.readWord a).thenDo fun k hk => ih hk

theorem State.Within.readSet (hl : l.s.Within q) {g : Lx → Bool → Lx × CmdRes} (hg : ∀ (k : Lx) b, k.s.Within q → Stays q (g k b)) :
    Stays q (l.readSet g) :=
  (hl.readWord _).thenDo fun _ hk => (hk.reads _).thenDo fun _ hm => (hm.readWord _).thenDo fun n hn => hg n _ hn

theorem State.Within.snapped (hl : l.s.Within q) {g : Lx → Lx × CmdRes} (hg : ∀ k : Lx, k.s.Within q → Stays q (g k)) :
    Stays q (l.snapped g) := by
  unfold Lx.snapped
  dsimp only
  split
  · exact hg l hl
  · refine hl.readSet fun k b hk => ?_
    split
    · exact hg _ hk
    · refine hk.readSet fun m b hm => ?_
      split
      · exact hg _ hm
      · exact hm

theorem State.Within.readField (hl : l.s.Within q) (a : Nat) : Stays q (l.readField a) := by
  unfold Lx.readField
  split
  · exact hl.snapped fun k hk => hk
  · exact hl.readWord a

theorem State.Within.query (hl : l.s.Within q) (as : List Nat) (g : Field → CmdRes) : Stays q (l.query as g) :=
  (hl.reads as).thenDo fun _ hk => hk

theorem State.Within.setField (hl : l.s.Within q) (a : Nat) (g : Word → Word) : Stays q (l.setField a g) :=
  (hl.readWord a).thenDo fun _ hk => hk.send _

theorem State.Within.writeAll (hl : l.s.Within q) (ws : List (Nat × Word)) : Stays q (l.writeAll ws) := by
  induction ws generalizing l with
  | nil => exact hl
  | cons e ws ih => exact (hl.send _).thenDo fun k hk => ih hk

/-! ### Groups, field commands, jobs -/

theorem State.Within.name (hl : l.s.Within q) (gid : Nat) : (l.name gid).s.Within q := by
  unfold Lx.name
  split <;> exact hl

theorem Stays.staged {r : Lx × CmdRes} (h : Stays q r) (gid : Nat) : Stays q (Lx.staged r gid) := h.thenDo fun _ hk => hk.name gid

theorem State.Within.applyGroup (hl : l.s.Within q) (gid : Nat) : Stays q (l.applyGroup gid) := by
  unfold Lx.applyGroup
  dsimp only
  split
  · exact hl.host (g := fun h => (h.groupApply gid).1) (hl.1.1.groupApply gid)
  · split
    · exact (hl.readWord _).thenDo fun k hk => hk.send _
    · exact hl.send _

theorem State.Within.fieldCmd (hl : l.s.Within q) (cmd : FieldCmd) : Stays q (l.fieldCmd cmd) :=
  .guard hl (hl.host (hl.1.1.send _ _ _))

theorem State.Within.fieldJob (hl : l.s.Within q) (cmd : FieldCmd) : Stays q (l.fieldJob cmd) := .guard hl (.guard hl (hl.fieldCmd cmd))

theorem State.Within.begin (hl : l.s.Within q) (kind : Nat) (lines : List Text) (info : JobInfo) : Stays q (l.begin kind lines info) := by
  unfold Lx.begin
  split
  · exact hl
  · next h i hjob => exact hl.host (g := fun _ => h) (hl.1.1.startJob hjob)

theorem State.Within.cancelJob (hs : s.Within q) (i : Nat) : (s.cancelJob i).Within q := by
  have hended {t : State} (ht : t.Within q) : (t.host fun h => h.endJob i 6 0).Within q := ht.host (ht.1.1.endJob _ _ _)
  unfold State.cancelJob
  dsimp only
  split
  · exact hended (hs.field rfl)
  · exact hended (hs.field rfl)
  · exact hended (hs.field rfl)
  · exact .ite (hs.withField _) (hended hs)
  · exact hended (hs.host (hs.1.1.rfCancel i))
  · exact hended (hs.host (hs.1.1.setCal _ _))
  · exact hended hs
  · exact hended hs

/-! ### Registers (R611, R612) -/

theorem State.Within.readReg (hl : l.s.Within q) (a : Nat) : Stays q (l.readReg a) := by
  unfold Lx.readReg
  split
  · exact hl.readField a
  · split
    · exact hl
    · have hdrawn : (if a = 0x0400 || a = 0x0418 then l.host HostSide.freeNext else l).s.Within q := by
        split
        · exact hl.same
        · exact hl
      exact hdrawn

theorem State.Within.readRegs (hl : l.s.Within q) (a n : Nat) : Stays q (l.readRegs a n) := by
  induction n generalizing l a with
  | zero => exact hl
  | succ n ih =>
    have hread := hl.readReg a
    unfold Lx.readRegs
    dsimp only
    split
    · have hrest := ih hread (a + 4)
      split
      · exact hrest
      · exact hrest
    · exact hread

theorem State.Within.cmdR (hl : l.s.Within q) (a : BitVec 16) (n : Nat) : Stays q (cmdR a n l) := by
  unfold Machine.cmdR
  refine .guard hl ?_
  split
  · exact hl.readReg _
  · exact hl.readRegs _ _

theorem State.Within.cmdStClr (hl : l.s.Within q) (m : Word) : Stays q (cmdStClr m l) := by
  unfold Machine.cmdStClr
  dsimp only
  split
  · exact hl.host (hl.1.1.clearBits m)
  · exact (hl.send _).thenDo fun k hk => hk.host (hk.1.1.clearBits m)

/-- `MODE` empties the tag cache (R551). -/
theorem State.Within.cmdMode (hl : l.s.Within q) (m : UMode) : Stays q (cmdMode m l) := by
  obtain ⟨⟨⟨hlines, -, hrest⟩, hnews⟩, hqueue⟩ := hl
  exact ⟨⟨⟨hlines, Nat.zero_le _, hrest⟩, hnews⟩, hqueue⟩

theorem State.Within.cmdBaud (hl : l.s.Within q) (b : Nat) : Stays q (cmdBaud b l) := .guard hl hl

theorem State.Within.cmdW (hl : l.s.Within q) (a : BitVec 16) (x : Word) : Stays q (cmdW a x l) := by
  unfold Machine.cmdW
  dsimp only
  split
  · refine .guard hl ?_
    have hwrite : Stays q (l.writeField a.toNat x) := hl.send _
    split
    · split <;> exact hwrite
    · exact hwrite
  · have hkeeps := hl.1.1.writeReg a.toNat x
    split
    · exact hl
    · exact hl
    · next h hw => rw [hw] at hkeeps; exact hl.host (g := fun _ => h) hkeeps
    · next h v hw => rw [hw] at hkeeps; exact hl.host (g := fun _ => h) hkeeps
    · exact hl.cmdBaud _
    · exact hl.cmdMode _
    · exact hl.cmdStClr _
    · next h g hw =>
      rw [hw] at hkeeps
      exact State.Within.applyGroup (l := { l with s := { l.s with h := h } }) (hl.host (g := fun _ => h) hkeeps) g

/-! ### Telemetry, status and jobs (Table 16-2) -/

theorem State.Within.cmdTel (hl : l.s.Within q) (g : Option TelGroup) : Stays q (cmdTel g l) := by
  cases g with
  | none => exact hl
  | some g => exact .guard hl (.guard hl ((hl.reads _).thenDo fun k hk => hk))

theorem State.Within.cmdTelClr (hl : l.s.Within q) (g : Option TelGroup) : Stays q (cmdTelClr g l) := by
  have hclear {h : HostSide} (hb : Bounded h) (g : TelGroup) : Bounded (h.telClr g) := by cases g <;> exact hb.of_sizes (by rfl)
  cases g with
  | none => exact hl
  | some g => exact .guard hl (.guard hl ((hl.writeAll _).thenDo fun k hk => hk.host (hclear hk.1.1 g)))

theorem State.Within.cmdJob (hl : l.s.Within q) (n : Option Nat) : Stays q (cmdJob n l) := by
  cases n with
  | none => exact hl
  | some n => exact .guard hl hl

theorem State.Within.cmdJobCancel (hl : l.s.Within q) (n : Nat) : Stays q (cmdJobCancel n l) := by
  unfold Machine.cmdJobCancel
  exact .guard hl (.guard hl (hl.cancelJob n))

theorem State.Within.cmdTestQuery (hl : l.s.Within q) : Stays q (cmdTestQuery l) := by
  unfold Machine.cmdTestQuery
  dsimp only
  split
  · exact hl
  · exact hl.query _ _

/-! ### Time and references (Table 16-4) -/

theorem State.Within.sendMark (hl : l.s.Within q) (src : Nat) (x : HStamp) (sec frac : Nat) : Stays q (l.sendMark src x sec frac) :=
  .guard hl (hl.host (hl.1.1.send _ _ _))

theorem State.Within.cmdTmark (hl : l.s.Within q) (a : TmarkArg) : Stays q (cmdTmark a l) := by
  refine .guard hl ?_
  cases a with
  | pps sec =>
    refine .guard hl ?_
    split
    · exact hl
    · exact .guard hl (State.Within.sendMark (hl.same (by simp [HostSide.sizes, labelFirst_length])) _ _ _ _)
  | rf id sec nano =>
    refine .guard hl ?_
    split
    · exact hl
    · exact hl.sendMark _ _ _ _

theorem State.Within.cmdRefSet (hl : l.s.Within q) (k : Option RefKey) (v : Nat) : Stays q (cmdRefSet k v l) := by
  refine .guard hl ?_
  cases k with
  | none => exact hl
  | some k =>
    cases k with
    | step => exact .guard hl (hl.send _)
    | ppsen | rfen | rank | leap | bw | rfint => exact .guard hl (hl.setField _ _)

theorem State.Within.cmdRefSetQuery (hl : l.s.Within q) (k : Option RefKey) : Stays q (cmdRefSetQuery k l) := by
  refine .guard hl ?_
  cases k with
  | none => exact hl
  | some k => exact hl.query _ _

/-! ### Alarms, outputs and KEEP (Table 16-7) -/

theorem State.Within.cmdAl (hl : l.s.Within q) (a : AlArg) : Stays q (cmdAl a l) := by
  refine .guard hl ?_
  cases a with
  | off n =>
    refine .guard hl ?_
    split
    · exact hl
    · exact Stays.staged ((hl.reads _).thenDo fun k hk => hk.writeAll _) _
  | set n h m s d y mo da acts =>
    refine .guard hl ?_
    split
    · exact hl
    · exact Stays.staged ((hl.reads _).thenDo fun k hk => hk.writeAll _) _

theorem State.Within.cmdTicker (hl : l.s.Within q) (a : TickerArg) : Stays q (cmdTicker a l) := by
  refine .guard hl ?_
  cases a with
  | off => exact hl.setField _ _
  | run n acts => exact .guard hl (hl.send _)

theorem State.Within.readKeep (hl : l.s.Within q) (n c : Nat) : Stays q (l.readKeep n c) := by
  induction c with
  | zero => exact hl
  | succ c ih => exact ih.thenDo fun k hk => hk.readField _

/-! ### Calibration, supply, radio and the Layout Table (Tables 16-10 to 16-13) -/

theorem State.Within.cmdCalRun (hl : l.s.Within q) (item : Option CalItem) (k : Option Nat) : Stays q (cmdCalRun item k l) := by
  cases item with
  | none => exact hl
  | some it =>
    cases it with
    | iq | pa => exact .guard hl (hl.begin _ _ _)
    | tdc | adc | xl | bar => exact hl.fieldJob _
    | ltab | synth => exact hl

theorem State.Within.cmdBatPlan (hl : l.s.Within q) (a : BatPlanArg) : Stays q (cmdBatPlan a l) := by
  refine .guard hl ?_
  cases a with
  | on | off => exact hl.setField _ _
  | plan m p => exact .guard hl (hl.setField _ _)

theorem State.Within.cmdRfState (hl : l.s.Within q) (g : RfTarget) : Stays q (cmdRfState g l) := by
  have hset : (l.s.host fun _ => (l.s.h.rfState g).1).Within q := hl.host (hl.1.1.rfState g)
  unfold Machine.cmdRfState
  dsimp only
  split <;> exact hset

theorem State.Within.stageRadio (hl : l.s.Within q) (r : Option Radio) (hr : ∀ x, r = some x → Bounded { l.s.h with radio := x }) (gid : Nat) :
    Stays q (l.stageRadio r gid) := by
  cases r with
  | none => exact hl
  | some r => exact State.Within.name (l := l.host fun h => { h with radio := r }) (hl.host (hr r rfl)) gid

theorem bufPuts_wf (o : Nat) (bs : List Byte) (ho : o + bs.length ≤ 2047) (buf : List (Nat × Byte)) (hbuf : bufWf buf = true) :
    bufWf (bs.zipIdx.foldl (fun b e => bufPut (o + e.2) e.1 b) buf) = true := by
  have hput (es : List (Byte × Nat)) (hes : ∀ e ∈ es, o + e.2 < 2047) (buf : List (Nat × Byte)) (hbuf : bufWf buf = true) :
      bufWf (es.foldl (fun b e => bufPut (o + e.2) e.1 b) buf) = true := by
    induction es generalizing buf with
    | nil => exact hbuf
    | cons e es ih =>
      exact ih (fun x hx => hes x (List.mem_cons_of_mem e hx)) _ (bufPut_wf (o + e.2) e.1 buf (hes e List.mem_cons_self) hbuf)
  refine hput _ (fun e he => ?_) buf hbuf
  have hlt := List.snd_lt_of_mem_zipIdx he
  omega

/-- `RF.BUF` writes within the 2047 octets of the transmit buffer (R608). -/
theorem State.Within.cmdRfBuf (hl : l.s.Within q) (o : Nat) (bs : List Byte) : Stays q (cmdRfBuf o bs l) := by
  unfold Machine.cmdRfBuf
  split
  · exact hl
  · next hrange =>
    refine .guard hl ?_
    simp only [Bool.or_eq_true, decide_eq_true_eq, not_or, not_lt] at hrange
    obtain ⟨⟨⟨hlines, hcache, hpart, hstamps, hcount, hoctets, hresults, hbuf⟩, hnews⟩, hqueue⟩ := hl
    exact ⟨⟨⟨hlines, hcache, hpart, hstamps, hcount, hoctets, hresults, bufPuts_wf o bs hrange.2 _ hbuf⟩, hnews⟩, hqueue⟩

theorem State.Within.cmdRfTx (hl : l.s.Within q) (p : List Byte) : Stays q (cmdRfTx p l) :=
  .guard hl (.guard hl (.guard hl (hl.host (hl.1.1.newTx p none))))

theorem State.Within.cmdRfTxj (hl : l.s.Within q) (len : Nat) : Stays q (cmdRfTxj len l) := by
  refine .guard hl (.guard hl (.guard hl ?_))
  split
  · exact hl
  · next h i hjob => exact hl.host (g := fun _ => { h with radio := h.radio.newTx _ _ }) ((hl.1.1.startJob hjob).newTx _ _)

theorem State.Within.cmdRftx (hl : l.s.Within q) (n : Nat) : Stays q (cmdRftx n l) := by
  unfold Machine.cmdRftx
  split <;> exact hl

theorem State.Within.cmdRfqPop (hl : l.s.Within q) (id : Nat) : Stays q (cmdRfqPop id l) := by
  unfold Machine.cmdRfqPop
  split
  · next p rest hq =>
    split
    · obtain ⟨⟨⟨hlines, hcache, hpart, hstamps, hcount, hoctets, hresults, hbuf⟩, hnews⟩, hqueue⟩ := hl
      rw [hq, List.length_cons] at hcount
      rw [Radio.octets, hq, List.map_cons, List.sum_cons] at hoctets
      exact ⟨⟨⟨hlines, hcache, hpart, hstamps, Nat.le_of_succ_le hcount,
        (Nat.le_add_left _ _).trans hoctets, hresults, hbuf⟩, hnews⟩, hqueue⟩
    · exact hl
  · exact hl

theorem State.Within.cmdDescList (hl : l.s.Within q) (ty : Option Nat) : Stays q (cmdDescList ty l) := by
  cases ty with
  | none => exact .guard hl hl
  | some n => exact .guard hl (.guard hl hl)

/-! ### Every text command -/

/-- A text command leaves the part within its limits. -/
theorem State.Within.runCmd (hl : l.s.Within q) (i : Instr) : Stays q (runCmd i l) := by
  cases i with
  | registerWrite a x => exact hl.cmdW a x
  | registerRead a n => exact hl.cmdR a n
  | idQuery | modeQuery | uartBaudQuery | resetHost | stQuery | ppsQuery | rfQuery | rfqQuery => exact hl
  | mode m => exact hl.cmdMode m
  | uartBaud b => exact hl.cmdBaud b
  | stClr m => exact hl.cmdStClr m
  | jobQuery n => exact hl.cmdJob n
  | jobPartQuery | descQuery => exact .guard hl (.guard hl (.guard hl hl))
  | jobCancel n => exact hl.cmdJobCancel n
  | test | testForce => exact .guard hl (.guard hl (hl.fieldJob _))
  | testQuery => exact hl.cmdTestQuery
  | telQuery g => exact hl.cmdTel g
  | telClr g => exact hl.cmdTelClr g
  | timeQuery | stampQuery => exact hl.snapped fun _ hk => hk
  | time => exact .guard hl (.guard hl (Stays.staged (hl.writeAll _) _))
  | localOfs | perCfg | tCfg => exact .guard hl (.guard hl (Stays.staged (hl.send _) _))
  | localQuery | refQuery | rateQuery | trimQuery | rateEnQuery | ponQuery | jQuery | sealQuery | calQuery | calSaveQuery | supQuery =>
    exact hl.query _ _
  | tmark a => exact hl.cmdTmark a
  | pps => exact .guard hl hl
  | refSet k v => exact hl.cmdRefSet k v
  | refSetQuery k => exact hl.cmdRefSetQuery k
  | trim | rateEn | pon | evOff | tPlan | supVsw | supBatlow => exact .guard hl (.guard hl (hl.setField _ _))
  | al a => exact hl.cmdAl a
  | alQuery | perQuery | evCfgQuery => exact .guard hl (.guard hl (hl.query _ _))
  | perEvt | evCfg | tOfs | tLead => exact .guard hl (.guard hl (hl.send _))
  | ticker a => exact hl.cmdTicker a
  | ponRel | jPolicy => exact hl.send _
  | perTh | keep => exact .guard hl (.guard hl (hl.writeAll _))
  | keepQuery n c => exact .guard hl (.guard hl ((hl.readKeep n c).thenDo fun _ hk => hk))
  | tripOpen | tripClose | keepSave | keepLoad | tSnap | calLoad | calLoadGo | calCommit => exact hl.fieldCmd _
  | evQuery | tQuery | note | sealKey => exact .guard hl (.guard hl (hl.fieldCmd _))
  | jExport | jVerify | jErase => exact hl.fieldJob _
  | calRun item k => exact hl.cmdCalRun item k
  | batPlan a => exact hl.cmdBatPlan a
  | rfState g => exact hl.cmdRfState g
  | rfCh => exact .guard hl (hl.stageRadio _ (hl.1.1.stageCh _) _)
  | rfMode => exact .guard hl (hl.stageRadio _ (hl.1.1.stagePhy _) _)
  | rfFrame => exact .guard hl (hl.stageRadio _ (hl.1.1.stageFrm _) _)
  | rfPwr => exact .guard hl (hl.stageRadio _ (hl.1.1.stagePa _) _)
  | rfCx => exact .guard hl (.guard hl (hl.host (hl.1.1.setCx _)))
  | rfTx p => exact hl.cmdRfTx p
  | rftxQuery n => exact hl.cmdRftx n
  | rfBuf o bs => exact hl.cmdRfBuf o bs
  | rfTxj n => exact hl.cmdRfTxj n
  | rfqPop n => exact hl.cmdRfqPop n
  | descListQuery ty => exact hl.cmdDescList ty
  | descDump => exact .guard hl (hl.begin _ _ _)
  | _ => exact hl

theorem State.Within.command (hl : l.s.Within q) (p : Parsed) : Stays q (l.command p) := by
  cases p with
  | cmd i => exact hl.runCmd i
  | range side => cases side <;> exact hl

/-! ### The line to its end (R556 to R559, R564) -/

theorem State.Within.hold (hl : l.s.Within q) (x : Acc) : (l.hold x).s.Within q := hl.host (hl.1.1.send _ _ _)

theorem State.Within.absorb (hl : l.s.Within q) (r : CmdRes) : (l.absorb r).s.Within q := by
  cases r with
  | ask x => exact State.Within.hold (l := l.fresh) hl x
  | ok | val | block | err | wait => exact hl

theorem State.Within.applyGroups (hl : l.s.Within q) (gs : List (Nat × Nat)) : (Lx.applyGroups gs l).s.Within q := by
  induction gs generalizing l with
  | nil => exact hl
  | cons e gs ih =>
    have happly : (l.applyGroup e.1).1.s.Within q := hl.applyGroup e.1
    unfold Lx.applyGroups
    dsimp only
    split
    · exact State.Within.hold (l := { (l.applyGroup e.1).1 with c := _ }) happly _
    · exact ih happly
    · exact ih happly

theorem State.Within.runRest (hl : l.s.Within q) (ps : List Parsed) : (Lx.runRest ps l).s.Within q := by
  induction ps generalizing l with
  | nil => exact State.Within.applyGroups (l := { l with c := { l.c with rest := [] } }) hl _
  | cons p ps ih =>
    have hcommand : (Lx.command { l with c := { l.c with rest := ps, k := l.c.k + 1 } } p).1.s.Within q :=
      State.Within.command (l := { l with c := { l.c with rest := ps, k := l.c.k + 1 } }) hl p
    unfold Lx.runRest
    dsimp only
    split
    · exact State.Within.hold (l := { (Lx.command _ p).1 with c := _ }) hcommand _
    · split
      · exact hcommand.absorb _
      · exact ih (hcommand.absorb _)

/-- The response of a line changes the cache's entries, not their number (R547, R550). -/
theorem HostSide.answer_sizes (h : HostSide) (tag : Option Text) (body : Text) (resp : List Text) (a : TxAfter) :
    (h.answer tag body resp a).sizes = h.sizes := by
  have hlines : ((h.respond tag false resp a).line.cached tag body resp).lines = h.line.lines := by
    unfold LineSt.cached
    split <;> rfl
  have hcache : ((h.respond tag false resp a).line.cached tag body resp).cache.length = h.line.cache.length :=
    LineSt.cached_cache _ tag body resp
  simp only [HostSide.sizes, HostSide.answer, hlines, hcache]
  rfl

theorem State.Within.finish (hl : l.s.Within q) : l.finish.Within q :=
  hl.host (g := fun _ => l.finish.h) ((hl.1.1.putRegs l.c.writes).of_sizes (HostSide.answer_sizes _ _ _ _ _))

theorem State.Within.settle (hl : l.s.Within q) : l.settle.Within q := by
  unfold Lx.settle
  split
  · exact hl.host (g := fun h => { h with line := { h.line with cur := some l.c } }) (hl.1.1.of_sizes (by rfl))
  · exact hl.finish

theorem State.Within.resumeWith (hs : s.Within q) {g : Lx → Lx × CmdRes} (hg : ∀ k : Lx, k.s.Within q → Stays q (g k)) :
    (s.resumeWith g).Within q := by
  unfold State.resumeWith
  split
  · exact hs
  · next c _ =>
    have habsorbed := State.Within.absorb (hg ⟨s.host HostSide.ran, { c with wait := none }⟩ hs.ran)
      (g ⟨s.host HostSide.ran, { c with wait := none }⟩).2
    dsimp only
    split
    · exact habsorbed.settle
    · exact (habsorbed.runRest _).settle

theorem State.Within.resume (hs : s.Within q) (r : CmdRes) : (s.resume r).Within q := hs.resumeWith fun _ hk => hk

theorem State.Within.answered (hs : s.Within q) (r : Nat × Word) : (s.answered r).Within q := by
  unfold State.answered
  split
  · exact hs
  · next c _ =>
    exact (State.Within.runRest (l := ⟨s.host HostSide.ran, { c with wait := none, ans := c.ans ++ [r] }⟩) hs.ran _).settle

theorem State.Within.startLine (hs : s.Within q) (x : HLine) (place : Nat) : (s.startLine x place).Within q := by
  have hran : (s.host HostSide.ran).Within q := hs.ran
  unfold State.startLine
  dsimp only
  split
  · exact hran.same
  · split
    · exact hran.same (HostSide.answer_sizes _ _ _ _ _)
    · exact (State.Within.runRest (l := ⟨_, x.cur place⟩)
        (hran.same (g := fun h => { h with line := { h.line with cur := some (x.cur place) } })) _).settle

/-- A line leaves the buffer as it starts (R53). -/
theorem State.Within.runLines (hs : s.Within q) (n : Nat) : (s.runLines n).Within q := by
  induction n generalizing s with
  | zero => exact hs
  | succ n ih =>
    unfold State.runLines
    split
    · exact hs
    · split
      · exact hs
      · next x rest hlines =>
        split
        · exact hs
        · have hpopped : (s.host fun h => { h with line := { h.line with lines := rest } }).Within q := by
            obtain ⟨⟨⟨hcount, hb⟩, hnews⟩, hqueue⟩ := hs
            rw [hlines, List.length_cons] at hcount
            exact ⟨⟨⟨Nat.le_of_succ_le hcount, hb⟩, hnews⟩, hqueue⟩
          exact ih (hpopped.startLine x _)

end

end Sys2Proof.Machine
end

section
/-! What is received and what the barrier brings under the limits (R534, R547, R553, 04_barrier.md): bytes and lines, messages and their answers,
the link as a whole. -/

namespace Sys2Proof

open Sys2Proof.Machine

section
variable {h : HostSide}

/-! ### A line arrives (R534, R547, R553) -/

theorem Bounded.enqueue (hb : Bounded h) (hroom : h.line.lines.length < 8) (x : HLine) : Bounded (h.enqueue x) := h.enqueue_bounded x hb hroom

theorem Bounded.lineFull (hb : Bounded h) (tag : Option Text) : Bounded (h.lineFull tag) := .ite (hb.of_sizes (by rfl)) (hb.of_sizes (by rfl))

theorem Bounded.takeLine (hb : Bounded h) (t : Text) (long bad late : Bool) : Bounded (h.takeLine t long bad late) := by
  unfold HostSide.takeLine
  extract_lets x tag body uart p line put
  split
  · exact hb.lineFull _
  · next hfull =>
    have hroom : h.line.lines.length < 8 := Nat.lt_of_not_le hfull
    split
    · extract_lets k
      unfold k
      split
      · exact Bounded.enqueue (h := { h with uart := { h.uart with chk := satAdd h.uart.chk 1 } }) (hb.of_sizes (by rfl)) hroom _
      · exact hb.enqueue hroom _
    · have hput {k : HostSide} (hk : Bounded k) (hkroom : k.line.lines.length < 8) : Bounded (put k line) := by
        unfold put
        split
        · exact Bounded.enqueue (h := k.passed) (hk.of_sizes (by rfl)) hkroom line
        · exact hk.enqueue hkroom line
      clear_value put line tag
      split
      · exact hput hb hroom
      · split
        · refine hput ?_ hroom
          obtain ⟨hlines, hcache, hrest⟩ := hb
          exact ⟨hlines, h.line.accept_cache _ _ hcache, hrest⟩
        · split
          · exact Bounded.enqueue (h := h.passed) (hb.of_sizes (by rfl)) hroom _
          · exact hb.enqueue hroom _

/-! ### Bytes (R533 to R536, R575 to R577) -/

theorem Bounded.echo (hb : Bounded h) (t : Text) : Bounded (h.echo t) := .ite (hb.of_sizes (by rfl)) hb
theorem Bounded.prompt (hb : Bounded h) : Bounded h.prompt := .ite (hb.of_sizes (by rfl)) hb

/-- An update of the UART that leaves at most as much of the partial line. -/
theorem Bounded.partialLine (hb : Bounded h) {u : Uart} (hu : u.buf.length ≤ 240) : Bounded { h with uart := u } := by
  obtain ⟨hlines, hcache, -, hrest⟩ := hb
  exact ⟨hlines, hcache, hu, hrest⟩

theorem Bounded.uartActive (hb : Bounded h) : Bounded h.uartActive := hb.of_sizes (by rfl)

theorem Bounded.terminator (hb : Bounded h) (t : Byte) (late : Bool) : Bounded (h.terminator t late) := by
  have hactive := hb.uartActive
  unfold HostSide.terminator
  dsimp only
  refine .ite (hactive.of_sizes (by rfl)) (.ite (hactive.partialLine (Nat.zero_le _)) (.ite (hactive.of_sizes (by rfl)) ?_))
  have hended (c : Bool) : Bounded { h.uartActive with uart := { h.uartActive.uart.fresh with lastCr := c } } :=
    hactive.partialLine (Nat.zero_le _)
  exact .ite ((hended _).echo _).prompt (((hended _).echo _).takeLine _ _ _ _)

theorem Bounded.byte (hb : Bounded h) (b : Byte) (framing : Bool) : Bounded (h.byte b framing) := by
  have hactive := hb.uartActive
  have hpart : h.uartActive.uart.buf.length ≤ 240 := hb.2.2.1
  unfold HostSide.byte
  dsimp only
  refine .ite (hactive.of_sizes (by rfl)) (.ite (hactive.of_sizes (by rfl)) (.ite (hactive.of_sizes (by rfl)) (.ite ?_
    (.ite ?_ (.ite ?_ (hactive.of_sizes (by rfl)))))))
  · have hcut (u : Uart) (hu : u.buf = h.uartActive.uart.buf.dropLast) : Bounded { h.uartActive with uart := u } :=
      hactive.partialLine (by rw [hu, List.length_dropLast]; omega)
    exact .ite (hcut _ rfl) ((hcut _ rfl).echo _)
  · exact Bounded.prompt (Bounded.echo (hactive.partialLine (Nat.zero_le _)) _)
  · split
    · next hroom => exact Bounded.echo (hactive.partialLine (by simpa using hroom)) _
    · exact hactive.of_sizes (by rfl)

/-! ### The link (04_barrier.md section 7) -/

theorem Bounded.mapStamps (hb : Bounded h) (g : HStamp → HStamp) : Bounded (h.mapStamps g) :=
  hb.of_sizes (by simp [HostSide.sizes, HostSide.mapStamps, Function.comp_def])

theorem Bounded.relinkStamps (hb : Bounded h) (t : Training) (new : Nat) : Bounded (h.relinkStamps t new) := by
  unfold HostSide.relinkStamps
  split
  · exact hb
  · exact hb.mapStamps _

theorem Bounded.linkUp (hb : Bounded h) (t : Training) (new : Nat) : Bounded (h.linkUp t new) := by
  unfold HostSide.linkUp
  extract_lets g bar pon k sent
  have hk : Bounded k := (hb.relinkStamps t new).of_sizes (by rfl)
  have hsent : Bounded sent := Bounded.foldl (fun _ _ hh => hh.send _ _ _) _ hk
  exact Bounded.notice (hsent.of_sizes (by rfl)) _

theorem Bounded.tickTaken (hb : Bounded h) (d : TickDoes) (seq : BitVec 4) (ovr : Nat) : Bounded (h.tickTaken d seq ovr) := by
  cases d with
  | stays | begins | restarts | fails => exact hb.of_sizes (by rfl)
  | lost => exact hb
  | trains t =>
    have htrain : Bounded { h with bar := { h.bar with train := some t } } := hb.of_sizes (by rfl)
    exact .ite ((htrain.send _ _ _).send _ _ _) htrain
  | links t new => exact hb.linkUp t new

/-! ### Tests and starts (05_startup.md, 14_inservice_test.md) -/

theorem Bounded.sendFail (hb : Bounded h) (code idx : Nat) (m l : Int) : Bounded (h.sendFail code idx m l) :=
  .ite (hb.send _ _ _) (hb.of_sizes (by rfl))

theorem Bounded.runTest (hb : Bounded h) (pos : Nat) (forced applicable pass : Bool) (m l : Int) :
    Bounded (h.runTest pos forced applicable pass m l).1 := by
  unfold HostSide.runTest
  extract_lets x verdict r g k
  have hg : Bounded g := hb.of_sizes (by rfl)
  have hk : Bounded k := .ite (hg.setBit _) hg
  exact .ite (hk.sendFail _ _ _ _) hk

/-- A host side that has started, or is held, holds nothing (R22, R156). -/
theorem Bounded.started (vhost : Bool) (ctr : Nat) : Bounded (hostStarted vhost ctr) :=
  ⟨Nat.zero_le _, Nat.zero_le _, Nat.zero_le _, Nat.zero_le _, Nat.zero_le _, Nat.zero_le _, Nat.zero_le _, rfl⟩

theorem Bounded.held (power nrst vhostOk offer : Bool) (ctr : Nat) : Bounded (hostHeld power nrst vhostOk offer ctr) :=
  ⟨Nat.zero_le _, Nat.zero_le _, Nat.zero_le _, Nat.zero_le _, Nat.zero_le _, Nat.zero_le _, Nat.zero_le _, rfl⟩

end

end Sys2Proof

namespace Sys2Proof.Machine

section
variable {q : List Instr} {s : State}

/-! ### A text command as a row -/

theorem State.Within.textCmd (hs : s.Within q) (i : Instr) : (s.textCmd i).Within q := by
  unfold State.textCmd
  split
  · exact hs
  · dsimp only
    split
    · refine hs.host ?_
      split
      · exact hs.1.1.lineFull none
      · next hfull => exact hs.1.1.enqueue (Nat.lt_of_not_le hfull) _
    · exact hs.startLine _ 0

/-! ### Messages (R109 to R119) -/

theorem State.Within.toField (hs : s.Within q) (ty : MsgType) (seq : BitVec 4) (run : Field → Field × Txn) :
    (s.toField ty seq run).Within q := by
  have hgone : (s.host fun h => (h.took ty seq).msgDomains).Within q := hs.same (s.h.took ty seq).msgDomains_sizes
  exact .ite (hgone.withField _) hgone

theorem State.Within.atField (hs : s.Within q) (ty : MsgType) (seq : BitVec 4) (run : Field → Field) : (s.atField ty seq run).Within q := by
  have hgone : (s.host fun h => (h.took ty seq).msgDomains).Within q := hs.same (s.h.took ty seq).msgDomains_sizes
  exact .ite (hgone.withField _) hgone

theorem State.Within.atHost (hs : s.Within q) (ty : MsgType) (seq : BitVec 4) {run : State → State}
    (hrun : ∀ t : State, t.Within q → (run t).Within q) : (s.atHost ty seq run).Within q := by
  have htaken : State.Within q { s with f := s.f.took ty seq } := hs.field rfl
  exact .ite (hrun _ (htaken.same (HostSide.msgDomains_sizes _))) htaken

theorem State.Within.launch (hs : s.Within q) (t : Txn) : (s.host fun h => h.launch t).Within q := hs.host (hs.1.1.launch t)

theorem State.Within.toHost (hs : s.Within q) (ty : MsgType) (seq : BitVec 4) {run : State → State}
    (hrun : ∀ t : State, t.Within q → (run t).Within q) : (s.toHost ty seq run).Within q := by
  refine hs.atHost ty seq fun t ht => ?_
  dsimp only
  split
  · exact ht.host (Bounded.launch (ht.1.1.of_sizes (by rfl)) _)
  · exact (hrun t ht).host (Bounded.launch ((hrun t ht).1.1.of_sizes (by rfl)) _)

theorem State.Within.malformed (hs : s.Within q) (ty : MsgType) (seq : BitVec 4) : (s.malformed ty seq).Within q :=
  hs.atHost ty seq fun _ ht => ht.launch _

theorem State.Within.discarded (hs : s.Within q) (lane : Lane) (a : Txn) : (s.discarded lane a).Within q := by
  have hheard : (s.host HostSide.msgDomains).Within q := hs.same s.h.msgDomains_sizes
  cases lane with
  | fh => exact .ite (hs.host (Bounded.launch (hs.1.1.of_sizes s.h.msgDomains_sizes) _)) hs
  | hf => exact .ite hheard (hheard.withField _)

/-! ### The line that waits for an answer (R557, R581) -/

theorem State.Within.failLine (hs : s.Within q) (e : Nat) : (s.failLine e).Within q := by
  unfold State.failLine
  split
  · exact hs.answered _
  · exact hs.resume _

theorem State.Within.linkDown (hs : s.Within q) : s.linkDown.Within q := by
  unfold State.linkDown
  split
  · exact hs
  · extract_lets h mir b k t
    have hk : Bounded k := hs.1.1.of_sizes (by rfl)
    have ht : t.Within q := hs.host (g := fun _ => t.h) ((hk.jobs k.failFieldJobs_jobsOnly).notice _)
    exact .ite (ht.failLine 60) ht

theorem State.Within.tick (hs : s.Within q) (seq : BitVec 4) (ovr : BitVec 18) (dly : BitVec 14) : (s.tick seq ovr dly).Within q := by
  have htaken {t : State} (ht : t.Within q) (train : Bool) (d : TickDoes) :
      (t.host fun h => ((h.sendEcho seq train).tickTaken d seq ovr.toNat).ticked).Within q :=
    ht.host ((Bounded.tickTaken (h := t.h.sendEcho seq train) (ht.1.1.of_sizes (by rfl)) d seq ovr.toNat).of_sizes (by rfl))
  unfold State.tick
  dsimp only
  refine htaken ?_ _ _
  split
  · exact hs.linkDown
  · exact hs

theorem State.Within.failWaiting (hs : s.Within q) (cmd : Option FieldCmd) (e : Nat) : (s.failWaiting cmd e).Within q := by
  unfold State.failWaiting
  split
  · exact .ite (hs.resume _) hs
  · exact hs

theorem State.Within.failJreq (hs : s.Within q) (ws : List Word) (e : Nat) : (s.failJreq ws e).Within q := by
  unfold State.failJreq
  dsimp only
  split
  · exact hs
  · next i _ _ => exact State.Within.field (s := s.host fun h => h.endJob i 5 e) (hs.host (hs.1.1.endJob i 5 e)) rfl

theorem State.Within.hostTxnFails (hs : s.Within q) (t : Txn) (e : Nat) : (s.hostTxnFails t e).Within q := by
  unfold State.hostTxnFails
  split
  · exact hs.failWaiting _ _
  · exact .ite (hs.resume _) hs
  · exact hs.failJreq _ _
  · exact .ite hs.same (.ite (hs.answered _) hs)
  · exact .ite (hs.answered _) hs
  all_goals exact hs

theorem State.Within.pumpNext (hs : s.Within q) : (s.host HostSide.pumpNext).Within q := hs.host (Bounded.pump (hs.1.1.of_sizes (by rfl)))

theorem State.Within.hostRetry (hs : s.Within q) : s.hostRetry.Within q := by
  unfold State.hostRetry
  split
  · exact hs
  · refine .ite (hs.host ?_) (hs.pumpNext.hostTxnFails _ _)
    exact .ite (Bounded.launch (hs.1.1.of_sizes (by rfl)) _) (hs.1.1.of_sizes (by rfl))

theorem State.Within.gotEvt (hs : s.Within q) (t : Text) : (s.gotEvt t).Within q := by
  unfold State.gotEvt
  split
  · exact hs.resumeWith fun _ hk => hk
  · exact hs

/-- What a field command answers once its `RSPX` has come. -/
theorem State.Within.rspx {l : Lx} (hl : l.s.Within q) (cmd : FieldCmd) (e : Nat) (ws : List Word) : Stays q (l.answered cmd e ws) := by
  refine .guard hl ?_
  cases cmd with
  | evq n =>
    dsimp only
    split <;> exact hl
  | jExport | jVerify | jErase | calRun | test => exact hl.begin _ _ _
  | tq | snap | tripOpen | tripClose | keepSave | keepLoad | note | sealKey | calLoad | calLoadGo | calCommit | testFail => exact hl

theorem State.Within.gotRspx (hs : s.Within q) (w0 : Word) (data : List Word) : (s.gotRspx w0 data).Within q := by
  unfold State.gotRspx
  split
  · exact .ite (hs.resumeWith fun _ hk => hk.rspx _ _ _) hs
  · exact hs

theorem State.Within.gotJdat (hs : s.Within q) (w0 w1 : Word) (data : List Word) : (s.gotJdat w0 w1 data).Within q := by
  unfold State.gotJdat
  dsimp only
  split
  · exact hs
  · exact hs.host (hs.1.1.putJob _ _)

theorem State.Within.gotAnswer (hs : s.Within q) (t : Txn) (w : Word) : (s.gotAnswer t w).Within q := by
  have hgot (a : Nat) : Bounded (s.h.gotReg a w) :=
      .ite (hs.1.1.of_sizes (by rfl)) (.ite (hs.1.1.of_sizes (by rfl)) (.ite (hs.1.1.of_sizes (by rfl)) hs.1.1))
  exact .ite (State.Within.answered (hs.same (HostSide.copied_sizes _ _ _)) _) (.ite (hs.host (hgot _)) hs)

theorem State.Within.acked (hs : s.Within q) (t : Txn) : (s.acked t).Within q := by
  unfold State.acked
  split
  · exact .ite (hs.resume _) hs
  · exact .ite hs.same hs
  · exact hs.gotAnswer _ _
  · exact hs

/-- A step of the radio, whose host side runs. -/
theorem State.Within.radioStep (hs : s.Within q) {g : HostSide → HostSide} (hg : Bounded (g s.h)) : (s.radioStep g).Within q :=
  .ite (hs.host hg) hs

theorem State.Within.radioAnswer (hs : s.Within q) (r : CmdRes) : (s.radioAnswer r).Within q := .ite (hs.resume r) hs

end

end Sys2Proof.Machine
end

section
/-! The invariant of the part (R534, R547, R553, R593, R608, R662, R668): the rows of both sides, the step, the state after reset. -/

namespace Sys2Proof.Machine

section
variable {q : List Instr} {s : State}

/-! ### Rows of the barrier (04_barrier.md) -/

theorem State.Within.answerTimeout (hs : s.Within q) (side : Side) : ∃ t, exec (.answerTimeout side) s = .next t ∧ t.Within q := by
  refine ⟨_, rfl, ?_⟩
  cases side with
  | host =>
    dsimp only
    split
    · exact .ite hs.hostRetry hs
    · exact hs
  | field =>
    dsimp only
    split
    · exact .ite (hs.withField _) hs
    · exact hs

theorem State.Within.holdWaitTimeout (hs : s.Within q) (side : Side) : ∃ t, exec (.holdWaitTimeout side) s = .next t ∧ t.Within q := by
  refine ⟨_, rfl, ?_⟩
  cases side with
  | host =>
    dsimp only
    split
    · exact .ite hs.hostRetry hs
    · exact hs
  | field =>
    dsimp only
    split
    · exact .ite (hs.withField _) hs
    · exact hs

theorem State.Within.ackReceive (hs : s.Within q) (lane : Lane) (seq atype : BitVec 4) :
    ∃ t, exec (.ackReceive lane seq atype) s = .next t ∧ t.Within q := by
  refine ⟨_, rfl, ?_⟩
  cases lane with
  | fh =>
    refine hs.atHost _ _ fun t ht => ?_
    split
    · exact ht.pumpNext.acked _
    · exact ht
  | hf => exact hs.atField _ _ _

theorem State.Within.nakReceive (hs : s.Within q) (lane : Lane) (seq atype : BitVec 4) (reason : Byte) :
    ∃ t, exec (.nakReceive lane seq atype reason) s = .next t ∧ t.Within q := by
  refine ⟨_, rfl, ?_⟩
  cases lane with
  | fh =>
    refine hs.atHost _ _ fun t ht => ?_
    dsimp only
    split
    · exact ht
    · have hdrawn : State.Within q (if nakOpen reason.toNat then t.host HostSide.freeNext else t) := .ite ht.same ht
      split
      · exact hdrawn.hostRetry
      · exact hdrawn.same
      · exact hdrawn.pumpNext.hostTxnFails _ _
  | hf => exact hs.atField _ _ _

theorem State.Within.loopReceive (hs : s.Within q) (lane : Lane) (idx : BitVec 4) (ret : Bool) (pattern : BitVec 31) :
    ∃ t, exec (.loopReceive lane idx ret pattern) s = .next t ∧ t.Within q := by
  refine ⟨_, rfl, ?_⟩
  cases lane with
  | fh => exact hs.atHost _ _ fun t ht => .ite ht (ht.launch _)
  | hf => exact hs.atField _ _ _

theorem State.Within.idleReceive (hs : s.Within q) (lane : Lane) : ∃ t, exec (.idleReceive lane) s = .next t ∧ t.Within q := by
  refine ⟨_, rfl, ?_⟩
  cases lane with
  | fh => exact hs.atHost _ _ fun _ ht => ht
  | hf => exact hs.atField _ _ _

theorem State.Within.wakeReceive (hs : s.Within q) (seq : BitVec 4) (w0 : Word) :
    ∃ t, exec (.wakeReceive seq w0) s = .next t ∧ t.Within q := by
  refine ⟨_, rfl, hs.toHost _ _ fun t ht => ht.host ?_⟩
  have hdriven : Bounded { t.h with pon := t.h.pon.wake (bitOf w0 27) (bitOf w0 26) } := ht.1.1.of_sizes (by rfl)
  exact .ite (hdriven.attn _) hdriven

theorem State.Within.heldNak (hs : s.Within q) (hk : Bool) (ty : MsgType) (seq : BitVec 4) :
    State.Within q { s with f := if s.f.runs then s.f.heldNak hk ty seq else s.f } := by
  refine hs.field ?_
  unfold Field.heldNak
  split
  · split <;> rfl
  · rfl

theorem State.Within.messageCrcFail (hs : s.Within q) (lane : Lane) : ∃ t, exec (.messageCrcFail lane) s = .next t ∧ t.Within q := by
  refine ⟨_, rfl, ?_⟩
  cases lane with
  | fh =>
    have hdropped : State.Within q { s with f := { s.f with bar := { s.f.bar with lane := s.f.bar.lane.drop 1 } } } := hs.field rfl
    exact .ite (hdropped.host (hs.1.1.of_sizes s.h.msgDomains_sizes)) hdropped
  | hf =>
    have hdropped : (s.host fun h => { h.msgDomains with bar := { h.bar with lane := h.bar.lane.drop 1 } }).Within q :=
      hs.same s.h.msgDomains_sizes
    exact .ite (hdropped.field rfl) hdropped

theorem State.Within.transactionWordLate (hs : s.Within q) (lane : Lane) (atype seq : BitVec 4) :
    ∃ t, exec (.transactionWordLate lane atype seq) s = .next t ∧ t.Within q := by
  refine ⟨_, rfl, State.Within.discarded ?_ _ _⟩
  cases lane with
  | fh => exact hs.field rfl
  | hf => exact hs.same

theorem State.Within.fieldStreamResend (hs : s.Within q) : ∃ t, exec .fieldStreamResend s = .next t ∧ t.Within q := by
  refine ⟨_, rfl, ?_⟩
  split
  · exact .ite (hs.field rfl) hs
  · exact hs

theorem State.Within.rspxTimeout (hs : s.Within q) : ∃ t, exec .rspxTimeout s = .next t ∧ t.Within q := by
  refine ⟨_, rfl, ?_⟩
  split
  · exact .ite (hs.resume _) hs
  · exact hs

/-! ### Rows of the host side (05_startup.md, 14_inservice_test.md to 18_radio.md) -/

theorem State.Within.newHost (hs : s.Within q) {h : HostSide} (hb : Bounded h) : (s.newHost h).Within q := ⟨⟨hb, hs.1.2⟩, hs.2⟩

theorem State.Within.nrstLow (hs : s.Within q) (ns : Nat) : ∃ t, exec (.nrstLow ns) s = .next t ∧ t.Within q :=
  ⟨_, rfl, .ite hs (.ite (hs.newHost (.held ..)) (.ite (hs.newHost (.held ..)) hs.same))⟩

theorem State.Within.banner (hs : s.Within q) : ∃ t, exec .banner s = .next t ∧ t.Within q := ⟨_, rfl, .ite hs.same hs⟩

theorem State.Within.breakEnd (hs : s.Within q) : ∃ t, exec .breakEnd s = .next t ∧ t.Within q :=
  ⟨_, rfl, .ite (hs.host (.ite (Bounded.prompt (hs.1.1.of_sizes (by rfl))) (hs.1.1.of_sizes (by rfl)))) hs⟩

theorem State.Within.uartBreak (hs : s.Within q) : ∃ t, exec .uartBreak s = .next t ∧ t.Within q :=
  ⟨_, rfl, .ite (hs.host (hs.1.1.partialLine (Nat.zero_le _))) hs⟩

theorem State.Within.lineStuck (hs : s.Within q) : ∃ t, exec .lineStuck s = .next t ∧ t.Within q :=
  ⟨_, rfl, .ite (hs.host ((((hs.1.1.partialLine (Nat.zero_le _)).setBit _).notice _).attn 2)) hs⟩

theorem State.Within.receiverReenable (hs : s.Within q) : ∃ t, exec .receiverReenable s = .next t ∧ t.Within q := by
  have hon : Bounded { s.h with uart := { s.h.uart with
      rxEn := true, rxLow := false, stuck := false, brk := false, on := true, idle := 0 } } := hs.1.1.of_sizes (by rfl)
  exact ⟨_, rfl, .ite (hs.host (.ite (hon.notice _).prompt (hon.notice _))) hs⟩

theorem State.Within.baudRevert (hs : s.Within q) : ∃ t, exec .baudRevert s = .next t ∧ t.Within q := by
  refine ⟨_, rfl, ?_⟩
  split
  · exact .ite (hs.host (Bounded.notice (hs.1.1.of_sizes (by rfl)) _)) hs
  · exact hs

theorem State.Within.baudSwitch (hs : s.Within q) : ∃ t, exec .baudSwitch s = .next t ∧ t.Within q := by
  refine ⟨_, rfl, ?_⟩
  split
  · exact hs.same
  · exact hs

theorem State.Within.responseSent (hs : s.Within q) : ∃ t, exec .responseSent s = .next t ∧ t.Within q := by
  refine ⟨_, rfl, ?_⟩
  split
  · exact hs
  · exact hs.same

theorem HostSide.frame_sizes (h : HostSide) : h.frame.sizes = h.sizes := by
  unfold HostSide.frame
  dsimp only
  split <;> rfl

/-- A boundary starts lines that wait, and marks those that came late eligible (R52, R53). -/
theorem State.Within.hostFrameBoundary (hs : s.Within q) (full : Bool) :
    ∃ t, exec (.hostFrameBoundary full) s = .next t ∧ t.Within q := by
  have hrun := State.Within.runLines (hs.same s.h.frame_sizes) 4
  refine ⟨_, rfl, .ite (hrun.host ?_) hs⟩
  rw [HostSide.defer_frame]
  exact hrun.1.1.of_sizes (by simp [HostSide.sizes, HostSide.frameEnd])

/-- At most 4 PPS stamps are held (R593). -/
theorem State.Within.ppsEdge (hs : s.Within q) (offset highNs : Nat) : ∃ t, exec (.ppsEdge offset highNs) s = .next t ∧ t.Within q := by
  refine ⟨_, rfl, .ite ?_ hs⟩
  obtain ⟨⟨⟨hlines, hcache, hpart, -, hrest⟩, hnews⟩, hqueue⟩ := hs
  exact ⟨⟨⟨hlines, hcache, hpart, by simp, hrest⟩, hnews⟩, hqueue⟩

theorem State.Within.overlayMerge (hs : s.Within q) (s2Ok s3Ok : Bool) :
    ∃ t, exec (.overlayMerge s2Ok s3Ok) s = .next t ∧ t.Within q := by
  refine ⟨_, rfl, .ite (State.Within.field (hs.same (g := fun h => { h with table := _ })) ?_) hs⟩
  split <;> rfl

theorem State.Within.hostTest (hs : s.Within q) (applicable pass : Bool) (m l : Int) : (s.hostTest applicable pass m l).Within q := by
  have hran (pos : Nat) (forced : Bool) := hs.1.1.runTest pos forced applicable pass m l
  unfold State.hostTest
  dsimp only
  split
  · split
    · split
      · exact hs
      · refine State.Within.news ?_ (State.testEnd_news _ _)
        exact hs.host (g := fun _ => HostSide.putJob { (s.h.runTest _ _ _ _ _ _).1 with rot := _ } _ _)
          (Bounded.putJob ((hran _ _).of_sizes (by rfl)) _ _)
    · exact hs
  · split
    · exact hs.host (g := fun _ => { (s.h.runTest _ _ _ _ _ _).1 with rot := _ }) ((hran _ _).of_sizes (by rfl))
    · exact hs

theorem State.Within.testSlice (hs : s.Within q) (side : Side) (applicable pass : Bool) (m l : Int) :
    ∃ t, exec (.testSlice side applicable pass m l) s = .next t ∧ t.Within q := by
  refine ⟨_, rfl, ?_⟩
  cases side with
  | field => exact hs.withField _
  | host => exact .ite (hs.hostTest _ _ _ _) hs

theorem Field.endJrnJob_jobEv (f : Field) : f.endJrnJob.jobEv = f.jobEv := by
  unfold Field.endJrnJob
  split
  · rfl
  · split <;> rfl

theorem State.Within.descSlice (hs : s.Within q) (i o : Nat) : (s.descSlice i o).Within q := by
  have hshown (g : Job → Job) : Bounded (s.h.putJob i g) := hs.1.1.putJob i g
  exact hs.host (g := fun _ => (s.descSlice i o).h) (.ite ((hshown _).endJob i 3 0) (hshown _))

theorem State.Within.hostJobSlice (hs : s.Within q) : ∃ t, exec .hostJobSlice s = .next t ∧ t.Within q := by
  refine ⟨_, rfl, .ite hs ?_⟩
  split
  · exact hs
  · split
    · split
      · exact hs.host ((hs.1.1.putJob _ _).send _ _ _)
      · exact State.Within.field (s := s.host fun _ => _) (hs.host ((hs.1.1.putJob _ _).endJob _ _ _)) s.f.endJrnJob_jobEv
    · exact hs.descSlice _ _
    · exact hs

theorem State.Within.stagedWrite (hs : s.Within q) (a : BitVec 16) (w : Word) : ∃ t, exec (.stagedWrite a w) s = .next t ∧ t.Within q := by
  refine ⟨_, rfl, .ite (.ite (hs.withField _) hs) (.ite ?_ hs)⟩
  split
  · next h hw =>
    have hkeeps := hs.1.1.writeReg a.toNat (if (regIdx 0x1040 8 a.toNat).isSome || a.toNat = 0x109C then w else withBit w 31 false)
    rw [hw] at hkeeps
    exact hs.host (g := fun _ => h) hkeeps
  · exact hs

theorem State.Within.rfTransitionDone (hs : s.Within q) (lock : Byte) : ∃ t, exec (.rfTransitionDone lock) s = .next t ∧ t.Within q := by
  have hdone : (s.host fun _ => (s.h.rfDone lock).1).Within q := hs.host (hs.1.1.rfDone lock)
  exact ⟨_, rfl, .ite hs (.ite (hdone.radioAnswer _) hdone)⟩

theorem State.Within.cxGrantSample (hs : s.Within q) (level : Bool) (htemp : Byte) (vpa : Nat) :
    ∃ t, exec (.cxGrantSample level htemp vpa) s = .next t ∧ t.Within q := by
  have hsampled : (s.host fun _ => (s.h.cxSample level htemp vpa).1).Within q := hs.host (hs.1.1.cxSample level htemp vpa)
  refine ⟨_, rfl, .ite hs ?_⟩
  dsimp only
  split
  · exact hsampled.radioAnswer _
  · exact hsampled

/-! ### Every row -/

/-- Every row goes on, keeps the invariant, and leaves the queue. -/
theorem State.Within.exec (hs : s.Within q) (i : Instr) : ∃ t, exec i s = .next t ∧ t.Within q := by
  cases i with
  | answerTimeout side => exact hs.answerTimeout side
  | holdWaitTimeout side => exact hs.holdWaitTimeout side
  | ackReceive lane seq atype => exact hs.ackReceive lane seq atype
  | nakReceive lane seq atype reason => exact hs.nakReceive lane seq atype reason
  | loopReceive lane idx ret pattern => exact hs.loopReceive lane idx ret pattern
  | idleReceive lane => exact hs.idleReceive lane
  | wakeReceive seq w0 => exact hs.wakeReceive seq w0
  | messageCrcFail lane => exact hs.messageCrcFail lane
  | transactionWordLate lane atype seq => exact hs.transactionWordLate lane atype seq
  | reservedTypeReceive lane code seq => exact ⟨_, rfl, hs.discarded lane _⟩
  | fieldStreamResend => exact hs.fieldStreamResend
  | rspxTimeout => exact hs.rspxTimeout
  | tickReceive seq ovr dly => exact ⟨_, rfl, hs.atHost _ _ fun _ ht => ht.tick seq ovr dly⟩
  | linkLoss => exact ⟨_, rfl, .ite (State.Within.linkDown hs.same) hs⟩
  | statReceive => exact ⟨_, rfl, hs.toHost _ _ fun t ht => ht.host (Bounded.jobs (ht.1.1.of_sizes (by rfl)) (HostSide.masked_jobsOnly t.h _))⟩
  | evtReceive => exact ⟨_, rfl, hs.toHost _ _ fun _ ht => ht.gotEvt _⟩
  | sampReceive => exact ⟨_, rfl, hs.toHost _ _ fun _ ht => .ite (ht.resume _) ht⟩
  | jdatReceive => exact ⟨_, rfl, .ite (hs.toHost _ _ fun _ ht => ht.gotJdat _ _ _) (hs.malformed _ _)⟩
  | rspxReceive => exact ⟨_, rfl, .ite (hs.toHost _ _ fun _ ht => ht.gotRspx _ _) (hs.malformed _ _)⟩
  | pwraReceive => exact ⟨_, rfl, hs.toHost _ _ fun _ ht => ht.same⟩
  | regdatReceive =>
    refine ⟨_, rfl, hs.atHost _ _ fun _ ht => ?_⟩
    split
    · exact ht.pumpNext.gotAnswer _ _
    · exact ht
  | echoReceive seq =>
    have hgone : (s.host fun h => (h.took .echo seq).msgDomains).Within q := hs.same (s.h.took .echo seq).msgDomains_sizes
    exact ⟨_, rfl, .ite (hgone.withField _) hgone⟩
  | markReceive | cmdxReceive | jreqReceive => exact ⟨_, rfl, hs.toField _ _ _⟩
  | regrdReceive | regwrReceive => exact ⟨_, rfl, (hs.heldNak _ _ _).toField _ _ _⟩
  | pwrqReceive => exact ⟨_, rfl, (hs.toField _ _ _).field rfl⟩
  | hostStart => exact ⟨_, rfl, .ite hs (hs.newHost (.started ..))⟩
  | nrstLow ns => exact hs.nrstLow ns
  | hostPowerOff => exact ⟨_, rfl, hs.newHost (.held ..)⟩
  | vhostFall => exact ⟨_, rfl, hs.same⟩
  | vhostRise => exact ⟨_, rfl, .ite hs hs.same⟩
  | pwrqSend => exact ⟨_, rfl, .ite (hs.host ((hs.1.1.send _ _ _).of_sizes (by rfl))) hs⟩
  | ponPolarityRead => exact ⟨_, rfl, .ite (hs.host ((hs.1.1.send _ _ _).of_sizes (by rfl))) hs⟩
  | banner => exact hs.banner
  | uartByteReceive => exact ⟨_, rfl, .ite (hs.host (.ite (hs.1.1.terminator _ _) (hs.1.1.byte _ _))) hs⟩
  | lineReceive => exact ⟨_, rfl, .ite (hs.host (hs.1.1.terminator _ _)) hs⟩
  | uartBreak => exact hs.uartBreak
  | breakEnd => exact hs.breakEnd
  | lineStuck => exact hs.lineStuck
  | receiverReenable => exact hs.receiverReenable
  | uartIdleOff => exact ⟨_, rfl, .ite hs.same hs⟩
  | baudSwitch => exact hs.baudSwitch
  | baudRevert => exact hs.baudRevert
  | responseSent => exact hs.responseSent
  | hostFrameBoundary full => exact hs.hostFrameBoundary full
  | ppsEdge offset highNs => exact hs.ppsEdge offset highNs
  | overlayMerge s2Ok s3Ok => exact hs.overlayMerge s2Ok s3Ok
  | testSlice side applicable pass m l => exact hs.testSlice side applicable pass m l
  | hostJobSlice => exact hs.hostJobSlice
  | stagedWrite a w => exact hs.stagedWrite a w
  | rfTransitionDone lock => exact hs.rfTransitionDone lock
  | cxGrantSample level htemp vpa => exact hs.cxGrantSample level htemp vpa
  | rfSfdDetect => exact ⟨_, rfl, hs.radioStep (.ite (hs.1.1.of_sizes (by rfl)) hs.1.1)⟩
  | rfPacketEnd p => exact ⟨_, rfl, hs.radioStep (hs.1.1.rfPacketEnd p)⟩
  | rfServiceSlice => exact ⟨_, rfl, hs.radioStep (hs.1.1.rfService _ _)⟩
  | cxGrantRise => exact ⟨_, rfl, hs.radioStep (hs.1.1.cxRise _ _)⟩
  | cxGrantFall => exact ⟨_, rfl, hs.radioStep hs.1.1.cxFall⟩
  | cxTimeout => exact ⟨_, rfl, hs.radioStep hs.1.1.cxTimeout⟩
  | rfTxEnd => exact ⟨_, rfl, hs.radioStep (hs.1.1.rfTxDone _ _)⟩
  | synthUnlock => exact ⟨_, rfl, hs.radioStep (hs.1.1.rfUnlock _)⟩
  | rfCalSlice => exact ⟨_, rfl, hs.radioStep (hs.1.1.rfCalSlice _ _ _)⟩
  | rfchApply | rfphyApply | rfpaApply => exact ⟨_, rfl, .ite (hs.host (hs.1.1.groupNow _)) hs⟩
  | fieldUnlink | keepByteWrite | tsetGo | alApply | perbApply | prbApply => exact ⟨_, rfl, .ite (hs.withField _) hs⟩
  | frameBoundary | tickerFire | ponPulseEnd | alarmActionSlice | watchdogRestart | fieldWriteCommit | markEvaluate | markMiss
  | referenceIdle | handoverComplete | slewEnd | holdoverLongSet | dieTempRead | learningHalfEnd | learningWindowClose
  | learnedTableSummary | crystalHandover | crystalStartFail | crystalRestart | sourceFall | demotionDecide | sourceQualify | vbkPor
  | fieldColdStart | calRestoreDone | journalMount | vbatMeasure | batplanDue | standbySourceFall | evEdge | filterHoldComplete
  | eventQueue | stagingRoomReturn | conversionStart | continuityCheck | conversionLatchBusy | conversionEnd | conversionCompletion
  | flushRequest | flushPriorityRaise | flushSlice | scrubSlice | wrapErase | eraseJobSlice | journalServiceSlice | calItemDue
  | calSlice | adcCalFrame | adcCalCompute | calStoreDue | calStoreSlice | overlayRewrite | telemetrySlice | fieldCommandSlice
  | keepSaveSlice => exact ⟨_, rfl, hs.withField _⟩
  | _ => exact ⟨_, rfl, hs.textCmd _⟩

end

/-! ### The step and the state after reset -/

/-- Settles O55: by the two branches of `step`, for a queue with a command at its front and for an empty one. -/
theorem stepRunsTheFrontCommand : Obligations.StepRunsTheFrontCommand := by
  refine ⟨fun c s => rfl, fun s hs => ?_⟩
  unfold step
  rw [hs]

/-- Settles O56: the host side of the reset state is one that has started, and holds nothing. -/
theorem resetMeetsTheInvariant : Obligations.ResetMeetsTheInvariant := ⟨⟨.started true 0, rfl⟩, rfl⟩

/-- Settles O57: an idle step changes nothing, and the row at the front of the queue keeps the invariant and the queue's rest. -/
theorem stepsKeepTheInvariant : Obligations.StepsKeepTheInvariant := by
  intro s hs
  cases hq : s.pending with
  | nil => exact ⟨s, stepRunsTheFrontCommand.2 s hq, hs, hq⟩
  | cons c rest =>
    have hrest : (s.withPending rest).Within rest := ⟨hs, rfl⟩
    obtain ⟨t, ht, hinv, hpending⟩ := hrest.exec c
    refine ⟨t, ?_, hinv, hpending⟩
    unfold step
    rw [hq]
    exact ht

end Sys2Proof.Machine
end

section
/-! Commands that the field side executes (15_command_line.md section 6, R557, R585): a `CMDX` goes out in the line of one command, which
then waits for the `RSPX`. -/

namespace Sys2Proof.Machine

theorem Lx.fieldCmd_sent (l : Lx) (c : FieldCmd) (hl : l.s.h.bar.link = true) : l.fieldCmd c =
    (l.host fun h => h.send .cmdx (cmdxWords c) (some c), .wait (.field c l.s.h.bar.nextSeq 0)) :=
  if_neg (by simp [hl])

/-- A command that starts a job goes out while a slot is free (R585). -/
theorem Lx.fieldJob_sent (l : Lx) (c : FieldCmd) (hl : l.s.h.bar.link = true) (hslot : l.s.h.freeSlot.isSome = true) :
    l.fieldJob c = l.fieldCmd c := by
  have hup : ¬ (!l.s.h.bar.link) = true := by simp [hl]
  have hfree : ¬ l.s.h.freeSlot.isNone = true := by simp [Option.isSome_iff_ne_none.mp hslot]
  exact (if_neg hup).trans (if_neg hfree)

/-- A line whose one command goes out to the field side waits for its `RSPX`. -/
theorem State.sends_command (s : State) (i : Instr) (c : FieldCmd) (hs : HostIdle s) (hlink : s.h.bar.link = true)
    (hexec : exec i s = .next (s.textCmd i)) (hrun : runCmd i (s.lineOf i 0) = (s.lineOf i 0).fieldCmd c) :
    ∃ t, exec i s = .next t ∧
      OnlyHost s t ((s.h.send .cmdx (cmdxWords c) (some c)).ran.lineWaits (.field c s.h.bar.nextSeq 0)) := by
  have hwaits := s.textCmd_lineWaits i _ (.field c s.h.bar.nextSeq 0) hs (hrun.trans ((s.lineOf i 0).fieldCmd_sent c hlink)) rfl rfl rfl
  exact ⟨_, hexec, HostSide.send_ran_lineWaits .. ▸ hwaits⟩

/-- A line whose one command starts a job of the field side. -/
theorem State.sends_job (s : State) (i : Instr) (c d : FieldCmd) (hs : HostIdle s) (hlink : s.h.bar.link = true)
    (hexec : exec i s = .next (s.textCmd i)) (hrun : runCmd i (s.lineOf i 0) = (s.lineOf i 0).fieldJob c)
    (hc : (if s.h.freeSlot.isSome then some c else none) = some d) :
    ∃ t, exec i s = .next t ∧
      OnlyHost s t ((s.h.send .cmdx (cmdxWords d) (some d)).ran.lineWaits (.field d s.h.bar.nextSeq 0)) := by
  obtain ⟨hslot, ⟨⟩⟩ := Option.ite_none_right_eq_some.mp hc
  exact s.sends_command i _ hs hlink hexec (hrun.trans ((s.lineOf i 0).fieldJob_sent _ hlink hslot))

/-- `TEST` starts a job while no other test runs (R514, R520). -/
theorem cmdTest_job (l : Lx) (forced : Bool) (hl : l.s.h.bar.link = true) (hnone : l.s.h.testJobs = []) :
    cmdTest forced l = l.fieldJob (.test forced) := by
  have hup : ¬ (!l.s.h.bar.link) = true := by simp [hl]
  have hfree : ¬ (!l.s.h.testJobs.isEmpty) = true := by simp [hnone]
  exact (if_neg hup).trans (if_neg hfree)

/-- A line whose one command starts a test job. -/
theorem State.sends_test (s : State) (i : Instr) (forced : Bool) (c : FieldCmd) (hs : HostIdle s) (hlink : s.h.bar.link = true)
    (hexec : exec i s = .next (s.textCmd i)) (hrun : runCmd i (s.lineOf i 0) = cmdTest forced (s.lineOf i 0))
    (hc : (if s.h.freeSlot.isSome ∧ s.h.testJobs = [] then some (.test forced) else none) = some c) :
    ∃ t, exec i s = .next t ∧
      OnlyHost s t ((s.h.send .cmdx (cmdxWords c) (some c)).ran.lineWaits (.field c s.h.bar.nextSeq 0)) := by
  obtain ⟨⟨hslot, hnone⟩, hsome⟩ := Option.ite_none_right_eq_some.mp hc
  have hjob := cmdTest_job (s.lineOf i 0) forced hlink hnone
  exact s.sends_job i (.test forced) c hs hlink hexec (hrun.trans hjob) ((if_pos hslot).trans hsome)

/-- Settles O5: each command in range is `Lx.fieldCmd` or `Lx.fieldJob` of its field command. -/
theorem fieldCommandsGoOut : Obligations.FieldCommandsGoOut := by
  intro s i c hs hlink h
  have hup : ¬ (!s.h.bar.link) = true := by simp [hlink]
  cases i with
  | evQuery n =>
    obtain ⟨hn, ⟨⟩⟩ := Option.ite_none_right_eq_some.mp h
    exact s.sends_command (.evQuery n) _ hs hlink rfl ((if_neg hup).trans (if_neg (by simp; omega)))
  | tQuery n =>
    obtain ⟨hn, ⟨⟩⟩ := Option.ite_none_right_eq_some.mp h
    exact s.sends_command (.tQuery n) _ hs hlink rfl ((if_neg hup).trans (if_neg (by omega)))
  | note t =>
    obtain ⟨⟨hne, hlen⟩, ⟨⟩⟩ := Option.ite_none_right_eq_some.mp h
    exact s.sends_command (.note t) _ hs hlink rfl ((if_neg hup).trans (if_neg (by simp [hne]; omega)))
  | sealKey p t =>
    obtain ⟨hp, ⟨⟩⟩ := Option.ite_none_right_eq_some.mp h
    exact s.sends_command (.sealKey p t) _ hs hlink rfl ((if_neg hup).trans (if_neg (by omega)))
  | tSnap | tripOpen | tripClose | keepSave | keepLoad | calLoad | calLoadGo | calCommit =>
    cases h
    exact s.sends_command _ _ hs hlink rfl rfl
  | jExport r => exact s.sends_job (.jExport r) _ c hs hlink rfl rfl h
  | jVerify r => exact s.sends_job (.jVerify r) _ c hs hlink rfl rfl h
  | jErase => exact s.sends_job .jErase _ c hs hlink rfl rfl h
  | calRun item k =>
    cases item with
    | none => cases h
    | some item =>
      cases item with
      | tdc => exact s.sends_job (.calRun (some .tdc) k) _ c hs hlink rfl rfl h
      | adc => exact s.sends_job (.calRun (some .adc) k) _ c hs hlink rfl rfl h
      | xl => exact s.sends_job (.calRun (some .xl) k) _ c hs hlink rfl rfl h
      | bar => exact s.sends_job (.calRun (some .bar) k) _ c hs hlink rfl rfl h
      | iq | pa | ltab | synth => cases h
  | test => exact s.sends_test .test false c hs hlink rfl rfl h
  | testForce => exact s.sends_test .testForce true c hs hlink rfl rfl h
  | _ => cases h

end Sys2Proof.Machine
end

section
/-! What a line leaves at its end (15_command_line.md section 6): the host registers that it wrote, and what follows once its response has
been sent (R531, R541, R567, R587). -/

namespace Sys2Proof.Machine

/-! ### Host registers that commit while a line is held -/

section
variable (m : BitVec 56) (c : Option Cur)

theorem HostSide.rfDrop_held (h : HostSide) : (h.held m c).rfDrop = h.rfDrop.held m c := by
  have hradio : (h.held m c).radio = h.radio := rfl
  simp only [HostSide.rfDrop, hradio]
  split <;> rfl

theorem HostSide.rfTune_held (h : HostSide) (w : Word) : (h.held m c).rfTune w = (h.rfTune w).held m c := by
  have hdrop := HostSide.rfDrop_held m c { h with radio := { h.radio with ch := w } }
  have hradio : (h.held m c).radio = h.radio := rfl
  unfold HostSide.rfTune
  dsimp only
  rw [hradio, apply_ite (HostSide.held m c)]
  refine if_congr Iff.rfl rfl ?_
  split
  · rw [← HostSide.rfTo_held]
    rfl
  · rw [← HostSide.rfTo_held]
    exact congrArg (fun x : HostSide => HostSide.rfTo { x with radio := { x.radio with goal := some .rx } } .synth) hdrop
  · rfl

theorem HostSide.setCx_held (h : HostSide) (w : Word) : (h.held m c).setCx w = (h.setCx w).held m c := by
  unfold HostSide.setCx
  dsimp only
  rw [apply_ite (HostSide.held m c)]
  rfl

theorem HostSide.putReg_held (h : HostSide) (a : Nat) (w : Word) : (h.held m c).putReg a w = (h.putReg a w).held m c := by
  simp only [HostSide.putReg, apply_ite (HostSide.held m c), ← HostSide.rfTune_held, ← HostSide.setCx_held]
  rfl

theorem HostSide.putRegs_held (h : HostSide) (ws : List (Nat × Word)) : (h.held m c).putRegs ws = (h.putRegs ws).held m c :=
  List.foldl_hom (HostSide.held m c) fun h w => h.putReg_held m c w.1 w.2

end

theorem HostSide.putRegs_cur (h : HostSide) (ws : List (Nat × Word)) (hc : h.line.cur = none) : (h.putRegs ws).line.cur = none := by
  have hkeep := h.putRegs_held 0#56 none ws
  rw [HostSide.held_none hc] at hkeep
  exact congrArg (fun k : HostSide => k.line.cur) hkeep

/-! ### The end of the line -/

/-- A restart of the host side is asked for where the line's response says so (R587). -/
def HostSide.restarts (a : TxAfter) (h : HostSide) : HostSide :=
  { h with line := { h.line with resetReq := h.line.resetReq || a.reset } }

theorem HostSide.restarts_none {h : HostSide} {a : TxAfter} (ha : a.reset = false) : h.restarts a = h := by
  simp only [HostSide.restarts, ha, Bool.or_false]

/-- The end of a line that was held: its registers have committed, and its response goes to TXD. -/
theorem HostSide.held_ends (h : HostSide) (c : Option Cur) (ws : List (Nat × Word)) (ls : List Text) (a : TxAfter)
    (hc : h.line.cur = none) :
    ((((h.held lineDomains c).putRegs ws).respond none false ls a).restarts a).lineDone =
      ((h.putRegs ws).ran.respond none false ls a).restarts a := by
  have hcur : (((h.putRegs ws).ran.respond none false ls a).restarts a).line.cur = none := h.putRegs_cur ws hc
  have hdom : (h.putRegs ws).domNow ||| lineDomains = (h.putRegs ws).ran.domNow := (BitVec.or_assoc ..).symm
  rw [h.putRegs_held, ← HostSide.lineDone_of_none hcur]
  simp only [HostSide.held, hdom]
  rfl

/-- The end of a line without a tag whose commands have all answered. -/
theorem Lx.settle_leaves (l : Lx) (htag : l.c.tag = none) (herr : l.c.err = none) (hwait : l.c.wait = none) (hrefused : l.c.refused = none) :
    l.settle = { l.s with
      h := (((l.s.h.putRegs l.c.writes).respond none false (l.c.response none) l.c.after).restarts l.c.after).lineDone } := by
  have hfail : l.c.failure = none := by simp [Cur.failure, herr, hrefused]
  simp only [Lx.settle, hwait, Option.isSome_none, Bool.false_eq_true, if_false, Lx.finish, HostSide.answer, hfail, htag, LineSt.cached]
  rfl

/-- The record of a line of one command that leaves register writes and what follows its response. -/
def leftCur (ws : List (Nat × Word)) (a : TxAfter) : Cur := { lineCur 0 with writes := ws, after := a }

/-- A command of its own that answers OK, having acted on the state `u` outside its line: its register writes commit, its response is on
the way, and what it asked for follows the response. -/
theorem State.textCmd_leaves (s u : State) (i : Instr) (ws : List (Nat × Word)) (a : TxAfter) (hs : HostIdle s)
    (hrun : runCmd i (s.lineOf i 0) = (⟨u.host (HostSide.held lineDomains (some ((ownLine i).cur 0))), leftCur ws a⟩, .ok))
    (hc : u.h.line.cur = none) :
    s.textCmd i = u.host fun h => ((h.putRegs ws).ran.respond none false okLines a).restarts a := by
  let k := u.host (HostSide.held lineDomains (some ((ownLine i).cur 0)))
  have hcmd : Lx.command ⟨(s.lineOf i 0).s, { (ownLine i).cur 0 with rest := [], k := ((ownLine i).cur 0).k + 1 }⟩ (.cmd i) =
      (⟨k, leftCur ws a⟩, .ok) := hrun
  have hrest : Lx.runRest [.cmd i] ⟨(s.lineOf i 0).s, (ownLine i).cur 0⟩ = ⟨k, leftCur ws a⟩ := by
    rw [Lx.runRest, hcmd]
    rfl
  rw [s.textCmd_idle i hs, s.startLine_own i 0, ← s.lineOf_s i 0, hrest, Lx.settle_leaves _ rfl rfl rfl rfl]
  exact congrArg (fun h => (⟨u.f, h, u.pending⟩ : State)) (u.h.held_ends _ ws okLines a hc)

/-- A command of its own that leaves the field side as it is. -/
theorem State.leaves_host (s : State) (i : Instr) (h : HostSide) (ws : List (Nat × Word)) (a : TxAfter) (hs : HostIdle s)
    (hexec : exec i s = .next (s.textCmd i))
    (hrun : runCmd i (s.lineOf i 0) = (⟨⟨s.f, h.held lineDomains (some ((ownLine i).cur 0)), s.pending⟩, leftCur ws a⟩, .ok))
    (hc : h.line.cur = none) :
    ∃ t, exec i s = .next t ∧ OnlyHost s t (((h.putRegs ws).ran.respond none false okLines a).restarts a) := by
  refine ⟨_, hexec, ?_⟩
  rw [s.textCmd_leaves ⟨s.f, h, s.pending⟩ i ws a hs hrun hc]
  exact ⟨rfl, rfl, rfl⟩

/-- A command of its own that only leaves register writes and what follows its response. -/
theorem State.leaves_only (s : State) (i : Instr) (ws : List (Nat × Word)) (a : TxAfter) (hs : HostIdle s)
    (hexec : exec i s = .next (s.textCmd i)) (hrun : runCmd i (s.lineOf i 0) = (⟨(s.lineOf i 0).s, leftCur ws a⟩, .ok)) :
    ∃ t, exec i s = .next t ∧ OnlyHost s t (((s.h.putRegs ws).ran.respond none false okLines a).restarts a) := by
  refine s.leaves_host i s.h ws a hs hexec ?_ hs.2.1
  rw [hrun, s.lineOf_held]
  rfl

/-- A command of its own that only writes host registers. -/
theorem State.writes_only (s : State) (i : Instr) (ws : List (Nat × Word)) (hs : HostIdle s) (hexec : exec i s = .next (s.textCmd i))
    (hrun : runCmd i (s.lineOf i 0) = (⟨(s.lineOf i 0).s, leftCur ws TxAfter.none⟩, .ok)) :
    ∃ t, exec i s = .next t ∧ OnlyHost s t (sent (s.h.putRegs ws) okLines) := by
  obtain ⟨t, ht, hleft⟩ := s.leaves_only i ws TxAfter.none hs hexec hrun
  rw [HostSide.restarts_none rfl] at hleft
  exact ⟨t, ht, hleft⟩

/-! ### `MODE`, `UART.BAUD`, `RESET HOST` and `PPS` -/

theorem cmdBaud_left (l : Lx) (b : Nat) (hmin : 9600 ≤ b) (hmax : b ≤ 3000000) :
    cmdBaud b l = ({ l with c := { l.c with after := { l.c.after with baud := some b } } }, .ok) :=
  if_neg (by simp [baudBad]; omega)

theorem cmdPps_left (l : Lx) (en : Nat) (hen : en ≤ 1) :
    cmdPps en l = ({ l with c := { l.c with writes := l.c.writes ++ [(0x0070, BitVec.ofNat 32 en)] } }, .ok) :=
  if_neg (by omega)

theorem HostSide.putRegs_pps (h : HostSide) (en : Nat) (hen : en ≤ 1) :
    h.putRegs [(0x0070, BitVec.ofNat 32 en)] = h.setPps (decide (en = 1)) := by
  have hbit : ∀ en ≤ 1, bitOf (BitVec.ofNat 32 en) 0 = decide (en = 1) := by decide
  rw [← hbit en hen]
  rfl

/-- Settles O9: each command leaves a register write, or what follows its response (`State.leaves_host`). -/
theorem lineEndCommands : Obligations.LineEndCommands := by
  refine ⟨fun s m hs => ?_, fun s b hs hmin hmax => ?_, fun s hs => ?_, fun s en hs hen => ?_⟩
  · have hleaves := s.leaves_host (.mode m) { s.h with line := { s.h.line with cache := [] } } [] ⟨some m, none, false⟩ hs rfl
      (by rw [s.lineOf_held]; rfl) hs.2.1
    rw [HostSide.restarts_none rfl] at hleaves
    exact hleaves
  · have hleaves := s.leaves_only (.uartBaud b) [] ⟨none, some b, false⟩ hs rfl (cmdBaud_left _ b hmin hmax)
    rw [HostSide.restarts_none rfl] at hleaves
    exact hleaves
  · obtain ⟨t, ht, hh, hf, hq⟩ := s.leaves_only .resetHost [] ⟨none, none, true⟩ hs rfl rfl
    obtain ⟨-, -, -, hreset⟩ := hs
    refine ⟨t, ht, ?_, hf, hq, ?_⟩
    · rw [hh]
      exact Bool.or_true _
    · rw [hh, ← hreset]
      rfl
  · have hwrites := s.writes_only (.pps en) [(0x0070, BitVec.ofNat 32 en)] hs rfl (cmdPps_left _ en hen)
    rw [s.h.putRegs_pps en hen] at hwrites
    exact hwrites

end Sys2Proof.Machine
end

section
/-! `ST.CLR` and `TEL.CLR` (R525, R588, R619): the host half clears with the command, the field half waits for the commit. -/

namespace Sys2Proof.Machine

/-! ### Operations beside the bookkeeping of a line -/

/-- The host side with the next `SEQ` of its stream, the domains of its frame and the line record given. -/
def HostSide.booked (q : BitVec 4) (d : BitVec 56) (c : Option Cur) (h : HostSide) : HostSide :=
  { h with bar := { h.bar with nextSeq := q }, domNow := d, line := { h.line with cur := c } }

/-- An operation of the host side that neither reads nor changes this bookkeeping. -/
def BesideLine (g : HostSide → HostSide) : Prop := ∀ q d c h, g (h.booked q d c) = (g h).booked q d c

section
variable {g : HostSide → HostSide} (hg : BesideLine g)
include hg

theorem BesideLine.self (h : HostSide) : g h = (g h).booked h.bar.nextSeq h.domNow h.line.cur := hg _ _ _ h

theorem BesideLine.domNow (h : HostSide) : (g h).domNow = h.domNow := by
  rw [hg.self h]
  rfl

theorem BesideLine.cur (h : HostSide) : (g h).line.cur = h.line.cur := by
  rw [hg.self h]
  rfl

theorem BesideLine.nextSeq (h : HostSide) : (g h).bar.nextSeq = h.bar.nextSeq := by
  rw [hg.self h]
  rfl

theorem BesideLine.held (m : BitVec 56) (c : Option Cur) (h : HostSide) : g (h.held m c) = (g h).held m c := by
  have hbooked : g (h.held m c) = (g h).booked h.bar.nextSeq (h.domNow ||| m) c := hg _ _ _ h
  rw [hbooked, ← hg.domNow h, ← hg.nextSeq h]
  rfl

/-- A command of its own that acts on the host side alone, beside its line, and answers. -/
theorem State.acts_host (s : State) (i : Instr) (r : CmdRes) (ls : List Text) (hs : HostIdle s) (hexec : exec i s = .next (s.textCmd i))
    (hrun : runCmd i (s.lineOf i 0) = ((s.lineOf i 0).host g, r)) (hr : answerLines r = some ls) :
    ∃ t, exec i s = .next t ∧ OnlyHost s t (sent (g s.h) ls) := by
  refine ⟨_, hexec, ?_⟩
  rw [s.textCmd_acts (s.host g) i r ls hs ?_ hr ((hg.cur s.h).trans hs.2.1)]
  · exact ⟨rfl, rfl, rfl⟩
  · rw [hrun, s.lineOf_held]
    exact congrArg (fun h => ((⟨⟨s.f, h, s.pending⟩, lineCur 0⟩, r) : Lx × CmdRes)) (hg.held _ _ s.h)

/-- A command of its own whose accesses were answered within the step, and which then acts on the host side, beside its line. -/
theorem State.exchanges_host (s : State) (i : Instr) (k : Lx) (w : List PendW) (hs : HostIdle s)
    (hexec : exec i s = .next (s.textCmd i)) (hrun : runCmd i (s.lineOf i 0) = (k.host g).ok)
    (hk : (s.lineOf i 0).Asks k s.h.pon w) :
    ∃ t, exec i s = .next t ∧ Exchanged s t (sent (g s.h) okLines) { s.f with pendW := w } := by
  obtain ⟨q, d, n, x, hd, hks⟩ := exchanged_iff.mp hk.1
  refine ⟨_, hexec, ?_⟩
  have hdom : (sent (g s.h) okLines).domNow = (s.lineOf i 0).s.h.domNow :=
    congrArg (fun d => HostSide.domNow (HostSide.ran { s.h with domNow := d })) (hg.domNow s.h)
  have hmsg : (sent (g s.h) okLines).msgDomains.domNow = (s.lineOf i 0).s.h.msgDomains.domNow := by
    simp only [HostSide.msgDomains, HostSide.domain_domNow, hdom]
  have hact : g k.s.h = (g s.h).booked q d (some ((ownLine i).cur 0)) := by
    rw [hks]
    exact hg q d (some ((ownLine i).cur 0)) s.h
  have hdone : (sent (g s.h) okLines).lineDone = sent (g s.h) okLines := HostSide.lineDone_of_none ((hg.cur s.h).trans hs.2.1)
  rw [s.textCmd_answered i hs (k.host g) .ok okLines hrun rfl hk.2]
  refine exchanged_iff.mpr ⟨q, d, n, x, ?_, ?_⟩
  · rwa [hdom, hmsg]
  · rw [← hdone]
    simp only [Lx.host, State.host, hact]
    rw [hks]
    rfl

end

/-! ### What the two commands clear -/

theorem HostSide.clearBits_beside (m : Word) : BesideLine fun h => h.clearBits m := by
  intro q d c h
  simp only [HostSide.clearBits, apply_ite (HostSide.booked q d c)]
  rfl

theorem HostSide.telClr_beside (t : TelGroup) : BesideLine fun h => h.telClr t := by
  intro q d c h
  cases t <;> rfl

/-- The field half of `ST.CLR` waits for the commit. -/
theorem Lx.stClr_ready (l : Lx) (m : Word) (hl : l.Ready) :
    ∃ k, l.send (.stClr (m &&& fieldMask)) = (k, .ok) ∧ l.Asks k l.s.h.pon (l.s.f.pendW ++ [.stClr (m &&& fieldMask)]) := by
  have hmask : m &&& fieldMask &&& fieldMask = m &&& fieldMask := by rw [BitVec.and_assoc, BitVec.and_self]
  have hserve : l.s.f.serve l.s.h.bar.nextSeq (.stClr (m &&& fieldMask)) =
      ({ l.s.f with pendW := l.s.f.pendW ++ [.stClr (m &&& fieldMask)] }, ackOf .regwr l.s.h.bar.nextSeq) := by
    simp only [Field.serve, Field.pend, hmask]
  obtain ⟨k, hacc, hasks, -⟩ := l.access_ready _ _ _ hl hserve
  refine ⟨k, ?_, hasks⟩
  simp only [Lx.send, hacc]
  rfl

/-- No register of a group of the host side alone is written on the field side. -/
theorem telWrites_host {t : TelGroup} (ht : telField t = false) : telWrites t = [] := by
  cases t with
  | uart | rf | domH => rfl
  | frame | bar | sup | nvm | tdc | cal | flag | test | domF => cases ht

theorem telWrites_ponCfg {t : TelGroup} (ht : telBad t = false) : ∀ e ∈ telWrites t, e.1 ≠ 0x122C := by
  cases t with
  | domF i =>
    simp only [telWrites, List.mem_singleton, forall_eq, ne_eq]
    omega
  | domH i => exact fun e he => absurd he List.not_mem_nil
  | frame | uart | bar | sup | nvm | tdc | cal | rf | flag | test => decide

/-- Settles O10: the host half is an operation beside the line, the field half waits with the accesses of the line. -/
theorem clearsByHalves : Obligations.ClearsByHalves := by
  refine ⟨fun s m hs hm => ?_, fun s m hs hm => ?_, fun s t ps hs hbad hfield hps => ?_, fun s t hs hbad hfield => ?_⟩
  · obtain ⟨k, hsend, hk⟩ := (s.lineOf (.stClr m) 0).stClr_ready m (s.lineOf_ready _ hs)
    have hrun : runCmd (.stClr m) (s.lineOf (.stClr m) 0) = (k.host fun h => h.clearBits m).ok := by
      refine (if_neg hm).trans ?_
      rw [hsend]
      rfl
    exact s.exchanges_host (HostSide.clearBits_beside m) _ k _ hs.1 rfl hrun hk
  · exact s.acts_host (HostSide.clearBits_beside m) (.stClr m) .ok okLines hs rfl (if_pos hm) rfl
  · obtain ⟨k, hwrites, hk, -⟩ := (s.lineOf (.telClr (some t)) 0).writeAll_ready (telWrites t) ps (s.lineOf_ready _ hs)
      (telWrites_ponCfg hbad) hps
    have hup : ¬ (telField t && !s.h.bar.link) = true := by simp [hs.2.1]
    have hrun : runCmd (.telClr (some t)) (s.lineOf (.telClr (some t)) 0) = (k.host fun h => h.telClr t).ok := by
      refine (if_neg (Bool.not_eq_true _ ▸ hbad)).trans ((if_neg hup).trans ?_)
      rw [hwrites]
      rfl
    exact s.exchanges_host (HostSide.telClr_beside t) _ k _ hs.1 rfl hrun hk
  · have hup : ¬ (telField t && !s.h.bar.link) = true := by simp [hfield]
    refine s.acts_host (HostSide.telClr_beside t) (.telClr (some t)) .ok okLines hs rfl ?_ rfl
    refine (if_neg (Bool.not_eq_true _ ▸ hbad)).trans ((if_neg hup).trans ?_)
    rw [telWrites_host hfield]
    rfl

end Sys2Proof.Machine
end

section
/-! The line buffer (R553): eight lines wait, and one that completes while they wait is answered ERR 23. -/

namespace Sys2Proof.Machine

/-- With no response being sent the refusal of a line goes out at once. -/
theorem HostSide.lineFull_now (h : HostSide) (tag : Option Text) (htx : ∀ x ∈ h.line.tx, x.kind ≠ .response) :
    h.lineFull tag = h.respond tag false [errLine 23 none] TxAfter.none :=
  if_neg (by simpa using htx)

/-- While a response is being sent the refusal waits for its end. -/
theorem HostSide.lineFull_waits (h : HostSide) (tag : Option Text) (htx : ∃ x ∈ h.line.tx, x.kind = .response) :
    h.lineFull tag = { h with line := { h.line with
      full := h.line.full ++ [frameLines h.uart.mode tag false [errLine 23 none]] } } :=
  if_pos (by simpa using htx)

/-- A line that completes while eight wait is refused whatever its text. -/
theorem HostSide.takeLine_full (h : HostSide) (t : Text) (long bad late : Bool) (hfull : 8 ≤ h.line.lines.length) :
    h.takeLine t long bad late = h.lineFull (checkLine h.uart.mode t long bad).2.1 :=
  if_pos hfull

/-- The host side at the CR of a line that is not empty, with the echo of human mode on the way to TXD. -/
theorem HostSide.lineEnded_echo (h : HostSide) : h.lineEnded.echo [chCr, chLf] =
    { h.uartActive with
      uart := { h.uartActive.uart with lastCr := true, buf := [], long := false, bad := false },
      line := { h.line with
        tx := if h.uart.mode = .human then h.line.tx ++ [⟨.echo, [[chCr, chLf]], TxAfter.none⟩] else h.line.tx } } := by
  by_cases hmode : h.uart.mode = .human
  · rw [h.lineEnded.echo_human _ hmode, if_pos hmode]
    rfl
  · rw [h.lineEnded.echo_machine _ hmode, if_neg hmode]
    rfl

/-- An echo is no response. -/
theorem lineEnded_response (h : HostSide) :
    (∃ x ∈ (h.lineEnded.echo [chCr, chLf]).line.tx, x.kind = .response) ↔ ∃ x ∈ h.line.tx, x.kind = .response := by
  rw [h.lineEnded_echo]
  dsimp only
  split <;> simp [or_and_right, exists_or]

/-- The first response has been sent, and the one refusal that waited for it follows. -/
theorem responseSent_refuses (s : State) (ls f : List Text) (rest : List TxItem)
    (htx : s.h.line.tx = ⟨.response, ls, TxAfter.none⟩ :: rest) (hfull : s.h.line.full = [f]) :
    ∃ t, exec .responseSent s = .next t ∧ t.f = s.f ∧ t.h.line.full = [] ∧
      t.h.line.tx = ⟨.response, if s.h.uart.mode = .human then f ++ [txt "> "] else f, TxAfter.none⟩ :: rest := by
  have hfirst : s.h.line.tx.dropWhile (fun i => decide (i.kind ≠ .response)) = ⟨.response, ls, TxAfter.none⟩ :: rest := by
    rw [htx]
    rfl
  refine ⟨_, rfl, ?_⟩
  simp only [hfirst, State.host_f, State.host_h, HostSide.takeAfter, hfull]
  exact ⟨trivial, trivial, rfl⟩

/-- Settles O15: a command and a received line find the buffer full by `HostSide.lineFull_now` and `HostSide.lineFull_waits`. -/
theorem lineBufferHoldsEight : Obligations.LineBufferHoldsEight := by
  refine ⟨fun s l hrun hcur => ?_, fun s late long bad h tag hrec hbuf hlong hbad hfull hh htag => ?_, responseSent_refuses⟩
  · have hwaits := s.textCmd_waits .idQuery hrun (.inl hcur)
    have hline {k : HostSide} (hk : (if 8 ≤ s.h.line.lines.length then s.h.lineFull none else s.h.enqueue (ownLine .idQuery)) = k) :
        ∃ t, exec .idQuery s = .next t ∧ OnlyHost s t k := ⟨_, congrArg Host.Outcome.next hwaits, hk, rfl, rfl⟩
    exact ⟨fun hroom => hline (if_neg (Nat.not_le.mpr hroom)),
      fun hfull htx => hline ((if_pos hfull).trans (s.h.lineFull_now none (by simp [htx]))),
      fun hfull htx => hline ((if_pos hfull).trans (s.h.lineFull_waits none ⟨_, htx, rfl⟩))⟩
  · have ⟨_, _, hopen, hskip⟩ := hrec
    have hended : s.h.lineEnded.echo [chCr, chLf] = h := s.h.lineEnded_echo.trans hh.symm
    have hresponse := lineEnded_response s.h
    rw [hended] at hresponse
    have htaken : s.h.terminator 0x0D#8 late = h.lineFull tag := by
      rw [s.h.terminator_cr late hopen hskip, if_neg (fun hempty => hbuf hempty.1), hended, HostSide.takeLine_full _ _ _ _ _ (by rwa [hh]),
        htag, hlong, hbad, hh]
      rfl
    refine ⟨fun htx => s.terminatorStep 0x0D#8 late hrec (htaken.trans (h.lineFull_now tag ?_)),
      fun htx => s.terminatorStep 0x0D#8 late hrec (htaken.trans ((h.lineFull_waits tag (hresponse.mpr htx)).trans ?_))⟩
    · intro x hx hkind
      obtain ⟨y, hy, hykind⟩ := hresponse.mp ⟨x, hx, hkind⟩
      exact htx y hy hykind
    · rw [hh]
      rfl

end Sys2Proof.Machine
end

section
/-! The pair groups of the field side as the line of one command stages and applies them (Table 20-7, R564, R584, R596, R716). -/

namespace Sys2Proof.Machine

/-! ### What the accesses of a line leave on the field side -/

/-- From `l` to `k` the accesses of a line were answered, and left the field side as `f` beside the barrier's bookkeeping. -/
def Lx.Leaves (l k : Lx) (f : Field) : Prop := Exchanged l.s k.s l.s.h f ∧ l.c.Goes k.c ∧ k.Ready

theorem Lx.Leaves.refl {l : Lx} (hl : l.Ready) : l.Leaves l l.s.f := ⟨⟨rfl, .inl rfl, rfl, rfl⟩, .refl _, hl⟩

theorem Lx.Leaves.trans {l k m : Lx} {f g : Field} (a : l.Leaves k f) (b : k.Leaves m g) (hbar : g.bar = k.s.f.bar) :
    l.Leaves m { g with bar := f.bar } := by
  obtain ⟨hk, hgoes, -⟩ := a
  obtain ⟨hm, hgoes', hready⟩ := b
  exact ⟨exchanged_trans hk hm hbar, hgoes.trans hgoes', hready⟩

/-- The field side after the accesses. -/
theorem Lx.Leaves.field {l k : Lx} {f : Field} (a : l.Leaves k f) : ∃ b, k.s.f = { f with bar := b } := by
  obtain ⟨q, d, n, x, -, hk⟩ := exchanged_iff.mp a.1
  exact ⟨_, by rw [hk]⟩

theorem Lx.readWord_leaves (l : Lx) (a : Nat) (hl : l.Ready) (ha : plainReg a = true) :
    ∃ k t, l.readWord a = (k, .val t) ∧ l.Leaves k l.s.f := by
  obtain ⟨k, hread, ⟨hk, hgoes⟩, hready⟩ := l.readWord_ready a hl ha
  exact ⟨k, _, hread, hk, hgoes, hready⟩

theorem Lx.reads_leaves (as : List Nat) (l : Lx) (hl : l.Ready) (has : as.all plainReg = true) :
    ∃ k, Lx.reads as l = (k, .ok) ∧ l.Leaves k l.s.f := by
  obtain ⟨k, hreads, ⟨hk, hgoes⟩, hready⟩ := l.reads_ready as hl has
  exact ⟨k, hreads, hk, hgoes, hready⟩

/-- A write that the field side takes, and which leaves the barrier and the start of the field side. -/
theorem Lx.writeField_leaves (l : Lx) (g : Field) {a : Nat} {w : Word} (hl : l.Ready) (ha : fieldMapped a = true) (hne : a ≠ 0x122C)
    (hw : l.s.f.writeReg l.s.f.clk a w = (g, 0)) (hbar : g.bar = l.s.f.bar) (hstart : g.start = l.s.f.start) :
    ∃ k, l.writeField a w = (k, .ok) ∧ l.Leaves k g := by
  obtain ⟨k, hwrite, hk⟩ := l.writeField_answered g a 0 w hl ha hne (by decide) hw hbar hstart
  exact ⟨k, hwrite, hk⟩

theorem thenDo_ok (l : Lx) (g : Lx → Lx × CmdRes) : thenDo (l, .ok) g = g l := rfl
theorem Lx.staged_ok (l : Lx) (gid : Nat) : Lx.staged (l, .ok) gid = (l.name gid, .ok) := rfl

/-- The line of one command which has staged the field side as `f` and named a group whose apply leaves it as `g`: the group applies at
the end of the line, whatever the barrier's bookkeeping is by then. -/
theorem State.textCmd_group (s : State) (i : Instr) (gid : Nat) (k : Lx) (f g : Field) (hs : HostIdle s)
    (hrun : runCmd i (s.lineOf i 0) = (k.name gid, .ok)) (hk : (s.lineOf i 0).Leaves k f) (hbar : g.bar = f.bar)
    (happly : ∀ (b : FBar) (l : Lx), l.Ready → l.s.f = { f with bar := b } →
      ∃ m, l.applyGroup gid = (m, .ok) ∧ l.Leaves m { g with bar := b }) :
    Exchanged s (s.textCmd i) (sent s.h okLines) g := by
  obtain ⟨b, hfield⟩ := hk.field
  obtain ⟨hexch, hgoes, hlink, hquiet, -⟩ := hk
  obtain ⟨m, hm, hleaves, hgoes', -⟩ := happly b ⟨k.s, namedCur gid k.c⟩ ⟨hlink, hquiet, Nat.le_refl 0⟩ hfield
  have hboth := exchanged_trans hexch hleaves (by rw [hfield])
  have hsame : ({ g with bar := f.bar } : Field) = g := by rw [← hbar]
  rw [s.textCmd_named i gid k hs hrun hgoes, Lx.applyGroups_ends _ m gid 0 k.c rfl hm hgoes']
  exact s.lineOf_exchanged m.s i _ _ hs.2.1 (hsame ▸ hboth)

/-! ### The probes (R383) -/

/-- A write of `PRBn` with its apply bit applies what it stages (R561, R564). -/
theorem Field.writeReg_prbApply (f : Field) (c : Clk) {n : Nat} (hn : n < 4) (w : Word) (hbit : bitOf w 31 = true) :
    f.writeReg c (0x1510 + 4 * n) w = (f.stagePrb n w).prbApply n := by
  have hne (b : Nat) (hb : b < 0x1510) : 0x1510 + 4 * n ≠ b := by omega
  have htset : regIdx 0x1040 8 (0x1510 + 4 * n) = none := regIdx_outside (.inr (by omega))
  have halarm : regIdx 0x1200 8 (0x1510 + 4 * n) = none := regIdx_outside (.inr (by omega))
  rw [Field.writeReg, htset]
  dsimp only
  rw [if_neg (hne _ (by decide)), if_neg (hne _ (by decide)), if_neg (hne _ (by decide)), halarm]
  dsimp only
  rw [regIdx_at 0x1510 hn]
  exact if_pos hbit

theorem Field.stagePrb_twice (f : Field) (n : Nat) (v w : Word) : (f.stagePrb n v).stagePrb n w = f.stagePrb n w := by
  simp [Field.stagePrb]

theorem Field.prbApply_staged (f : Field) {n : Nat} (hn : n < 4) (w : Word) (hgood : prbBad (w &&& 0x37#32) = false) :
    (f.stagePrb n w).prbApply n = (prbTaken f n (w &&& 0x37#32), 0) := by
  simp [Field.stagePrb, Field.prbApply, prbTaken, hn, hgood]

/-- The apply of a probe writes what its register has staged. -/
theorem Field.applyWrite_prb (f : Field) {n : Nat} (hn : n < 4) (w : Word) :
    (f.stagePrb n w).applyWrite (5 + n) = (0x1510 + 4 * n, withBit (w &&& 0x37#32) 31 true) := by
  have hstg : (f.stagePrb n w).temp.stg[n]?.getD none = some (w &&& 0x37#32) := by simp [Field.stagePrb, hn]
  have hshown : ((f.stagePrb n w).regValue (f.stagePrb n w).clk (0x1510 + 4 * n)).getD 0#32 = w &&& 0x37#32 := by
    have hval : (f.stagePrb n w).regValue (f.stagePrb n w).clk (0x1510 + 4 * n) =
        some (((f.stagePrb n w).temp.stg[n]?.getD none).getD ((f.stagePrb n w).temp.cfg[n]?.getD 0#32)) := by
      interval_cases n <;> rfl
    rw [hval, hstg]
    rfl
  rw [← hshown]
  interval_cases n <;> rfl

/-- `T.CFG` on quiet lanes. -/
theorem State.tCfg_taken (s : State) (n ty exc : Nat) (hs : Linked s) (hn : n ≤ 3) (hty : ty ≤ 4) (hexc : exc ≤ 2)
    (hgood : prbBad (BitVec.ofNat 32 (ty + 16 * exc)) = false) :
    Exchanged s (s.textCmd (.tCfg n ty exc)) (sent s.h okLines) (prbTaken s.f n (BitVec.ofNat 32 (ty + 16 * exc))) := by
  have hn4 : n < 4 := by omega
  have hword : ∀ ty ≤ 4, ∀ exc ≤ 2, BitVec.ofNat 32 (ty + 16 * exc) &&& 0x37#32 = BitVec.ofNat 32 (ty + 16 * exc) ∧
    bitOf (BitVec.ofNat 32 (ty + 16 * exc)) 31 = false := by decide
  obtain ⟨hmask, hbit⟩ := hword ty hty exc hexc
  have hmapped : ∀ n, n < 4 → fieldMapped (0x1510 + 4 * n) = true := by decide +kernel
  generalize hw : BitVec.ofNat 32 (ty + 16 * exc) = w at *
  obtain ⟨k, hwrite, hk⟩ := (s.lineOf (.tCfg n ty exc) 0).writeField_leaves (s.f.stagePrb n w) (a := 0x1510 + 4 * n) (w := w)
    (s.lineOf_ready _ hs) (hmapped n hn4) (by omega) (s.f.writeReg_prb _ hn4 w hbit) rfl rfl
  have hup : ¬ (!s.h.bar.link) = true := by simp [hs.2.1]
  have hrun : runCmd (.tCfg n ty exc) (s.lineOf (.tCfg n ty exc) 0) = (k.name (5 + n), .ok) := by
    refine (if_neg hup).trans ((if_neg (by simp; omega)).trans ?_)
    rw [hw, hwrite]
    rfl
  refine s.textCmd_group _ (5 + n) k _ _ hs.1 hrun hk rfl fun b l hl hfield => ?_
  have hwrite' := Field.applyWrite_prb { s.f with bar := b } hn4 w
  have hset : withBit w 31 true &&& 0x37#32 = w := (withBit_and w _ true (by decide) (by decide)).trans hmask
  have htaken : l.s.f.writeReg l.s.f.clk (0x1510 + 4 * n) (withBit w 31 true) = (prbTaken { s.f with bar := b } n w, 0) := by
    have hstaged : l.s.f = Field.stagePrb { s.f with bar := b } n w := hfield
    rw [Field.writeReg_prbApply _ _ hn4 _ (bitOf_withBit w true 31 (by decide)), hstaged, Field.stagePrb_twice,
      Field.prbApply_staged _ hn4 _ (by rwa [hset]), hset]
  obtain ⟨m, hm, hleaves⟩ := l.writeField_leaves _ hl (hmapped n hn4) (by omega) htaken (by rw [hfield]; rfl) (by rw [hfield]; rfl)
  refine ⟨m, ?_, hleaves⟩
  rw [hmask] at hwrite'
  have hgid : ¬ 9 ≤ 5 + n := by omega
  have hnot : ¬ 5 + n = 4 := by omega
  have happly : l.s.f.applyWrite (5 + n) = (0x1510 + 4 * n, withBit w 31 true) := hfield ▸ hwrite'
  simp only [Lx.applyGroup, if_neg hgid, if_neg hnot, happly, hm]

/-! ### Local time and periods (R228, R349, R716) -/

theorem Field.writeReg_local (f : Field) (c : Clk) (w : Word) (hgood : localBad (w.setWidth 8) = false) :
    f.writeReg c 0x109C w = (f.stageLocal (w.setWidth 8), 0) :=
  (if_neg (Bool.not_eq_true _ ▸ hgood) : (if localBad (w.setWidth 8) = true then (f, 20) else (f.stageLocal (w.setWidth 8), 0)) = _)

theorem Field.writeReg_perCfg (f : Field) (c : Clk) (w : Word) :
    f.writeReg c 0x1240 w = if bitOf w 31 then (f.stagePerCfg w).perbApply else (f.stagePerCfg w, 0) := rfl

/-- The apply of the group after its staging, whichever of the two registers was staged. -/
theorem Field.perbApply_staged (f : Field) (b : Byte) (w : Word) :
    (Field.stagePerCfg { f with per := { f.per with stg := some (b, w) } } (withBit w 31 true)).perbApply =
      (perbTaken f b (w &&& 0xFF01#32), 0) := by
  have hset : withBit w 31 true &&& 0xFF01#32 = w &&& 0xFF01#32 := withBit_and w _ true (by decide) (by decide)
  rw [← hset]
  rfl

/-- A line whose one command has staged local time and periods as `x`: their group applies at its end. -/
theorem State.textCmd_perb (s : State) (i : Instr) (k : Lx) (x : Byte × Word) (hs : HostIdle s)
    (hrun : runCmd i (s.lineOf i 0) = (k.name 4, .ok)) (hk : (s.lineOf i 0).Leaves k { s.f with per := { s.f.per with stg := some x } }) :
    Exchanged s (s.textCmd i) (sent s.h okLines) (perbTaken s.f x.1 (x.2 &&& 0xFF01#32)) := by
  refine s.textCmd_group _ 4 k _ _ hs hrun hk rfl fun b l hl hfield => ?_
  obtain ⟨m, t, hread, hm⟩ := l.readWord_leaves 0x1240 hl (by decide +kernel)
  obtain ⟨b', hfield'⟩ := hm.field
  have hm' : m.s.f = { s.f with per := { s.f.per with stg := some x }, bar := b' } := by rw [hfield', hfield]
  have hwrite : m.s.f.applyWrite 4 = (0x1240, withBit x.2 31 true) := by
    rw [hm']
    rfl
  have htaken : m.s.f.writeReg m.s.f.clk 0x1240 (withBit x.2 31 true) = (perbTaken { s.f with bar := b' } x.1 (x.2 &&& 0xFF01#32), 0) := by
    have hbit : bitOf (withBit x.2 31 true) 31 = true := bitOf_withBit x.2 true 31 (by decide)
    rw [Field.writeReg_perCfg, if_pos hbit, hm']
    exact Field.perbApply_staged { s.f with bar := b' } x.1 x.2
  obtain ⟨n, hn, hleaves⟩ := m.writeField_leaves _ hm.2.2 (by decide +kernel) (by decide) htaken (by rw [hm']; rfl) (by rw [hm']; rfl)
  have hboth := hm.trans hleaves (by rw [hm']; rfl)
  refine ⟨n, ?_, ?_⟩
  · have hgid : ¬ 9 ≤ 4 := by decide
    simp only [Lx.applyGroup, if_neg hgid, if_true, hread, thenDo, hwrite, hn]
  · rw [hfield] at hboth
    exact hboth

/-- `LOCAL` on quiet lanes. -/
theorem State.local_taken (s : State) (n : Int) (hs : Linked s) (hmin : -48 ≤ n) (hmax : n ≤ 56) :
    Exchanged s (s.textCmd (.localOfs n)) (sent s.h okLines)
      (perbTaken s.f (BitVec.ofInt 8 n) (s.f.per.shown.2 &&& 0xFF01#32)) := by
  have hbyte : ((BitVec.ofInt 8 n).setWidth 32).setWidth 8 = BitVec.ofInt 8 n := by simp
  have hint : (BitVec.ofInt 8 n).toInt = n := by
    rw [BitVec.toInt_ofInt]
    exact Int.bmod_eq_of_le (by omega) (by omega)
  have hgood : localBad (((BitVec.ofInt 8 n).setWidth 32).setWidth 8) = false := by
    rw [hbyte, localBad, hint]
    simp
    omega
  have hstage := s.f.writeReg_local s.f.clk _ hgood
  rw [hbyte] at hstage
  obtain ⟨k, hwrite, hk⟩ := (s.lineOf (.localOfs n) 0).writeField_leaves (s.f.stageLocal (BitVec.ofInt 8 n)) (s.lineOf_ready _ hs)
    (by decide +kernel) (by decide) hstage rfl rfl
  have hup : ¬ (!s.h.bar.link) = true := by simp [hs.2.1]
  have hrun : runCmd (.localOfs n) (s.lineOf (.localOfs n) 0) = (k.name 4, .ok) := by
    refine (if_neg hup).trans ((if_neg (by simp; omega)).trans ?_)
    rw [hwrite]
    rfl
  exact s.textCmd_perb _ k (BitVec.ofInt 8 n, s.f.per.shown.2) hs.1 hrun hk

/-- `PER.CFG` on quiet lanes. -/
theorem State.perCfg_taken (s : State) (day evin : Nat) (hs : Linked s) (hday : day ≤ 1) (hevin : evin ≤ 255) :
    Exchanged s (s.textCmd (.perCfg day evin)) (sent s.h okLines)
      (perbTaken s.f s.f.per.shown.1 (BitVec.ofNat 32 (day + evin * 2 ^ 8) &&& 0xFF01#32)) := by
  have hbit : bitOf (BitVec.ofNat 32 (day + evin * 2 ^ 8)) 31 = false := by
    rw [bitOf, BitVec.getLsbD_ofNat, Nat.testBit_lt_two_pow (by omega), Bool.and_false]
  generalize hw : BitVec.ofNat 32 (day + evin * 2 ^ 8) = w at *
  have hstage : s.f.writeReg s.f.clk 0x1240 w = (s.f.stagePerCfg w, 0) := by
    rw [Field.writeReg_perCfg, if_neg (Bool.not_eq_true _ ▸ hbit)]
  obtain ⟨k, hwrite, hk⟩ := (s.lineOf (.perCfg day evin) 0).writeField_leaves (s.f.stagePerCfg w) (s.lineOf_ready _ hs)
    (by decide +kernel) (by decide) hstage rfl rfl
  have hup : ¬ (!s.h.bar.link) = true := by simp [hs.2.1]
  have hrun : runCmd (.perCfg day evin) (s.lineOf (.perCfg day evin) 0) = (k.name 4, .ok) := by
    refine (if_neg hup).trans ((if_neg (by simp; omega)).trans ?_)
    rw [hw, hwrite]
    rfl
  have htaken := s.textCmd_perb _ k (s.f.per.shown.1, w &&& 0xFF01#32) hs.1 hrun hk
  rwa [BitVec.and_assoc, BitVec.and_self] at htaken

/-! ### The alarms (R316, R596) -/

/-- The field side with another alarm `p`. -/
def Field.withAlarm (f : Field) (p : Nat) (a : Alarm) : Field := { f with al := f.al.setIfInBounds p a }

theorem Field.withAlarm_twice (f : Field) (p : Nat) (a b : Alarm) : (f.withAlarm p a).withAlarm p b = f.withAlarm p b := by
  simp [Field.withAlarm]

theorem Field.withAlarm_al (f : Field) {p : Nat} (a : Alarm) (hp : p < 2) : (f.withAlarm p a).al[p]? = some a := by
  simp [Field.withAlarm, hp]

theorem Field.stageAlarm_some (f : Field) {p : Nat} {a : Alarm} (i : Nat) (w : Word) (ha : f.al[p]? = some a) :
    f.stageAlarm p i w = f.withAlarm p (a.stageReg i w) := by
  rw [Field.stageAlarm, ha]
  rfl

/-- A write of a staged register of an alarm; the control word's apply bit applies the alarm (R561, R564, R596). -/
theorem Field.writeReg_alarm (f : Field) (c : Clk) {p j : Nat} (hp : p < 2) (hj : j < 3) (w : Word) :
    f.writeReg c (0x1200 + 0x10 * p + 4 * j) w =
      if j = 2 ∧ bitOf w 31 = true then (f.stageAlarm p j w).alApply p else (f.stageAlarm p j w, 0) := by
  by_cases hctl : j = 2
  · subst hctl
    interval_cases p <;> exact if_congr (by simp) rfl rfl
  · rw [if_neg fun h => hctl h.1]
    obtain rfl | rfl : j = 0 ∨ j = 1 := by omega
    · interval_cases p <;> rfl
    · interval_cases p <;> rfl

/-- The apply of an alarm writes the control word that is staged. -/
theorem Field.applyWrite_alarm (f : Field) {p : Nat} (hp : p < 2) {a : Alarm} (ha : f.al[p]? = some a) :
    f.applyWrite (p + 2) = (0x1200 + 0x10 * p + 8, withBit a.shown.2.2 31 true) := by
  have hshown : ((f.al[p]?).map fun al => al.reg 2).getD 0#32 = a.shown.2.2 := by
    rw [ha]
    rfl
  rw [← hshown]
  interval_cases p <;> rfl

/-- A valid set that is staged is taken. -/
theorem Field.alApply_taken (f : Field) {p : Nat} (hp : p < 2) (a : Alarm) (x : Word × Word × Word)
    (hgood : alarmBad x.1 x.2.1 x.2.2 = false) :
    (f.withAlarm p { a with stg := some x }).alApply p = (alarmTaken f p a x.1 x.2.1 x.2.2, 0) := by
  have hal := f.withAlarm_al (p := p) { a with stg := some x } hp
  have hbad : ¬ alarmBad x.1 x.2.1 x.2.2 = true := by simp [hgood]
  rw [Field.alApply, hal]
  refine (if_neg hbad).trans ?_
  simp [alarmTaken, Field.withAlarm, Alarm.shown]

/-- A staged write of a line to a register of alarm `p`, without the apply bit. -/
theorem Lx.writeAlarm_leaves (l : Lx) {p j : Nat} (a : Alarm) (w : Word) (hl : l.Ready) (hp : p < 2) (hj : j < 3)
    (hbit : j = 2 → bitOf w 31 = false) (ha : l.s.f.al[p]? = some a) :
    ∃ k, l.writeField (0x1200 + 0x10 * p + 4 * j) w = (k, .ok) ∧ l.Leaves k (l.s.f.withAlarm p (a.stageReg j w)) := by
  have hmapped : ∀ p < 2, ∀ j < 3, fieldMapped (0x1200 + 0x10 * p + 4 * j) = true := by decide +kernel
  have hstaged : ¬ (j = 2 ∧ bitOf w 31 = true) := by
    rintro ⟨hctl, hset⟩
    rw [hbit hctl] at hset
    cases hset
  refine l.writeField_leaves _ hl (hmapped p hp j hj) (by omega) ?_ rfl rfl
  rw [Field.writeReg_alarm _ _ hp hj, if_neg hstaged, Field.stageAlarm_some _ _ _ ha]

/-- Another staged write of the same alarm. -/
theorem Lx.Leaves.withAlarm {l k m : Lx} {f : Field} {p : Nat} {a b : Alarm} (h : l.Leaves k (f.withAlarm p a))
    (h' : k.Leaves m (k.s.f.withAlarm p b)) : l.Leaves m (f.withAlarm p b) := by
  have hboth := h.trans h' rfl
  obtain ⟨x, hk⟩ := h.field
  rw [hk] at hboth
  have hsame : ({ Field.withAlarm { f.withAlarm p a with bar := x } p b with bar := (f.withAlarm p a).bar } : Field) =
      f.withAlarm p b := f.withAlarm_twice p a b
  rwa [hsame] at hboth

/-- The three staged writes of an alarm. -/
theorem Lx.writeAll_alarm (l : Lx) {p : Nat} (a : Alarm) (x : Word × Word × Word) (hl : l.Ready) (hp : p < 2)
    (hbit : bitOf x.2.2 31 = false) (ha : l.s.f.al[p]? = some a) :
    ∃ k, l.writeAll [(0x1200 + 0x10 * p, x.1), (0x1200 + 0x10 * p + 4, x.2.1), (0x1200 + 0x10 * p + 8, x.2.2)] = (k, .ok) ∧
      l.Leaves k (l.s.f.withAlarm p { a with stg := some (x.1, x.2.1 &&& 0xFFFFFF#32, x.2.2 &&& 0x9F7F#32) }) := by
  have hal {k : Lx} {b : Alarm} (hk : l.Leaves k (l.s.f.withAlarm p b)) : k.s.f.al[p]? = some b := by
    obtain ⟨c, hc⟩ := hk.field
    rw [hc]
    exact l.s.f.withAlarm_al b hp
  obtain ⟨k, htime, hk⟩ := l.writeAlarm_leaves (j := 0) a x.1 hl hp (by decide) (fun h => absurd h (by decide)) ha
  obtain ⟨m, hdate, hm⟩ := k.writeAlarm_leaves (j := 1) _ x.2.1 hk.2.2 hp (by decide) (fun h => absurd h (by decide)) (hal hk)
  have hkm := hk.withAlarm hm
  obtain ⟨n, hctl, hn⟩ := m.writeAlarm_leaves (j := 2) _ x.2.2 hm.2.2 hp (by decide) (fun _ => hbit) (hal hkm)
  refine ⟨n, ?_, hkm.withAlarm hn⟩
  simp only [Nat.mul_zero, Nat.add_zero, Nat.mul_one, Nat.reduceMul] at htime hdate hctl
  simp only [Lx.writeAll, htime, hdate, hctl, thenDo]
  rfl

theorem bitOf_withField_above (w : Word) {lo len v j : Nat} (hj : lo + len ≤ j) (hlt : j < 32) :
    bitOf (withField w lo len v) j = bitOf w j := by
  have hpow : 2 ^ lo * 2 ^ len ≤ 2 ^ j := by
    rw [← Nat.pow_add]
    exact Nat.pow_le_pow_right (by decide) hj
  have hclear (x : Nat) (hx : x < 2 ^ len) : (BitVec.ofNat 32 (x <<< lo)).getLsbD j = false := by
    have hlo : x <<< lo < 2 ^ j := by
      rw [Nat.shiftLeft_eq, Nat.mul_comm]
      exact (Nat.mul_lt_mul_of_pos_left hx (Nat.two_pow_pos lo)).trans_le hpow
    rw [BitVec.getLsbD_ofNat, Nat.testBit_lt_two_pow hlo, Bool.and_false]
  have hmask := hclear (2 ^ len - 1) (Nat.sub_lt (Nat.two_pow_pos len) Nat.one_pos)
  have hval := hclear (v % 2 ^ len) (Nat.mod_lt _ (Nat.two_pow_pos len))
  rw [bitOf, bitOf, withField, BitVec.getLsbD_or, BitVec.getLsbD_and, BitVec.getLsbD_not, hmask, hval]
  simp [hlt]

theorem bitOf_alItem {bit : Nat} (byte : Nat) (o : Option Nat) (x : Word × Word) (hbit : bit < 31) :
    bitOf (alItem bit byte o x).1 31 = bitOf x.1 31 := by
  have hkeep (b : Bool) : bitOf (withBit x.1 bit b) 31 = bitOf x.1 31 := bitOf_withField_above x.1 (by omega) (by decide)
  cases o with
  | none => exact hkeep true
  | some v => exact hkeep false

/-- `AL` leaves the control word's apply bit. -/
theorem bitOf_alWords (x : Word × Word × Word) (a : AlArg) : bitOf (alWords x a).2.2 31 = bitOf x.2.2 31 := by
  have hbit (w : Word) (b : Bool) : bitOf (withBit w 15 b) 31 = bitOf w 31 := bitOf_withField_above w (by decide) (by decide)
  cases a with
  | off n => exact hbit x.2.2 false
  | set n h m s d y mo da acts =>
    have hacts (w : Word) : bitOf (withField w 8 5 acts.toNat) 31 = bitOf w 31 := bitOf_withField_above w (by decide) (by decide)
    simp only [alWords, hbit, hacts, bitOf_alItem _ _ _ (show 6 < 31 by decide), bitOf_alItem _ _ _ (show 5 < 31 by decide),
      bitOf_alItem _ _ _ (show 4 < 31 by decide), bitOf_alItem _ _ _ (show 3 < 31 by decide),
      bitOf_alItem _ _ _ (show 2 < 31 by decide), bitOf_alItem _ _ _ (show 1 < 31 by decide),
      bitOf_alItem _ _ _ (show 0 < 31 by decide)]

/-- `AL` of an alarm that exists reads its registers, stages its words and names its group (R596). -/
theorem cmdAl_staged (l : Lx) (a : AlArg) {p : Nat} {al : Alarm} (hl : l.s.h.bar.link = true) (hp : p < 2) (hn : alNumber a = p + 1)
    (hal : l.s.f.al[p]? = some al) : cmdAl a l =
      Lx.staged (thenDo (Lx.reads [0x1200 + 0x10 * p, 0x1200 + 0x10 * p + 4, 0x1200 + 0x10 * p + 8] l) fun l =>
        l.writeAll [(0x1200 + 0x10 * p, (alWords al.shown a).1), (0x1200 + 0x10 * p + 4, (alWords al.shown a).2.1),
          (0x1200 + 0x10 * p + 8, (alWords al.shown a).2.2)]) (p + 2) := by
  have hup : ¬ (!l.s.h.bar.link) = true := by simp [hl]
  have hrange : ¬ (decide (p + 1 < 1) || decide (2 < p + 1)) = true := by simp; omega
  cases a with
  | off n =>
    obtain rfl : n = p + 1 := hn
    simp only [cmdAl, if_neg hup, if_neg hrange, Nat.add_sub_cancel, hal]
    rfl
  | set n h m s d y mo da acts =>
    obtain rfl : n = p + 1 := hn
    simp only [cmdAl, if_neg hup, if_neg hrange, Nat.add_sub_cancel, hal]
    rfl

/-- The staging of `AL` on quiet lanes. -/
theorem State.al_stages (s : State) (a : AlArg) (al : Alarm) {p : Nat} (hs : Linked s) (hn : alNumber a = p + 1) (hp : p < 2)
    (hal : s.f.al[p]? = some al) (hbit : bitOf al.shown.2.2 31 = false) :
    ∃ m, runCmd (.al a) (s.lineOf (.al a) 0) = (m.name (p + 2), .ok) ∧ (s.lineOf (.al a) 0).Leaves m
      (s.f.withAlarm p { al with stg := some ((alWords al.shown a).1, (alWords al.shown a).2.1 &&& 0xFFFFFF#32,
        (alWords al.shown a).2.2 &&& 0x9F7F#32) }) := by
  have hplain : ∀ p < 2, [0x1200 + 0x10 * p, 0x1200 + 0x10 * p + 4, 0x1200 + 0x10 * p + 8].all plainReg = true := by decide +kernel
  have hctl : bitOf (alWords al.shown a).2.2 31 = false := (bitOf_alWords al.shown a).trans hbit
  have hcmd := cmdAl_staged (s.lineOf (.al a) 0) a hs.2.1 hp hn hal
  generalize alWords al.shown a = x at *
  obtain ⟨k, hreads, hk⟩ := (s.lineOf (.al a) 0).reads_leaves _ (s.lineOf_ready _ hs) (hplain p hp)
  obtain ⟨b, hkf⟩ := hk.field
  have hkal : k.s.f.al[p]? = some al := by
    rw [hkf]
    exact hal
  obtain ⟨m, hwrites, hm⟩ := k.writeAll_alarm al x hk.2.2 hp hctl hkal
  have hleaves : (s.lineOf (.al a) 0).Leaves m (Field.withAlarm { k.s.f with bar := s.f.bar } p _) := hk.trans hm rfl
  have hsame : ({ k.s.f with bar := s.f.bar } : Field) = s.f := by
    rw [hkf]
    rfl
  rw [hsame] at hleaves
  refine ⟨m, hcmd.trans ?_, hleaves⟩
  rw [hreads, thenDo_ok, hwrites, Lx.staged_ok]

/-- The apply of an alarm whose staged set is valid. -/
theorem Lx.applyGroup_alarm (l : Lx) (f : Field) (al : Alarm) (x : Word × Word × Word) {p : Nat} (hl : l.Ready) (hp : p < 2)
    (hfield : l.s.f = f.withAlarm p { al with stg := some x }) (hmask : x.2.2 &&& 0x9F7F#32 = x.2.2)
    (hgood : alarmBad x.1 x.2.1 x.2.2 = false) :
    ∃ m, l.applyGroup (p + 2) = (m, .ok) ∧ l.Leaves m (alarmTaken f p al x.1 x.2.1 x.2.2) := by
  have hmapped : ∀ p < 2, fieldMapped (0x1200 + 0x10 * p + 8) = true := by decide +kernel
  have hset : withBit x.2.2 31 true &&& 0x9F7F#32 = x.2.2 := (withBit_and _ _ true (by decide) (by decide)).trans hmask
  have hshown : l.s.f.al[p]? = some { al with stg := some x } := by
    rw [hfield]
    exact f.withAlarm_al _ hp
  have hwrite : l.s.f.applyWrite (p + 2) = (0x1200 + 0x10 * p + 8, withBit x.2.2 31 true) := l.s.f.applyWrite_alarm hp hshown
  have htaken : l.s.f.writeReg l.s.f.clk (0x1200 + 0x10 * p + 8) (withBit x.2.2 31 true) = (alarmTaken f p al x.1 x.2.1 x.2.2, 0) := by
    have happly : l.s.f.writeReg l.s.f.clk (0x1200 + 0x10 * p + 8) (withBit x.2.2 31 true) =
        (l.s.f.stageAlarm p 2 (withBit x.2.2 31 true)).alApply p :=
      (l.s.f.writeReg_alarm l.s.f.clk (j := 2) hp (by decide) _).trans (if_pos ⟨rfl, bitOf_withBit _ true 31 (by decide)⟩)
    have hstaged : Alarm.stageReg { al with stg := some x } 2 (withBit x.2.2 31 true) = { al with stg := some x } := by
      simp only [Alarm.stageReg, hset]
      rfl
    rw [happly, Field.stageAlarm_some _ _ _ hshown, hstaged, hfield, Field.withAlarm_twice, Field.alApply_taken f hp al x hgood]
  obtain ⟨n, hn, hleaves⟩ := l.writeField_leaves _ hl (hmapped p hp) (by omega) htaken (by rw [hfield]; rfl) (by rw [hfield]; rfl)
  have hgid : ¬ 9 ≤ p + 2 := by omega
  have hnot : ¬ p + 2 = 4 := by omega
  exact ⟨n, by simp only [Lx.applyGroup, if_neg hgid, if_neg hnot, hwrite, hn], hleaves⟩

/-- `AL` on quiet lanes. -/
theorem State.al_taken (s : State) (a : AlArg) (al : Alarm) {p : Nat} (hs : Linked s) (hn : alNumber a = p + 1)
    (hal : s.f.al[p]? = some al) (hbit : bitOf al.shown.2.2 31 = false)
    (hgood : alarmBad (alWords al.shown a).1 ((alWords al.shown a).2.1 &&& 0xFFFFFF#32) ((alWords al.shown a).2.2 &&& 0x9F7F#32) = false) :
    Exchanged s (s.textCmd (.al a)) (sent s.h okLines) (alarmTaken s.f p al (alWords al.shown a).1
      ((alWords al.shown a).2.1 &&& 0xFFFFFF#32) ((alWords al.shown a).2.2 &&& 0x9F7F#32)) := by
  obtain ⟨hp, -⟩ := Vector.getElem?_eq_some_iff.mp hal
  obtain ⟨m, hrun, hm⟩ := s.al_stages a al hs hn hp hal hbit
  have hmask : (alWords al.shown a).2.2 &&& 0x9F7F#32 &&& 0x9F7F#32 = (alWords al.shown a).2.2 &&& 0x9F7F#32 := by
    rw [BitVec.and_assoc, BitVec.and_self]
  exact s.textCmd_group (.al a) (p + 2) m _ _ hs.1 hrun hm rfl fun b l hl hfield =>
    l.applyGroup_alarm { s.f with bar := b } al ((alWords al.shown a).1, (alWords al.shown a).2.1 &&& 0xFFFFFF#32,
      (alWords al.shown a).2.2 &&& 0x9F7F#32) hl hp hfield hmask hgood

/-- Settles O7: each command's staging and apply on quiet lanes. -/
theorem pairGroupCommands : Obligations.PairGroupCommands := by
  refine ⟨fun s n hs hmin hmax => ⟨_, rfl, s.local_taken n hs hmin hmax⟩,
    fun s day evin hs hday hevin => ⟨_, rfl, s.perCfg_taken day evin hs hday hevin⟩,
    fun s n ty exc hs hn hty hexc hgood => ⟨_, rfl, s.tCfg_taken n ty exc hs hn hty hexc hgood⟩,
    fun s a al hs hn hal hbit hgood => ⟨_, rfl, s.al_taken a al hs (Nat.sub_add_cancel hn).symm hal hbit hgood⟩⟩

end Sys2Proof.Machine
end

section
/-! The settings and requests of the radio as the line of one command makes them (18_radio.md, Table 16-12). -/

namespace Sys2Proof.Machine

/-! ### Host groups (R564, R567, R584) -/

/-- The apply of a host group looks at the radio alone. -/
theorem HostSide.groupApply_held (h : HostSide) (m : BitVec 56) (c : Option Cur) (gid : Nat) :
    (h.held m c).groupApply gid = ((h.groupApply gid).1.held m c, (h.groupApply gid).2) := by
  have herr : (h.held m c).groupErr gid = h.groupErr gid := rfl
  unfold HostSide.groupApply
  dsimp only
  rw [herr]
  split <;> rfl

/-- The line of one command that has staged the host side as `g` and named a host group whose set is valid: the set commits at the end
of the line. -/
theorem State.names_group (s : State) (i : Instr) (gid : Nat) (g : HostSide) (hs : HostIdle s) (hexec : exec i s = .next (s.textCmd i))
    (hrun : runCmd i (s.lineOf i 0) =
      (Lx.name ⟨⟨s.f, g.held lineDomains (some ((ownLine i).cur 0)), s.pending⟩, lineCur 0⟩ gid, .ok))
    (hgid : 9 ≤ gid) (herr : g.groupErr gid = 0) (hc : g.line.cur = none) :
    ∃ t, exec i s = .next t ∧ OnlyHost s t (sent (g.groupNow gid) okLines) := by
  let u : HostSide := { g with radio := g.radio.unstage gid }
  have happly : g.groupApply gid = (u, 0, g.radio.groupSet gid) := if_pos herr
  have hgroups : Lx.applyGroups [(gid, 1)] ⟨⟨s.f, g.held lineDomains (some ((ownLine i).cur 0)), s.pending⟩, namedCur gid (lineCur 0)⟩ =
      ⟨⟨s.f, u.held lineDomains (some ((ownLine i).cur 0)), s.pending⟩, leftCur (g.radio.groupSet gid) TxAfter.none⟩ := by
    rw [Lx.applyGroups, Lx.applyGroup, if_pos hgid, HostSide.groupApply_held, happly]
    rfl
  have hends : s.textCmd i = ⟨s.f, sent (g.groupNow gid) okLines, s.pending⟩ := by
    rw [s.textCmd_named i gid _ hs hrun (.refl _), hgroups, Lx.settle_leaves _ rfl rfl rfl rfl, g.groupNow_taken gid herr]
    exact congrArg (fun h => (⟨s.f, h, s.pending⟩ : State))
      ((u.held_ends _ (g.radio.groupSet gid) okLines TxAfter.none hc).trans (HostSide.restarts_none rfl))
  exact ⟨_, hexec.trans (congrArg Host.Outcome.next hends), rfl, rfl, rfl⟩

/-- A setting that stages the radio as `r` and names its group. -/
theorem State.stages_radio (s : State) (i : Instr) (gid : Nat) (r : Radio) (hs : HostIdle s) (hexec : exec i s = .next (s.textCmd i))
    (hrun : runCmd i (s.lineOf i 0) = (s.lineOf i 0).stageRadio (some r) gid) (hgid : 9 ≤ gid)
    (herr : HostSide.groupErr { s.h with radio := r } gid = 0) :
    ∃ t, exec i s = .next t ∧ OnlyHost s t (sent (HostSide.groupNow { s.h with radio := r } gid) okLines) := by
  refine s.names_group i gid { s.h with radio := r } hs hexec ?_ hgid herr hs.2.1
  rw [hrun, s.lineOf_held]
  rfl

/-! ### `RF.CH`, `RF.MODE`, `RF.FRAME` and `RF.PWR` (R639, R645, R663) -/

/-- A frequency within the band has a valid code (R645). -/
theorem fcodeOf_good {hz : Nat} (hmin : 779000000 ≤ hz) (hmax : hz ≤ 960000000) :
    fcodeBad (fieldOf (BitVec.ofNat 32 (fcodeOf hz)) 0 25) = false := by
  have hcode : fcodeOf hz = (2 * hz * 2 ^ 20 + 38400000) / 76800000 := rfl
  have hfield : fieldOf (BitVec.ofNat 32 (fcodeOf hz)) 0 25 = fcodeOf hz := by
    rw [fieldOf, Nat.shiftRight_zero, BitVec.toNat_ofNat]
    omega
  rw [hfield, fcodeBad]
  simp
  omega

theorem rfCh_takes (s : State) (hz : Nat) (hs : HostIdle s) (hmin : 779000000 ≤ hz) (hmax : hz ≤ 960000000)
    (htx : s.h.radio.tx = none) : ∃ t, exec (.rfCh hz) s = .next t ∧
      OnlyHost s t (sent (HostSide.rfTune { s.h with radio := { s.h.radio with chStg := none } }
        (BitVec.ofNat 32 (fcodeOf hz) &&& 0x1FFFFFF#32)) okLines) := by
  generalize hw : BitVec.ofNat 32 (fcodeOf hz) = w at *
  have hstage : s.h.radio.stageCh w = some { s.h.radio with chStg := some (w &&& 0x1FFFFFF#32) } :=
    if_neg (by rw [← hw, fcodeOf_good hmin hmax]; decide)
  have hrun : runCmd (.rfCh hz) (s.lineOf (.rfCh hz) 0) =
      (s.lineOf (.rfCh hz) 0).stageRadio (some { s.h.radio with chStg := some (w &&& 0x1FFFFFF#32) }) 9 := by
    rw [← hstage, ← hw]
    exact if_neg (by simp; omega)
  have herr : HostSide.groupErr { s.h with radio := { s.h.radio with chStg := some (w &&& 0x1FFFFFF#32) } } 9 = 0 := by
    rw [HostSide.groupErr_channel, HostSide.rfchApply]
    simp [htx]
  obtain ⟨t, ht, honly⟩ := s.stages_radio _ 9 _ hs rfl hrun (by decide) herr
  rw [HostSide.groupNow_taken _ 9 herr] at honly
  exact ⟨t, ht, honly⟩

/-- The apply of the coding set is valid out of RX, where its two words agree (R640, R641). -/
theorem groupErr_coding_agrees (h : HostSide) (htx : h.radio.tx = none) (hst : h.radio.st ≠ .rx)
    (hagree : bitOf h.radio.phyShown.2 10 = decide (fieldOf h.radio.phyShown.1 5 2 ≠ 0)) : h.groupErr 10 = 0 := by
  have hfree : ¬ (h.radio.tx.isSome || decide (h.radio.st = .rx)) = true := by simp [htx, hst]
  rw [HostSide.groupErr_coding, HostSide.rfphyApply, if_neg hfree, hagree]
  refine if_neg ?_
  simp

/-- The staged coding set `x` commits as the two words. -/
theorem State.stages_coding (s : State) (i : Instr) (x : Word × Word) (hs : HostIdle s) (hexec : exec i s = .next (s.textCmd i))
    (hrun : runCmd i (s.lineOf i 0) = (s.lineOf i 0).stageRadio (some { s.h.radio with phyStg := some x }) 10)
    (htx : s.h.radio.tx = none) (hst : s.h.radio.st ≠ .rx) (hagree : bitOf x.2 10 = decide (fieldOf x.1 5 2 ≠ 0)) :
    ∃ t, exec i s = .next t ∧
      OnlyHost s t (sent { s.h with radio := { s.h.radio with phy := x.1, frm := x.2, phyStg := none } } okLines) := by
  have herr := groupErr_coding_agrees { s.h with radio := { s.h.radio with phyStg := some x } } htx hst hagree
  obtain ⟨t, ht, honly⟩ := s.stages_radio i 10 _ hs hexec hrun (by decide) herr
  rw [HostSide.groupNow_taken _ 10 herr] at honly
  exact ⟨t, ht, honly⟩

/-- The word of a modulation: within its register, with its coding in bits 5 and 6 (Table 18-1). -/
theorem rfMode_word : ∀ k ∈ [2, 4], ∀ r ∈ [50, 100, 150, 200], ∀ fec ≤ 2, ∀ hOne bt : Bool,
    let w : Word := BitVec.ofNat 32 (k / 4 + 2 * (r / 50 - 1) + 8 * hOne.toNat + 16 * bt.toNat + 32 * fec)
    w &&& 0x7F#32 = w ∧ fieldOf w 5 2 = fec := by decide

theorem rfMode_takes (s : State) (k r fec : Nat) (hOne bt : Bool) (w : Word) (hs : HostIdle s) (hk : k ∈ [2, 4])
    (hr : r ∈ [50, 100, 150, 200]) (hfec : fec ≤ 2)
    (hw : w = BitVec.ofNat 32 (k / 4 + 2 * (r / 50 - 1) + 8 * hOne.toNat + 16 * bt.toNat + 32 * fec)) (htx : s.h.radio.tx = none)
    (hst : s.h.radio.st ≠ .rx) (hagree : bitOf s.h.radio.phyShown.2 10 = decide (fec ≠ 0)) :
    ∃ t, exec (.rfMode k r hOne bt fec) s = .next t ∧
      OnlyHost s t (sent { s.h with radio := { s.h.radio with phy := w, frm := s.h.radio.phyShown.2, phyStg := none } } okLines) := by
  obtain ⟨hmask, hcode⟩ := rfMode_word k hk r hr fec hfec hOne bt
  rw [← hw] at hmask hcode
  have hstage : s.h.radio.stagePhy w = some { s.h.radio with phyStg := some (w, s.h.radio.phyShown.2) } := by
    rw [Radio.stagePhy, if_neg (by omega), hmask]
  refine s.stages_coding (.rfMode k r hOne bt fec) (w, s.h.radio.phyShown.2) hs rfl ?_ htx hst (by rw [hcode]; exact hagree)
  rw [← hstage, hw]
  refine if_neg ?_
  simp only [List.mem_cons, List.not_mem_nil, or_false] at hk hr
  simp only [Bool.or_eq_true, Bool.not_eq_true', Bool.or_eq_false_iff, decide_eq_false_iff_not, decide_eq_true_eq]
  omega

/-- A field that was set shows its value. -/
theorem fieldOf_withField_low (w : Word) {n v : Nat} (hn : n ≤ 32) (hv : v < 2 ^ n) : fieldOf (withField w 0 n v) 0 n = v := by
  have hlt : 2 ^ n ≤ 2 ^ 32 := Nat.pow_le_pow_right (by decide) hn
  have hand : withField w 0 n v &&& BitVec.ofNat 32 (2 ^ n - 1) = BitVec.ofNat 32 v &&& BitVec.ofNat 32 (2 ^ n - 1) := by
    rw [withField, Nat.shiftLeft_zero, Nat.shiftLeft_zero, Nat.mod_eq_of_lt hv]
    refine BitVec.eq_of_getLsbD_eq fun j _ => ?_
    simp only [BitVec.getLsbD_and, BitVec.getLsbD_or, BitVec.getLsbD_not]
    cases (BitVec.ofNat 32 (2 ^ n - 1)).getLsbD j <;> simp
  rw [fieldOf_zero _ hn, hand, ← fieldOf_zero _ hn, fieldOf, Nat.shiftRight_zero, BitVec.toNat_ofNat,
    Nat.mod_eq_of_lt (hv.trans_le hlt), Nat.mod_eq_of_lt hv]

theorem rfFrame_takes (s : State) (pre : Nat) (coded wh : Bool) (w : Word) (hs : HostIdle s) (hmin : 4 ≤ pre) (hmax : pre ≤ 1000)
    (hw : w = withField (withBit (withBit s.h.radio.phyShown.2 10 coded) 11 wh) 0 10 pre &&& 0x1FFF#32) (htx : s.h.radio.tx = none)
    (hst : s.h.radio.st ≠ .rx) (hagree : coded = decide (fieldOf s.h.radio.phyShown.1 5 2 ≠ 0)) :
    ∃ t, exec (.rfFrame pre coded wh) s = .next t ∧
      OnlyHost s t (sent { s.h with radio := { s.h.radio with phy := s.h.radio.phyShown.1, frm := w, phyStg := none } } okLines) := by
  have hpre : fieldOf (withField (withBit (withBit s.h.radio.phyShown.2 10 coded) 11 wh) 0 10 pre) 0 10 = pre :=
    fieldOf_withField_low _ (by decide) (by omega)
  have hbit : bitOf w 10 = coded := by
    have hframe : bitOf (withField (withBit (withBit s.h.radio.phyShown.2 10 coded) 11 wh) 0 10 pre) 10 = coded := by
      rw [bitOf_withField_above _ (by decide) (by decide), bitOf_withBit _ _ _ (by decide), if_neg (by decide),
        bitOf_withBit _ _ _ (by decide), if_pos rfl]
    rw [hw, bitOf, BitVec.getLsbD_and, ← bitOf, hframe]
    exact Bool.and_true _
  have hstage : s.h.radio.stageFrm (withField (withBit (withBit s.h.radio.phyShown.2 10 coded) 11 wh) 0 10 pre) =
      some { s.h.radio with phyStg := some (s.h.radio.phyShown.1, w) } := by
    rw [Radio.stageFrm, hpre, hw]
    exact if_neg (by simp; omega)
  refine s.stages_coding (.rfFrame pre coded wh) (s.h.radio.phyShown.1, w) hs rfl ?_ htx hst (hbit.trans hagree)
  rw [← hstage]
  exact if_neg (by simp; omega)

theorem rfPwr_word : ∀ idx ≤ 63, ∀ comp ≤ 2,
    let w : Word := BitVec.ofNat 32 (idx + 2 ^ 8 * comp)
    w &&& 0x33F#32 = w ∧ fieldOf w 8 2 = comp := by decide +kernel

theorem rfPwr_takes (s : State) (idx comp : Nat) (hs : HostIdle s) (hidx : idx ≤ 63) (hcomp : comp ≤ 2) :
    ∃ t, exec (.rfPwr idx comp) s = .next t ∧
      OnlyHost s t (sent { s.h with radio := { s.h.radio with pa := BitVec.ofNat 32 (idx + 2 ^ 8 * comp), paStg := none } } okLines) := by
  obtain ⟨hmask, hcode⟩ := rfPwr_word idx hidx comp hcomp
  generalize hw : BitVec.ofNat 32 (idx + 2 ^ 8 * comp) = w at *
  have hstage : s.h.radio.stagePa w = some { s.h.radio with paStg := some w } := by
    rw [Radio.stagePa, if_neg (by omega), hmask]
  have hrun : runCmd (.rfPwr idx comp) (s.lineOf (.rfPwr idx comp) 0) =
      (s.lineOf (.rfPwr idx comp) 0).stageRadio (some { s.h.radio with paStg := some w }) 11 := by
    rw [← hstage, ← hw]
    exact if_neg (by simp; omega)
  obtain ⟨t, ht, honly⟩ := s.stages_radio _ 11 _ hs rfl hrun (by decide) rfl
  rw [HostSide.groupNow_taken _ 11 rfl] at honly
  exact ⟨t, ht, honly⟩

end Sys2Proof.Machine
end

section
/-! Requests of the radio as the line of one command makes them (18_radio.md, Table 16-12, R608, R609, R648, R654, R655, R680). -/

namespace Sys2Proof.Machine

/-! ### Operations on the radio while a line is held -/

theorem HostSide.radio_beside (x : Radio → Radio) : BesideLine fun h => { h with radio := x h.radio } := fun _ _ _ _ => rfl

theorem HostSide.setCx_beside (w : Word) : BesideLine fun h => h.setCx w := by
  intro q d c h
  simp only [HostSide.setCx, apply_ite (HostSide.booked q d c)]
  rfl

/-- The first state of a step up (R648). -/
def HostSide.climb (h : HostSide) (t : RfTarget) : HostSide :=
  match t, h.radio.st with
  | .idle, _ => h
  | _, .sleep => h.rfTo .synth
  | _, .idle => h.rfTo .synth
  | _, _ => h

theorem HostSide.rfUp_climb (h : HostSide) (t : RfTarget) :
    h.rfUp t = (HostSide.rfWoken { h with radio := { h.radio with goal := some t } }).climb t := rfl

section
variable (m : BitVec 56) (c : Option Cur)

theorem HostSide.rfSleep_held (h : HostSide) : (h.held m c).rfSleep = h.rfSleep.held m c := by
  unfold HostSide.rfSleep
  dsimp only
  rw [← HostSide.rfTo_held, HostSide.rfDrop_held]
  rfl

theorem HostSide.rfDown_held (h : HostSide) (st : RfSt) : (h.held m c).rfDown st = (h.rfDown st).held m c := by
  unfold HostSide.rfDown
  dsimp only
  rw [← HostSide.rfTo_held, HostSide.rfDrop_held]
  rfl

theorem HostSide.rfWoken_held (h : HostSide) : (h.held m c).rfWoken = h.rfWoken.held m c := by
  simp only [HostSide.rfWoken, apply_ite (HostSide.held m c)]
  rfl

theorem HostSide.climb_held (h : HostSide) (t : RfTarget) : (h.held m c).climb t = (h.climb t).held m c := by
  have hradio : (h.held m c).radio = h.radio := rfl
  unfold HostSide.climb
  rw [hradio]
  split
  · rfl
  · exact HostSide.rfTo_held ..
  · exact HostSide.rfTo_held ..
  · rfl

theorem HostSide.rfUp_held (h : HostSide) (t : RfTarget) : (h.held m c).rfUp t = (h.rfUp t).held m c := by
  rw [HostSide.rfUp_climb, HostSide.rfUp_climb, ← HostSide.climb_held, ← HostSide.rfWoken_held]
  rfl

theorem HostSide.rfEnterRx_held (h : HostSide) : (h.held m c).rfEnterRx = (h.rfEnterRx.1.held m c, h.rfEnterRx.2) := by
  have hradio : (h.held m c).radio = h.radio := rfl
  unfold HostSide.rfEnterRx
  dsimp only
  rw [hradio]
  split
  · split
    · rfl
    · rw [← HostSide.rfTo_held]
      rfl
  · rfl

theorem HostSide.rfState_held (h : HostSide) (t : RfTarget) : (h.held m c).rfState t = ((h.rfState t).1.held m c, (h.rfState t).2) := by
  have hradio : (h.held m c).radio = h.radio := rfl
  unfold HostSide.rfState
  dsimp only
  rw [hradio]
  split
  · rfl
  · split
    · rfl
    · split
      · rw [HostSide.rfSleep_held]
      · rw [HostSide.rfUp_held]
      · rw [HostSide.rfDown_held]
      · rfl
      · rw [HostSide.rfDown_held]
      · rw [HostSide.rfUp_held]
      · rfl
      · rw [HostSide.rfUp_held, HostSide.rfEnterRx_held]
      · rw [HostSide.rfUp_held]

end

theorem HostSide.rfState_cur (h : HostSide) (t : RfTarget) (hc : h.line.cur = none) : (h.rfState t).1.line.cur = none := by
  have hkeep := h.rfState_held 0#56 none t
  rw [HostSide.held_none hc] at hkeep
  exact congrArg (fun r : HostSide × RfAns => r.1.line.cur) hkeep

/-- A line that waits replaces its record. -/
theorem HostSide.held_lineWaits (h : HostSide) (c : Option Cur) (w : Wait') : (h.held lineDomains c).lineWaits w = h.ran.lineWaits w := by
  have hdom : h.domNow ||| lineDomains = h.ran.domNow := (BitVec.or_assoc ..).symm
  simp only [HostSide.held, hdom]
  rfl

/-! ### `RF.STATE` (R648) -/

theorem rfState_reached (s : State) (t : RfTarget) (hs : HostIdle s) (hr : (s.h.rfState t).2 = .reached) :
    ∃ u, exec (.rfState t) s = .next u ∧ OnlyHost s u (sent (s.h.rfState t).1 okLines) := by
  refine ⟨_, rfl, ?_⟩
  rw [s.textCmd_acts ⟨s.f, (s.h.rfState t).1, s.pending⟩ (.rfState t) .ok okLines hs ?_ rfl (s.h.rfState_cur t hs.2.1)]
  · exact ⟨rfl, rfl, rfl⟩
  · rw [s.lineOf_held]
    change cmdRfState t _ = _
    simp only [cmdRfState, State.host_h, HostSide.rfState_held, hr]
    rfl

theorem rfState_runs (s : State) (t : RfTarget) (hs : HostIdle s) (hr : (s.h.rfState t).2 = .runs) :
    ∃ u, exec (.rfState t) s = .next u ∧ OnlyHost s u ((s.h.rfState t).1.ran.lineWaits .radio) := by
  have hrun : runCmd (.rfState t) (s.lineOf (.rfState t) 0) =
      (⟨⟨s.f, (s.h.rfState t).1.held lineDomains (some ((ownLine (.rfState t)).cur 0)), s.pending⟩, lineCur 0⟩, .wait .radio) := by
    rw [s.lineOf_held]
    change cmdRfState t _ = _
    simp only [cmdRfState, State.host_h, HostSide.rfState_held, hr]
    rfl
  have hwaits := s.textCmd_lineWaits (.rfState t) _ .radio hs hrun rfl rfl rfl
  rw [HostSide.held_lineWaits] at hwaits
  exact ⟨_, rfl, hwaits⟩

/-! ### `RF.CX` (R680) -/

/-- The bits of the word of `RF.CX` that its parts stand in. -/
theorem rfCx_bits (lead pri listen timeout : Nat) (hpri : pri ≤ 1) (hlisten : listen ≤ 1) :
    let w : Word := BitVec.ofNat 32 (1 + 2 * pri + 4 * listen + 16 * lead + 2 ^ 16 * timeout)
    bitOf w 0 = true ∧ bitOf w 2 = decide (listen = 1) := by
  intro w
  have hbit (i : Nat) (hi : i < 32) : bitOf w i = decide ((1 + 2 * pri + 4 * listen + 16 * lead + 2 ^ 16 * timeout) / 2 ^ i % 2 = 1) := by
    rw [bitOf, BitVec.getLsbD_ofNat, Nat.testBit_eq_decide_div_mod_eq]
    simp [hi]
  rw [hbit 0 (by decide), hbit 2 (by decide)]
  constructor
  · rw [decide_eq_true_eq]
    omega
  · rw [decide_eq_decide]
    omega

theorem rfCx_takes (s : State) (lead pri listen timeout : Nat) (hs : HostIdle s) (hlead : 10 ≤ lead) (hlead' : lead ≤ 500)
    (hpri : pri ≤ 1) (hlisten : listen ≤ 1) (htime : 1 ≤ timeout) (htime' : timeout ≤ 1000) (htx : s.h.radio.tx = none) :
    ∃ t, exec (.rfCx lead pri listen timeout) s = .next t ∧
      OnlyHost s t (sent { s.h with radio := { s.h.radio with
        cx := BitVec.ofNat 32 (1 + 2 * pri + 4 * listen + 16 * lead + 2 ^ 16 * timeout),
        susp := s.h.radio.susp && listen = 0 } } okLines) := by
  obtain ⟨hen, hbit⟩ := rfCx_bits lead pri listen timeout hpri hlisten
  have hset : s.h.setCx (BitVec.ofNat 32 (1 + 2 * pri + 4 * listen + 16 * lead + 2 ^ 16 * timeout)) =
      { s.h with radio := { s.h.radio with
        cx := BitVec.ofNat 32 (1 + 2 * pri + 4 * listen + 16 * lead + 2 ^ 16 * timeout),
        susp := s.h.radio.susp && listen = 0 } } := by
    have hlisten' : (!decide (listen = 1)) = decide (listen = 0) := by
      rw [← decide_not, decide_eq_decide]
      omega
    simp only [HostSide.setCx, hen, hbit, hlisten', Bool.and_true, if_true]
  rw [← hset]
  refine s.acts_host (HostSide.setCx_beside _) (.rfCx lead pri listen timeout) .ok okLines hs rfl ?_ rfl
  have hnone : ¬ (s.lineOf (.rfCx lead pri listen timeout) 0).s.h.radio.tx.isSome = true := by
    have hkeep : (s.lineOf (.rfCx lead pri listen timeout) 0).s.h.radio.tx = s.h.radio.tx := rfl
    rw [hkeep, htx]
    decide
  exact (if_neg (by simp; omega)).trans (if_neg hnone)

/-! ### Transmissions and received packets (R608, R609, R654, R655) -/

theorem rfTx_takes (s : State) (p : List Byte) (hs : HostIdle s) (hne : p ≠ []) (hlen : p.length ≤ 110) (hst : s.h.radio.noTx = false)
    (htx : s.h.radio.tx = none) : ∃ t, exec (.rfTx p) s = .next t ∧
      OnlyHost s t (sent { s.h with radio := s.h.radio.newTx p none } (valueLines ('T' :: decText s.h.radio.nextTx.toNat))) := by
  have hran : ¬ s.h.radio.noTx = true := by simp [hst]
  have hfree : ¬ s.h.radio.tx.isSome = true := by simp [htx]
  exact s.acts_host (HostSide.radio_beside fun _ => s.h.radio.newTx p none) (.rfTx p) (.val ('T' :: decText s.h.radio.nextTx.toNat)) _ hs
    rfl ((if_neg (by simp [hne]; omega)).trans ((if_neg hran).trans (if_neg hfree))) rfl

theorem rfTxj_takes (s : State) (len i : Nat) (h : HostSide) (hs : HostIdle s) (hmin : 1 ≤ len) (hmax : len ≤ 2047)
    (hst : s.h.radio.noTx = false) (htx : s.h.radio.tx = none) (hjob : s.h.startJob 6 [] (.rftx len) = some (h, i)) :
    ∃ t, exec (.rfTxj len) s = .next t ∧
      OnlyHost s t (sent { h with radio := h.radio.newTx ((List.range len).map fun o => bufGet o s.h.radio.buf) (some i) }
        (valueLines ('J' :: decText i))) := by
  have hran : ¬ s.h.radio.noTx = true := by simp [hst]
  have hfree : ¬ s.h.radio.tx.isSome = true := by simp [htx]
  have hc : h.line.cur = none := by
    obtain ⟨j, -, hj⟩ := Option.map_eq_some_iff.mp hjob
    rw [← (Prod.mk.inj hj).1]
    exact (HostSide.putJob_jobsOnly ..).cur.trans hs.2.1
  let k : HostSide := { h with radio := h.radio.newTx ((List.range len).map fun o => bufGet o s.h.radio.buf) (some i) }
  refine ⟨_, rfl, ?_⟩
  rw [s.textCmd_acts ⟨s.f, k, s.pending⟩ (.rfTxj len) (.val ('J' :: decText i)) _ hs ?_ rfl hc]
  · exact ⟨rfl, rfl, rfl⟩
  · rw [s.lineOf_held]
    refine (if_neg (by simp; omega)).trans ((if_neg hran).trans ((if_neg hfree).trans ?_))
    rw [State.host_h, HostSide.startJob_held, hjob]
    rfl

/-- The octets that `RF.BUF` has written, in turn from offset `o + n` on. -/
theorem bufGet_bufPuts (o k : Nat) : ∀ (bs : List Byte) (n : Nat) (buf : List (Nat × Byte)), o + n + bs.length ≤ 2047 → bufWf buf = true →
    bufGet k ((bs.zipIdx n).foldl (fun b e => bufPut (o + e.2) e.1 b) buf) =
      if o + n ≤ k ∧ k < o + n + bs.length then bs[k - (o + n)]?.getD 0#8 else bufGet k buf
  | [], n, buf, _, _ => by
    rw [if_neg (by simp only [List.length_nil]; omega)]
    rfl
  | b :: bs, n, buf, hfit, hbuf => by
    rw [List.length_cons] at hfit ⊢
    have hrest := bufGet_bufPuts o k bs (n + 1) (bufPut (o + n) b buf) (by omega) (bufPut_wf (o + n) b buf (by omega) hbuf)
    rw [List.zipIdx_cons, List.foldl_cons, hrest, bufGet_bufPut (o + n) b k hbuf]
    by_cases hhere : k = o + n
    · rw [if_neg (by omega), if_pos hhere, if_pos (by omega), hhere, Nat.sub_self]
      rfl
    · rw [if_neg hhere]
      by_cases hin : o + (n + 1) ≤ k ∧ k < o + (n + 1) + bs.length
      · rw [if_pos hin, if_pos (by omega), show k - (o + n) = k - (o + (n + 1)) + 1 by omega, List.getElem?_cons_succ]
      · rw [if_neg hin, if_neg (by omega)]

theorem rfBuf_takes (s : State) (o : Nat) (bs : List Byte) (hs : HostIdle s) (hne : bs ≠ []) (hlen : bs.length ≤ 100)
    (hfit : o + bs.length ≤ 2047) (hjobs : s.h.rftxJobs = []) (hbuf : bufWf s.h.radio.buf = true) :
    ∃ t, exec (.rfBuf o bs) s = .next t ∧
      OnlyHost s t (sent { s.h with radio := { s.h.radio with buf := t.h.radio.buf } } okLines) ∧
      ∀ k, bufGet k t.h.radio.buf = if o ≤ k ∧ k < o + bs.length then bs[k - o]?.getD 0#8 else bufGet k s.h.radio.buf := by
  have hpos : 0 < bs.length := List.length_pos_iff.mpr hne
  have hidle : ¬ (!s.h.rftxJobs.isEmpty) = true := by simp [hjobs]
  obtain ⟨t, ht, hh, hrest⟩ := s.acts_host
    (HostSide.radio_beside fun r => { r with buf := bs.zipIdx.foldl (fun b e => bufPut (o + e.2) e.1 b) r.buf }) (.rfBuf o bs) .ok okLines
    hs rfl ((if_neg (by simp [hne]; omega)).trans (if_neg hidle)) rfl
  have htbuf : t.h.radio.buf = bs.zipIdx.foldl (fun b e => bufPut (o + e.2) e.1 b) s.h.radio.buf := by
    rw [hh]
    rfl
  refine ⟨t, ht, ⟨?_, hrest⟩, fun k => ?_⟩
  · rw [htbuf]
    exact hh
  · rw [htbuf]
    exact bufGet_bufPuts o k bs 0 s.h.radio.buf hfit hbuf

theorem rfqPop_takes (s : State) (p : RxPkt) (rest : List RxPkt) (hs : HostIdle s) (hq : s.h.radio.rxq = p :: rest) :
    ∃ t, exec (.rfqPop p.id.toNat) s = .next t ∧
      OnlyHost s t (sent { s.h with radio := { s.h.radio with rxq := rest } } okLines) := by
  refine s.acts_host (HostSide.radio_beside fun r => { r with rxq := rest }) (.rfqPop p.id.toNat) .ok okLines hs rfl ?_ rfl
  have hfirst : (s.lineOf (.rfqPop p.id.toNat) 0).s.h.radio.rxq = p :: rest := hq
  change cmdRfqPop p.id.toNat _ = _
  simp only [cmdRfqPop, hfirst, if_true]
  rfl

/-- Settles O12: settings stage and apply their group, requests act on the radio beside their line. -/
theorem radioCommands : Obligations.RadioCommands :=
  ⟨rfCh_takes, rfMode_takes, rfFrame_takes, rfPwr_takes, rfCx_takes, rfState_reached, rfState_runs, rfTx_takes, rfTxj_takes, rfBuf_takes,
    rfqPop_takes⟩

end Sys2Proof.Machine
end

section
/-! The register map (20_register_map.md, R3, R703): the addresses that the two sides map are those of the map's ranges and of the Layout
Table. -/

namespace Sys2Proof.Machine

/-! ### Arrays of registers as lists of addresses -/

/-- The addresses of arrays of registers, each by its first address and its registers. -/
def arrayAddrs (es : List (Nat × Nat)) : List Nat := es.flatMap fun e => (List.range e.2).map fun i => e.1 + 4 * i

theorem regIdx_isSome (base n a : Nat) : (regIdx base n a).isSome = true ↔ a ∈ (List.range n).map fun i => base + 4 * i := by
  rw [Option.isSome_iff_exists, List.mem_map]
  refine ⟨fun ⟨i, hi⟩ => ?_, fun ⟨i, hi, ha⟩ => ⟨i, ?_⟩⟩
  · obtain ⟨hlt, rfl⟩ := regIdx_eq_some hi
    exact ⟨i, List.mem_range.mpr hlt, rfl⟩
  · rw [← ha]
    exact regIdx_at base (List.mem_range.mp hi)

theorem any_regIdx (es : List (Nat × Nat)) (a : Nat) : (es.any fun e => (regIdx e.1 e.2 a).isSome) = true ↔ a ∈ arrayAddrs es := by
  simp only [List.any_eq_true, arrayAddrs, List.mem_flatMap, regIdx_isSome]

/-- The ranges of the map as arrays. -/
def rangeArrays : List (Nat × Nat) := mapRanges.map fun e => (e.1, (e.2 - e.1) / 4 + 1)

theorem mappedAt_iff (a : Nat) : mappedAt a = true ↔ a ∈ arrayAddrs rangeArrays := by
  have haligned : ∀ e ∈ mapRanges, e.1 % 4 = 0 ∧ e.2 % 4 = 0 ∧ e.1 ≤ e.2 := by decide
  simp only [mappedAt, Bool.and_eq_true, decide_eq_true_eq, List.any_eq_true, arrayAddrs, rangeArrays, List.flatMap_map, List.mem_flatMap,
    List.mem_map, List.mem_range]
  constructor
  · rintro ⟨ha, e, he, hlo, hhi⟩
    obtain ⟨hfirst, hlast, -⟩ := haligned e he
    exact ⟨e, he, (a - e.1) / 4, by omega, by omega⟩
  · rintro ⟨e, he, i, hi, rfl⟩
    obtain ⟨hfirst, hlast, hle⟩ := haligned e he
    exact ⟨by omega, e, he, by omega, by omega⟩

/-! ### The two sides -/

/-- The arrays of registers that the host windows map (Tables 20-2 and 20-3): first address, registers. -/
def hostArrays : List (Nat × Nat) :=
  [(0x0000, 1), (0x0004, 1), (0x0010, 1), (0x0014, 1), (0x0018, 1), (0x001C, 1), (0x0020, 4), (0x0030, 4), (0x0040, 1), (0x0044, 1),
    (0x0048, 1), (0x0050, 1), (0x0054, 1), (0x0058, 1), (0x0060, 1), (0x0064, 1), (0x0068, 1), (0x0070, 1), (0x0074, 1), (0x0100, 1),
    (0x0104, 1), (0x0108, 1), (0x010C, 1), (0x0200, 56), (0x0400, 1), (0x0404, 1), (0x0408, 1), (0x040C, 1), (0x0410, 1), (0x0414, 1),
    (0x0418, 1), (0x041C, 1), (0x0420, 1), (0x0424, 1), (0x0428, 1), (0x0440, 6)]

/-- An address of the host windows is mapped. -/
def hostMapped (a : Nat) : Bool := hostArrays.any fun e => (regIdx e.1 e.2 a).isSome

/-- Whether a register of the host windows has a value is a matter of its address. -/
theorem HostSide.regValue_isSome (h : HostSide) (a : Nat) : (h.regValue a).isSome = hostMapped a := by
  simp only [HostSide.regValue, firstReg_isSome, hostMapped, hostArrays, List.any_cons, List.any_nil, Option.isSome_map]

theorem HostSide.regValue_isNone (h : HostSide) (a : Nat) : (h.regValue a).isNone = !hostMapped a := by
  rw [← h.regValue_isSome, Option.not_isSome]

/-- The ranges of the map are the host windows' registers, then the field window's. -/
theorem rangeAddrs_eq : arrayAddrs rangeArrays = arrayAddrs hostArrays ++ arrayAddrs fieldArrays := by decide +kernel

theorem hostAddrs_low : ∀ a ∈ arrayAddrs hostArrays, a < 0x1000 := by decide +kernel

theorem fieldAddrs_high : ∀ a ∈ arrayAddrs fieldArrays, 0x1000 ≤ a := by decide +kernel

theorem hostMapped_eq (a : Nat) : hostMapped a = (decide (a < 0x1000) && mappedAt a) := by
  rw [Bool.eq_iff_iff, Bool.and_eq_true, decide_eq_true_eq, hostMapped, any_regIdx, mappedAt_iff, rangeAddrs_eq, List.mem_append]
  refine ⟨fun ha => ⟨hostAddrs_low a ha, .inl ha⟩, fun ⟨hlow, ha⟩ => ha.resolve_right fun hfield => ?_⟩
  exact absurd (fieldAddrs_high a hfield) (Nat.not_le.mpr hlow)

theorem fieldMapped_eq (a : Nat) : fieldMapped a = (decide (0x1000 ≤ a) && mappedAt a) := by
  rw [Bool.eq_iff_iff, Bool.and_eq_true, decide_eq_true_eq, fieldMapped, any_regIdx, mappedAt_iff, rangeAddrs_eq, List.mem_append]
  refine ⟨fun ha => ⟨fieldAddrs_high a ha, .inr ha⟩, fun ⟨hhigh, ha⟩ => ha.resolve_left fun hhost => ?_⟩
  exact absurd (hostAddrs_low a hhost) (Nat.not_lt.mpr hhigh)

/-- Whether a register is mapped is a matter of its address. -/
theorem State.mapped_eq (s : State) (a : Nat) : s.mapped a = mappedAt a := by
  rw [State.mapped, Field.regValue_isSome, HostSide.regValue_isSome, fieldMapped_eq, hostMapped_eq]
  split
  · next hhigh => rw [decide_eq_true hhigh, Bool.true_and]
  · next hlow => rw [decide_eq_true (Nat.not_le.mp hlow), Bool.true_and]

/-! ### Accesses of addresses that are not mapped -/

theorem registerRead_unmapped (s : State) (a : BitVec 16) (hs : HostIdle s) (ha : mappedAt a.toNat = false) :
    ∃ t, exec (.registerRead a 1) s = .next t ∧ OnlyHost s t (sent s.h [errLine 20 none]) := by
  refine s.fails_only (.registerRead a 1) 20 hs rfl (if_pos ?_)
  have hmap : (s.lineOf (.registerRead a 1) 0).s.mapped a.toNat = false := (State.mapped_eq ..).trans ha
  simp [hmap]

theorem registerWrite_unmapped (s : State) (a : BitVec 16) (w : Word) (hs : HostIdle s) (ha : mappedAt a.toNat = false) :
    ∃ t, exec (.registerWrite a w) s = .next t ∧ OnlyHost s t (sent s.h [errLine 20 none]) := by
  refine s.fails_only (.registerWrite a w) 20 hs rfl ?_
  change cmdW a w _ = _
  unfold cmdW
  dsimp only
  split
  · exact if_pos (by rw [State.mapped_eq, ha]; rfl)
  · have hnone : (s.lineOf (.registerWrite a w) 0).s.h.writeReg a.toNat w = .none :=
      if_pos (by rw [HostSide.regValue_isNone, hostMapped_eq, ha, Bool.and_false]; rfl)
    rw [hnone]

/-- Settles O59: the sides, the ranges of the map and the Layout Table list the same addresses. -/
theorem mapIsExact : Obligations.MapIsExact := by
  have htable : regTable.map (·.addr) = arrayAddrs rangeArrays := by decide +kernel
  refine ⟨fun a => htable ▸ mappedAt_iff a, by decide +kernel, fun s a => ⟨?_, ?_⟩, fun s a w hs ha => ⟨?_, ?_⟩⟩
  · rw [HostSide.regValue_isSome, hostMapped_eq]
  · rw [Field.regValue_isSome, fieldMapped_eq]
  · exact registerRead_unmapped s a hs ha
  · exact registerWrite_unmapped s a w hs ha

end Sys2Proof.Machine
end

section
/-! `W` of the registers of the host windows (R612, R706, Table 0-3): those that act as a command, those that take their value at the end of
the line. -/

namespace Sys2Proof.Machine

/-! ### Lines with the same outcome -/

/-- What stands where the host side alone differs. -/
theorem exec_eq_of_onlyHost {s : State} {i j : Instr} {h : HostSide} (a : ∃ t, exec i s = .next t ∧ OnlyHost s t h)
    (b : ∃ t, exec j s = .next t ∧ OnlyHost s t h) : exec i s = exec j s := by
  obtain ⟨t, ht, hh, hf, hq⟩ := a
  obtain ⟨u, hu, hh', hf', hq'⟩ := b
  rw [ht, hu]
  exact congrArg Host.Outcome.next ((State.mk.injEq ..).mpr ⟨hf.trans hf'.symm, hh.trans hh'.symm, hq.trans hq'.symm⟩)

/-- A command of a line of its own that acts as a rate setting. -/
theorem State.sets_baud (s : State) (i : Instr) (b : Nat) (hs : HostIdle s) (hexec : exec i s = .next (s.textCmd i))
    (hrun : runCmd i (s.lineOf i 0) = cmdBaud b (s.lineOf i 0)) : ∃ t, exec i s = .next t ∧
      OnlyHost s t (if baudBad b then sent s.h [errLine 20 none] else s.h.ran.respond none false okLines ⟨none, some b, false⟩) := by
  by_cases hb : baudBad b = true
  · rw [if_pos hb]
    exact s.fails_only i 20 hs hexec (hrun.trans (if_pos hb))
  · have hleaves := s.leaves_only i [] ⟨none, some b, false⟩ hs hexec (hrun.trans (if_neg hb))
    rw [HostSide.restarts_none rfl] at hleaves
    rw [if_neg hb]
    exact hleaves

/-- A command of a line of its own that acts as a mode setting. -/
theorem State.sets_mode (s : State) (i : Instr) (m : UMode) (hs : HostIdle s) (hexec : exec i s = .next (s.textCmd i))
    (hrun : runCmd i (s.lineOf i 0) = cmdMode m (s.lineOf i 0)) : ∃ t, exec i s = .next t ∧
      OnlyHost s t (HostSide.respond { s.h.ran with line := { s.h.line with cache := [] } } none false okLines
        ⟨some m, none, false⟩) := by
  have hleaves := s.leaves_host i { s.h with line := { s.h.line with cache := [] } } [] ⟨some m, none, false⟩ hs hexec
    (by rw [hrun, s.lineOf_held]; rfl) hs.2.1
  rw [HostSide.restarts_none rfl] at hleaves
  exact hleaves

/-! ### `ST.CLR` and `W` of its register -/

/-- The state after a status clear whose field half was accepted within the step. -/
def State.stClrServed (s : State) (m : Word) : State :=
  ⟨{ s.f with
      pendW := s.f.pendW ++ [.stClr (m &&& fieldMask)],
      bar := { s.f.bar with lastSeq := some s.h.bar.nextSeq, lastAns := some (ackOf .regwr s.h.bar.nextSeq) } },
    (sent (s.h.clearBits m) okLines).booked (s.h.bar.nextSeq + 1) s.h.ran.msgDomains.domNow none, s.pending⟩

/-- On quiet lanes the field half is accepted within the step. -/
theorem State.textCmd_stClr (s : State) (i : Instr) (m : Word) (hs : HostIdle s) (hlink : s.h.bar.link = true) (hquiet : s.quiet = true)
    (hrun : runCmd i (s.lineOf i 0) =
      thenDo ((s.lineOf i 0).send (.stClr (m &&& fieldMask))) fun l => (l.host fun h => h.clearBits m).ok) :
    s.textCmd i = s.stClrServed m := by
  have hmask : m &&& fieldMask &&& fieldMask = m &&& fieldMask := by rw [BitVec.and_assoc, BitVec.and_self]
  have hserve : (s.lineOf i 0).s.f.serve (s.lineOf i 0).s.h.bar.nextSeq (.stClr (m &&& fieldMask)) =
      ({ s.f with pendW := s.f.pendW ++ [.stClr (m &&& fieldMask)] }, ackOf .regwr s.h.bar.nextSeq) := by
    simp only [Field.serve, Field.pend, hmask]
    rfl
  have hacc := (s.lineOf i 0).s.access_served (.stClr (m &&& fieldMask)) _ _ hserve
  have hsend : (s.lineOf i 0).send (.stClr (m &&& fieldMask)) =
      (⟨((s.lineOf i 0).s.access (.stClr (m &&& fieldMask))).1, { lineCur 0 with ans := [(0, 0#32)], used := 1 }⟩, .ok) := by
    have hup : ¬ (!s.h.bar.link) = true := by simp [hlink]
    have hready : (s.lineOf i 0).access (.stClr (m &&& fieldMask)) =
        (⟨((s.lineOf i 0).s.access (.stClr (m &&& fieldMask))).1, { lineCur 0 with
          ans := [((s.lineOf i 0).s.access (.stClr (m &&& fieldMask))).2], used := 1 }⟩,
          some ((s.lineOf i 0).s.access (.stClr (m &&& fieldMask))).2) := (if_neg hup).trans (if_pos hquiet)
    rw [Lx.send, hready, hacc]
    rfl
  let k : Lx := ⟨((s.lineOf i 0).s.access (.stClr (m &&& fieldMask))).1, { lineCur 0 with ans := [(0, 0#32)], used := 1 }⟩
  have hline : runCmd i (s.lineOf i 0) = (k.host fun h => h.clearBits m).ok := by
    rw [hrun, hsend]
    rfl
  have hk : k.s = ⟨{ s.f with
      pendW := s.f.pendW ++ [.stClr (m &&& fieldMask)],
      bar := { s.f.bar with lastSeq := some s.h.bar.nextSeq, lastAns := some (ackOf .regwr s.h.bar.nextSeq) } },
      s.h.booked (s.h.bar.nextSeq + 1) s.h.ran.msgDomains.domNow (some ((ownLine i).cur 0)), s.pending⟩ := congrArg Prod.fst hacc
  have hclear : k.s.h.clearBits m =
      (s.h.clearBits m).booked (s.h.bar.nextSeq + 1) s.h.ran.msgDomains.domNow (some ((ownLine i).cur 0)) := by
    rw [hk]
    exact HostSide.clearBits_beside m ..
  rw [s.textCmd_answered i hs (k.host fun h => h.clearBits m) .ok okLines hline rfl rfl]
  simp only [Lx.host, State.host, hclear]
  rw [hk]
  rfl

/-- A command of a line of its own that clears status bits, its outcome told by the state alone: the host half at once; ERR 60 for the
field half while `LINK` is clear; on quiet lanes both. -/
theorem State.clears_status (s : State) (i : Instr) (m : Word) (hs : HostIdle s) (hexec : exec i s = .next (s.textCmd i))
    (hrun : runCmd i (s.lineOf i 0) = cmdStClr m (s.lineOf i 0)) :
    (m &&& fieldMask = 0#32 → ∃ t, exec i s = .next t ∧ OnlyHost s t (sent (s.h.clearBits m) okLines)) ∧
    (m &&& fieldMask ≠ 0#32 → s.h.bar.link = false → ∃ t, exec i s = .next t ∧ OnlyHost s t (sent s.h [errLine 60 none])) ∧
    (m &&& fieldMask ≠ 0#32 → s.h.bar.link = true → s.quiet = true → exec i s = .next (s.stClrServed m)) ∧
    (m &&& fieldMask ≠ 0#32 → s.h.bar.link = true → s.quiet = false → ∃ t, exec i s = .next t ∧
      OnlyHost s t ((s.h.ran.send .regwr [regWord 0 Config.stClrAddr.toNat, m &&& fieldMask] none).lineAsks i (.stClr (m &&& fieldMask)))) := by
  refine ⟨fun hm => ?_, fun hm hlink => ?_, fun hm hlink hquiet => ?_, fun hm hlink hquiet => ?_⟩
  · exact s.acts_host (HostSide.clearBits_beside m) i .ok okLines hs hexec (hrun.trans (if_pos hm)) rfl
  · have hdown := (s.lineOf_cutOff i hlink).access (.stClr (m &&& fieldMask))
    refine s.fails_only i 60 hs hexec (hrun.trans ((if_neg hm).trans ?_))
    rw [Lx.send, hdown]
    rfl
  · exact hexec.trans (congrArg Host.Outcome.next (s.textCmd_stClr i m hs hlink hquiet (hrun.trans (if_neg hm))))
  · have hbusy : (s.lineOf i 0).access (.stClr (m &&& fieldMask)) = (s.lineOf i 0, none) := by
      have hl : ¬ (!s.h.bar.link) = true := by simp [hlink]
      have hq : ¬ s.quiet = true := by simp [hquiet]
      exact (if_neg hl).trans (if_neg hq)
    refine ⟨_, hexec, s.textCmd_asks i (.stClr (m &&& fieldMask)) hs (hrun.trans ((if_neg hm).trans ?_))⟩
    rw [Lx.send, hbusy]
    rfl

/-- Two commands of a line of their own that clear the same status bits. -/
theorem State.clears_same (s : State) (i j : Instr) (m : Word) (hs : HostIdle s) (hi : exec i s = .next (s.textCmd i))
    (hj : exec j s = .next (s.textCmd j)) (hruni : runCmd i (s.lineOf i 0) = cmdStClr m (s.lineOf i 0))
    (hrunj : runCmd j (s.lineOf j 0) = cmdStClr m (s.lineOf j 0))
    (h : m &&& fieldMask = 0#32 ∨ s.h.bar.link = false ∨ s.quiet = true) : exec i s = exec j s := by
  obtain ⟨hosti, downi, quieti, -⟩ := s.clears_status i m hs hi hruni
  obtain ⟨hostj, downj, quietj, -⟩ := s.clears_status j m hs hj hrunj
  by_cases hm : m &&& fieldMask = 0#32
  · exact exec_eq_of_onlyHost (hosti hm) (hostj hm)
  · cases hlink : s.h.bar.link with
    | false => exact exec_eq_of_onlyHost (downi hm hlink) (downj hm hlink)
    | true =>
      have hquiet : s.quiet = true := (h.resolve_left hm).resolve_left (by simp [hlink])
      exact (quieti hm hlink hquiet).trans (quietj hm hlink hquiet).symm

/-- On busy lanes the two lines wait for the same answer, and their records alone differ. -/
theorem State.clears_alike (s : State) (i j : Instr) (m : Word) (hs : HostIdle s) (hi : exec i s = .next (s.textCmd i))
    (hj : exec j s = .next (s.textCmd j)) (hruni : runCmd i (s.lineOf i 0) = cmdStClr m (s.lineOf i 0))
    (hrunj : runCmd j (s.lineOf j 0) = cmdStClr m (s.lineOf j 0)) :
    ∃ t u, exec i s = .next t ∧ exec j s = .next u ∧ t.f = u.f ∧ t.pending = u.pending ∧
      t.h = { u.h with line := { u.h.line with cur := t.h.line.cur } } ∧ t.h.line.cur.isSome = u.h.line.cur.isSome := by
  by_cases hready : m &&& fieldMask = 0#32 ∨ s.h.bar.link = false ∨ s.quiet = true
  · exact ⟨_, _, (s.clears_same i j m hs hi hj hruni hrunj hready).trans hj, hj, rfl, rfl, rfl, rfl⟩
  · obtain ⟨hm, hlink, hquiet⟩ : m &&& fieldMask ≠ 0#32 ∧ s.h.bar.link = true ∧ s.quiet = false := by
      simpa only [not_or, Bool.not_eq_true, Bool.not_eq_false] using hready
    obtain ⟨-, -, -, busyi⟩ := s.clears_status i m hs hi hruni
    obtain ⟨-, -, -, busyj⟩ := s.clears_status j m hs hj hrunj
    obtain ⟨t, ht, hth, htf, htq⟩ := busyi hm hlink hquiet
    obtain ⟨u, hu, huh, huf, huq⟩ := busyj hm hlink hquiet
    refine ⟨t, u, ht, hu, htf.trans huf.symm, htq.trans huq.symm, ?_, ?_⟩
    · rw [hth, huh]
      rfl
    · rw [hth, huh]
      rfl

/-! ### `W` as a command, and `W` of an RW register -/

section
variable {l : Lx} {a : BitVec 16} {w : Word} (ha : a.toNat < 0x1000)
include ha

theorem cmdW_none (hreg : l.s.h.writeReg a.toNat w = .none) : cmdW a w l = l.fail 20 := by
  simp only [cmdW, if_neg (Nat.not_le.mpr ha), hreg]

theorem cmdW_err {e : Nat} (hreg : l.s.h.writeReg a.toNat w = .err e) : cmdW a w l = l.fail e := by
  simp only [cmdW, if_neg (Nat.not_le.mpr ha), hreg]

theorem cmdW_baud {b : Nat} (hreg : l.s.h.writeReg a.toNat w = .baud b) : cmdW a w l = cmdBaud b l := by
  simp only [cmdW, if_neg (Nat.not_le.mpr ha), hreg]

/-- An RW register takes its value at the end of the line. -/
theorem cmdW_later {h : HostSide} {v : Word} (hreg : l.s.h.writeReg a.toNat w = .later h v) :
    cmdW a w l = (⟨l.s.host fun _ => h, { l.c with writes := l.c.writes ++ [(a.toNat, v)] }⟩, .ok) := by
  simp only [cmdW, if_neg (Nat.not_le.mpr ha), hreg, Lx.host]

end

theorem cmdW_stClr (l : Lx) (w : Word) : cmdW 0x0014#16 w l = cmdStClr w l := rfl

theorem cmdW_mode (l : Lx) (w : Word) :
    cmdW 0x0044#16 w l = cmdMode (if !bitOf w 0 then .human else if bitOf w 1 then .machineChk else .machine) l := rfl

/-- `W` of the rate register refuses a rate out of range as `UART.BAUD` does. -/
theorem cmdW_uartBaud (l : Lx) (w : Word) : cmdW 0x0040#16 w l = cmdBaud (fieldOf w 0 22) l := by
  have hreg : l.s.h.writeReg 0x0040 w = if baudBad (fieldOf w 0 22) then .err 20 else .baud (fieldOf w 0 22) := rfl
  by_cases hbad : baudBad (fieldOf w 0 22) = true
  · rw [cmdW_err (by decide) (hreg.trans (if_pos hbad)), cmdBaud, if_pos hbad]
  · rw [cmdW_baud (by decide) (hreg.trans (if_neg hbad))]

theorem HostSide.writeReg_attnMask (h : HostSide) (w : Word) :
    h.writeReg 0x0018 w = if w &&& ~~~attnMaskBits = 0#32 then .later h w else .err 20 := rfl

theorem HostSide.writeReg_rotCfg (h : HostSide) (w : Word) :
    h.writeReg 0x0100 w = if fieldOf w 16 16 < 64 then .err 20 else .later h (w &&& 0xFFFF0001#32) := rfl

/-- `W` of an RW register of the host windows, as a line of its own. -/
theorem registerWrite_later (s : State) (a : BitVec 16) (w v : Word) (hs : HostIdle s) (ha : a.toNat < 0x1000)
    (hreg : ∀ h : HostSide, h.writeReg a.toNat w = .later h v) :
    ∃ t, exec (.registerWrite a w) s = .next t ∧ OnlyHost s t (sent (s.h.putRegs [(a.toNat, v)]) okLines) :=
  s.writes_only (.registerWrite a w) [(a.toNat, v)] hs rfl (cmdW_later ha (hreg _))

/-- Settles O13: `W` runs as its register's command (`cmdW_stClr`, `cmdW_uartBaud`, `cmdW_mode`), is refused, or leaves a register write. -/
theorem hostRegisterWrites : Obligations.HostRegisterWrites := by
  refine ⟨fun s w hs => ⟨?_, fun h => ?_, ?_, ?_⟩, fun s w hs hw => ?_, fun s w hs hw => ?_, fun s w hs hw => ?_, fun s a w hs ha hnone => ?_⟩
  · exact s.clears_alike (.registerWrite 0x0014#16 w) (.stClr w) w hs rfl rfl (cmdW_stClr _ w) rfl
  · exact s.clears_same (.registerWrite 0x0014#16 w) (.stClr w) w hs rfl rfl (cmdW_stClr _ w) rfl h
  · exact exec_eq_of_onlyHost (s.sets_baud (.registerWrite 0x0040#16 w) _ hs rfl (cmdW_uartBaud _ w))
      (s.sets_baud (.uartBaud (fieldOf w 0 22)) _ hs rfl rfl)
  · exact exec_eq_of_onlyHost (s.sets_mode (.registerWrite 0x0044#16 w) _ hs rfl (cmdW_mode _ w)) (s.sets_mode (.mode _) _ hs rfl rfl)
  · exact registerWrite_later s 0x0018#16 w w hs (by decide) fun h => (h.writeReg_attnMask w).trans (if_pos hw)
  · exact s.fails_only (.registerWrite 0x0018#16 w) 20 hs rfl
      (cmdW_err (a := 0x0018#16) (by decide) ((HostSide.writeReg_attnMask _ w).trans (if_neg hw)))
  · exact registerWrite_later s 0x0100#16 w (w &&& 0xFFFF0001#32) hs (by decide) fun h =>
      (h.writeReg_rotCfg w).trans (if_neg (Nat.not_lt.mpr hw))
  · have hunmapped : hostMapped a.toNat = false := by
      rw [← s.h.regValue_isSome, hnone]
      rfl
    exact s.fails_only (.registerWrite a w) 20 hs rfl (cmdW_none ha (if_pos (by rw [HostSide.regValue_isNone, hunmapped]; rfl)))

end Sys2Proof.Machine
end

section
/-! `R` of the host windows (R611, R670): what the registers show to the line that reads them, and the open values that it draws. -/

namespace Sys2Proof.Machine

/-! ### Registers that a line reads -/

/-- The host registers show the same to every line that executes. -/
theorem HostSide.regValue_cur (h : HostSide) (c d : Cur) (a : Nat) :
    HostSide.regValue { h with line := { h.line with cur := some c } } a =
      HostSide.regValue { h with line := { h.line with cur := some d } } a := rfl

/-- The host side after `n` open values have been drawn. -/
def HostSide.drawn (n : Nat) (h : HostSide) : HostSide := { h with freeCtr := h.freeCtr + n }

theorem HostSide.drawn_beside (n : Nat) : BesideLine (HostSide.drawn n) := fun _ _ _ _ => rfl

theorem HostSide.drawn_drawn (h : HostSide) (m n : Nat) : (h.drawn m).drawn n = h.drawn (m + n) := by
  simp only [HostSide.drawn, Nat.add_assoc]

/-- Whether a register has an open value, as a number of draws. -/
def draws (a : Nat) : Nat := if openReg a then 1 else 0

theorem openReads_zero (a : Nat) : openReads a 0 = 0 := rfl

theorem openReads_succ (a n : Nat) : openReads a (n + 1) = draws a + openReads (a + 4) n := by
  have hshift (i : Nat) : openReg (a + 4 * (i + 1)) = openReg (a + 4 + 4 * i) := congrArg openReg (by omega)
  simp only [openReads, draws, List.range_succ_eq_map, List.filter_cons, List.filter_map, Function.comp_def, hshift,
    Nat.mul_zero, Nat.add_zero]
  split
  · rw [List.length_cons, List.length_map, Nat.add_comm]
  · rw [List.length_map, Nat.zero_add]

/-- The text of a host register as a line reads it. -/
def HostSide.shows (h : HostSide) (a : Nat) : Text := hexText 8 ((h.regValue a).getD 0#32).toNat

/-- One register of the host windows. -/
theorem Lx.readReg_host (l : Lx) (a : Nat) (ha : hostMapped a = true) (hlow : a < 0x1000) :
    l.readReg a = (l.host (HostSide.drawn (draws a)), .val (l.s.h.shows a)) := by
  obtain ⟨w, hw⟩ := Option.isSome_iff_exists.mp ((l.s.h.regValue_isSome a).trans ha)
  have hdraw : (if (decide (a = 0x0400) || decide (a = 0x0418)) = true then l.host HostSide.freeNext else l) =
      l.host (HostSide.drawn (draws a)) := by
    unfold draws openReg
    split <;> rfl
  rw [Lx.readReg, if_neg (Nat.not_le.mpr hlow), hw]
  dsimp only
  rw [hdraw, HostSide.shows, hw]
  rfl

/-- Registers of the host windows in turn, each as it stands after the draws of those before it. -/
theorem Lx.readRegs_host : ∀ (n : Nat) (a : Nat) (l : Lx), (∀ i < n, hostMapped (a + 4 * i) = true) → a + 4 * n ≤ 0x1000 →
    l.readRegs a n = (l.host (HostSide.drawn (openReads a n)), .block ((List.range n).map fun i =>
      commas ['+' :: hexText 4 (a + 4 * i), (l.s.h.drawn (openReads a i)).shows (a + 4 * i)]))
  | 0, a, l, _, _ => rfl
  | n + 1, a, l, hmap, hlow => by
    have hhead := l.readReg_host a (hmap 0 (Nat.zero_lt_succ n)) (by omega)
    have hshift (i : Nat) : a + 4 + 4 * i = a + 4 * (i + 1) := by omega
    have htail := Lx.readRegs_host n (a + 4) (l.host (HostSide.drawn (draws a)))
      (fun i hi => hshift i ▸ hmap (i + 1) (Nat.succ_lt_succ hi)) (by omega)
    have hdrawn (i : Nat) : ((l.host (HostSide.drawn (draws a))).s.h.drawn (openReads (a + 4) i)) = l.s.h.drawn (openReads a (i + 1)) := by
      rw [openReads_succ, ← HostSide.drawn_drawn]
      rfl
    simp only [hshift, hdrawn] at htail
    rw [Lx.readRegs, hhead]
    dsimp only
    rw [htail]
    dsimp only
    rw [List.range_succ_eq_map, List.map_cons, List.map_map, openReads_succ]
    refine Prod.ext ?_ rfl
    exact congrArg (fun h => (⟨⟨l.s.f, h, l.s.pending⟩, l.c⟩ : Lx)) (HostSide.drawn_drawn ..)

/-! ### The command -/

/-- `R` in range of registers that are mapped reads them. -/
theorem cmdR_mapped (a : BitVec 16) (n : Nat) (l : Lx) (hmin : 1 ≤ n) (hmax : n ≤ 16)
    (hmap : ∀ i < n, mappedAt (a.toNat + 4 * i) = true) :
    cmdR a n l = if n = 1 then l.readReg a.toNat else l.readRegs a.toNat n := by
  refine if_neg ?_
  have hall : ((List.range n).all fun i => l.s.mapped (a.toNat + 4 * i)) = true :=
    List.all_eq_true.mpr fun i hi => (l.s.mapped_eq _).trans (hmap i (List.mem_range.mp hi))
  rw [hall]
  simp
  omega

/-- What an answer of `R` says of the registers: they are in range, and each has a value. -/
theorem readAnswer_some {val : Nat → Option Word} {a n : Nat} {ls : List Text} (h : readAnswer val a n = some ls) :
    1 ≤ n ∧ n ≤ 16 ∧ (∀ i < n, (val i).isSome = true) ∧
      ls = if n = 1 then valueLines (hexText 8 ((val 0).getD 0#32).toNat)
        else blockLines ((List.range n).map fun i => commas ['+' :: hexText 4 (a + 4 * i), hexText 8 ((val i).getD 0#32).toNat]) := by
  obtain ⟨hrange, hrest⟩ := Option.ite_none_left_eq_some.mp h
  simp only [Bool.or_eq_true, decide_eq_true_eq, not_or, Nat.not_lt] at hrange
  by_cases hone : n = 1
  · rw [if_pos hone] at hrest ⊢
    obtain ⟨w, hw, hls⟩ := Option.map_eq_some_iff.mp hrest
    refine ⟨hrange.1, hrange.2, fun i hi => ?_, ?_⟩
    · obtain rfl : i = 0 := by omega
      rw [hw]
      rfl
    · rw [← hls, hw]
      rfl
  · rw [if_neg hone] at hrest ⊢
    obtain ⟨ts, hts, hls⟩ := Option.map_eq_some_iff.mp hrest
    obtain ⟨hall, hts⟩ := Option.ite_none_right_eq_some.mp hts
    refine ⟨hrange.1, hrange.2, fun i hi => List.all_eq_true.mp hall i (List.mem_range.mpr hi), ?_⟩
    rw [← hls, ← Option.some.inj hts]

/-- `R` of the host windows. -/
theorem registerRead_host (s : State) (a : BitVec 16) (n : Nat) (ls : List Text) (hs : HostIdle s) (hlow : a.toNat + 4 * n ≤ 0x1000)
    (h : readAnswer (fun i => HostSide.regValue { s.h.inLine with freeCtr := s.h.freeCtr + openReads a.toNat i } (a.toNat + 4 * i))
      a.toNat n = some ls) :
    ∃ t, exec (.registerRead a n) s = .next t ∧
      OnlyHost s t (sent { s.h with freeCtr := s.h.freeCtr + openReads a.toNat n } ls) := by
  obtain ⟨hmin, hmax, hval, hls⟩ := readAnswer_some h
  have hmapped (i : Nat) (hi : i < n) : hostMapped (a.toNat + 4 * i) = true := (HostSide.regValue_isSome ..).symm.trans (hval i hi)
  have hat (i : Nat) (hi : i < n) : mappedAt (a.toNat + 4 * i) = true :=
    (Bool.and_eq_true_iff.mp ((hostMapped_eq _).symm.trans (hmapped i hi))).2
  have hshown (i : Nat) : ((s.lineOf (.registerRead a n) 0).s.h.drawn (openReads a.toNat i)).shows (a.toNat + 4 * i) =
      hexText 8 ((HostSide.regValue { s.h.inLine with freeCtr := s.h.freeCtr + openReads a.toNat i } (a.toNat + 4 * i)).getD 0#32).toNat :=
    congrArg (fun o => hexText 8 (Option.getD o 0#32).toNat)
      (HostSide.regValue_cur (s.h.ran.drawn (openReads a.toNat i)) ((ownLine (.registerRead a n)).cur 0) oneLine (a.toNat + 4 * i))
  have hexec : exec (.registerRead a n) s = .next (s.textCmd (.registerRead a n)) := rfl
  have hcmd := cmdR_mapped a n (s.lineOf (.registerRead a n) 0) hmin hmax hat
  by_cases hone : n = 1
  · subst hone
    rw [if_pos rfl, Lx.readReg_host _ a.toNat (hmapped 0 Nat.one_pos) (by omega)] at hcmd
    rw [if_pos rfl] at hls
    have hreads : draws a.toNat = openReads a.toNat 1 := by rw [openReads_succ, openReads_zero, Nat.add_zero]
    rw [hreads] at hcmd
    exact s.acts_host (HostSide.drawn_beside _) (.registerRead a 1) _ ls hs hexec hcmd
      (congrArg some ((congrArg valueLines (hshown 0)).trans hls.symm))
  · rw [if_neg hone, Lx.readRegs_host n a.toNat _ hmapped hlow] at hcmd
    rw [if_neg hone] at hls
    simp only [hshown] at hcmd
    exact s.acts_host (HostSide.drawn_beside _) (.registerRead a n) _ ls hs hexec hcmd (congrArg some hls.symm)

end Sys2Proof.Machine
end

section
/-! `R` and `KEEP?` of the field window (R54, R335, R599): registers read in turn, with the parity check of the KEEP bytes, on quiet
lanes (R210) and on busy ones (R108). -/

namespace Sys2Proof.Machine

/-! ### The parity checks of the registers read -/

/-- The checks of `n` registers and of one more. -/
theorem checked_last (f : Field) (a n : Nat) : checked f a (n + 1) = (checked f a n).readChecks (a + 4 * n) := by
  rw [checked, List.range_succ, List.foldl_append]
  rfl

/-- The checks of one register and of `n` more. -/
theorem checked_first (f : Field) (a n : Nat) : checked f a (n + 1) = checked (f.readChecks a) (a + 4) n := by
  have hshift (i : Nat) : a + 4 * (i + 1) = a + 4 + 4 * i := by omega
  rw [checked, List.range_succ_eq_map, List.foldl_cons, List.foldl_map]
  simp only [hshift]
  rfl

theorem Field.readChecks_clk (f : Field) (a : Nat) : (f.readChecks a).clk = f.clk := by rw [f.readChecks_rest]

theorem checked_clk (f : Field) (a n : Nat) : (checked f a n).clk = f.clk := by
  induction n with
  | zero => rfl
  | succ n ih => rw [checked_last, Field.readChecks_clk, ih]

/-- The registers of the snapshot set are no KEEP bytes. -/
theorem Field.readChecks_snapshot (f : Field) {a : Nat} (ha : inSnapshot a = true) : f.readChecks a = f := by
  have hkeep : regIdx 0x1300 64 a = none := by
    simp only [inSnapshot, Bool.or_eq_true, regIdx, Option.isSome_ite, Bool.and_eq_true, decide_eq_true_eq] at ha
    refine if_neg ?_
    simp only [Bool.and_eq_true, decide_eq_true_eq]
    omega
  rw [Field.readChecks, hkeep]

/-- The KEEP bytes are mapped. -/
theorem fieldMapped_keep (n : Nat) (hn : n < 64) : fieldMapped (0x1300 + 4 * n) = true := by
  revert n
  decide +kernel

/-- What a register shows does not rest on the `SEQ` bookkeeping. -/
theorem Field.shows_seq (f : Field) (n : Option (BitVec 4)) (x : Option Txn) (a : Nat) :
    ({ f with bar := { f.bar with lastSeq := n, lastAns := x } } : Field).shows a = f.shows a :=
  congrArg (fun o => hexText 8 (Option.getD o 0#32).toNat) (Field.regValue_bar _ _ _ _ rfl rfl rfl)

/-! ### Registers that a line reads -/

/-- From `l` to `k` the accesses of a line were answered within one frame, and left the field side as `f`. -/
def Lx.Reads (l k : Lx) (f : Field) : Prop := l.Leaves k f ∧ (k.c.snap = none ∨ k.c.snap = some f.clk)

/-- The answer of a register read. -/
def readAnswerOf (seq : BitVec 4) (v : Word) : Txn := ⟨.regdat, seq, [v], none⟩

/-- The state after a read that is answered at once. -/
theorem State.access_read (s : State) (g : Field) {a : Nat} {v : Word}
    (hserve : s.f.serve s.h.bar.nextSeq (.read a) = (g, readAnswerOf s.h.bar.nextSeq v)) : s.access (.read a) =
      (⟨{ g with bar := { g.bar with lastSeq := some s.h.bar.nextSeq, lastAns := some (readAnswerOf s.h.bar.nextSeq v) } },
        { s.h with bar := { s.h.bar with nextSeq := s.h.bar.nextSeq + 1 }, domNow := s.h.msgDomains.domNow }, s.pending⟩, (0, v)) := by
  have hres : resultOf (readAnswerOf s.h.bar.nextSeq v) = (0, v) := rfl
  have hcopied (h : HostSide) (e : Nat) : h.copied (.read a) e = h := rfl
  simp only [State.access, hserve, hres, hcopied, HostSide.msgDomains, HostSide.domain]

/-- On quiet lanes a read that leaves the barrier and the start of the field side has its value, and the next access will. -/
theorem Lx.readWord_answered (l : Lx) (g : Field) {a : Nat} {v : Word} (hl : l.Ready)
    (hserve : l.s.f.serve l.s.h.bar.nextSeq (.read a) = (g, readAnswerOf l.s.h.bar.nextSeq v)) (hbar : g.bar = l.s.f.bar)
    (hstart : g.start = l.s.f.start) :
    ∃ k, l.readWord a = (k, .val (hexText 8 v.toNat)) ∧ l.Leaves k g ∧ k.c.snap = l.c.snap := by
  obtain ⟨hlink, hquiet, hans⟩ := hl
  have hnone : l.c.ans[l.c.used]? = none := List.getElem?_eq_none hans
  have hacc := l.s.access_read g hserve
  have hread : l.readWord a =
      (⟨(l.s.access (.read a)).1, { l.c with ans := l.c.ans ++ [(0, v)], used := l.c.used + 1 }⟩, .val (hexText 8 v.toNat)) := by
    simp only [Lx.readWord, Lx.access, hnone, hlink, hquiet, hacc, Bool.not_true, Bool.false_eq_true, if_false, if_true]
  have hready : g.barReady = l.s.f.barReady := by simp only [Field.barReady, Field.runs, hstart]
  refine ⟨_, hread, ⟨?_, rfl, ?_, ?_, by simpa using hans⟩, rfl⟩
  · rw [hacc]
    exact exchanged_iff.mpr ⟨_, _, _, _, .inr rfl, rfl⟩
  · rw [hacc]
    exact hlink
  · obtain ⟨hup, htick, hunans, hqueue, hlane, hfield, -⟩ := l.s.quiet_iff.mp hquiet
    rw [hacc, hbar, State.quiet_iff]
    exact ⟨hready.trans hup, htick, hunans, hqueue, hlane, hfield, next_seq_ne _⟩

/-- The field side after the accesses is as they leave it, but for the `SEQ` bookkeeping. -/
theorem Lx.Leaves.field_seq {l k : Lx} {f : Field} (h : l.Leaves k f) :
    ∃ n x, k.s.f = { f with bar := { f.bar with lastSeq := n, lastAns := x } } := ⟨_, _, h.1.2.2.1⟩

/-- One `REGRD` is answered with the value, and its parity check is made (R54, R335). -/
theorem Lx.readWord_checked (l : Lx) {a : Nat} (hl : l.Ready) (ha : fieldMapped a = true) :
    ∃ k, l.readWord a = (k, .val ((l.s.f.readChecks a).shows a)) ∧ l.Leaves k (l.s.f.readChecks a) ∧ k.c.snap = l.c.snap := by
  obtain ⟨v, hv⟩ := Option.isSome_iff_exists.mp (((l.s.f.readChecks a).regValue_isSome l.s.f.clk a).trans ha)
  have hshows : (l.s.f.readChecks a).shows a = hexText 8 v.toNat := by
    rw [Field.shows, l.s.f.readChecks_clk, hv]
    rfl
  rw [hshows]
  exact l.readWord_answered _ hl (l.s.f.answerRead_mapped l.s.h.bar.nextSeq a v hv) (by rw [l.s.f.readChecks_rest])
    (by rw [l.s.f.readChecks_rest])

/-- The two reads of `FRAME` and the set between them, on quiet lanes (R211). -/
theorem Lx.readSet_leaves (l : Lx) (hl : l.Ready) : ∃ k, (∀ g, l.readSet g = g k true) ∧ l.Leaves k l.s.f := by
  obtain ⟨k1, hfirst, h1, hr1⟩ := l.readWord_ready 0x1020 hl (by decide +kernel)
  obtain ⟨k2, hset, h2, hr2⟩ := Lx.reads_ready snapshotAddrs k1 hr1 (by decide +kernel)
  obtain ⟨k3, hlast, h3, hr3⟩ := k2.readWord_ready 0x1020 hr2 (by decide +kernel)
  have hsame : k2.s.f.shows 0x1020 = l.s.f.shows 0x1020 := (h1.step h2).shows _
  obtain ⟨hk, hgoes⟩ := (h1.step h2).step h3
  refine ⟨k3, fun g => ?_, hk, hgoes, hr3⟩
  simp only [Lx.readSet, hfirst, hset, hlast, thenDo, hsame, decide_true]

/-- The line with the snapshot of this frame taken; the answers that it took for it are left behind. -/
def Lx.snapshot (l : Lx) : Lx := { l with c := { l.c with snap := some l.s.f.clk, ans := l.c.ans.drop l.c.used, used := 0 } }

theorem Lx.snapshot_used (l : Lx) (h : l.c.ans.length ≤ l.c.used) : l.snapshot.c.ans.length ≤ l.snapshot.c.used := by
  have hnil : l.snapshot.c.ans = [] := List.drop_eq_nil_of_le h
  rw [hnil]
  exact Nat.zero_le _

/-- A register of the snapshot set shows its value in the frame in which the line took the snapshot (R210, R211). -/
theorem Lx.readField_snapshot (l : Lx) {a : Nat} (hl : l.Ready) (ha : inSnapshot a = true)
    (hsnap : l.c.snap = none ∨ l.c.snap = some l.s.f.clk) :
    ∃ k, l.readField a = (k, .val (l.s.f.shows a)) ∧ l.Leaves k l.s.f ∧ k.c.snap = some l.s.f.clk := by
  have hread : l.readField a = l.snapped fun l => (l, .val (hexText 8 ((l.s.f.regValue l.clk a).getD 0#32).toNat)) := if_pos ha
  rcases hsnap with hnone | hsome
  · obtain ⟨k, hset, hk⟩ := l.readSet_leaves hl
    obtain ⟨n, x, hf⟩ := hk.field_seq
    have hclk : k.s.f.clk = l.s.f.clk := by rw [hf]
    have hshows : k.s.f.shows a = l.s.f.shows a := by rw [hf, Field.shows_seq]
    obtain ⟨hx, hgoes, hlink, hquiet, hans⟩ := hk
    have htake : l.readField a = (k.snapshot, .val (k.s.f.shows a)) := by
      rw [hread, Lx.snapped, hnone]
      exact hset _
    exact ⟨k.snapshot, htake.trans (by rw [hshows]), ⟨hx, hgoes.trans rfl, hlink, hquiet, k.snapshot_used hans⟩, congrArg some hclk⟩
  · refine ⟨l, ?_, .refl hl, hsome⟩
    rw [hread, Lx.snapped, hsome]
    dsimp only
    rw [Lx.clk, hsome]
    rfl

/-- A register of the field window as the line reads it. -/
theorem Lx.Reads.readField {l k : Lx} {f : Field} (h : l.Reads k f) {a : Nat} (ha : fieldMapped a = true) :
    ∃ m, k.readField a = (m, .val ((f.readChecks a).shows a)) ∧ l.Reads m (f.readChecks a) := by
  obtain ⟨hk, hsnap⟩ := h
  obtain ⟨n, x, hf⟩ := hk.field_seq
  have hclk : k.s.f.clk = f.clk := by rw [hf]
  have hchecks : k.s.f.readChecks a = { f.readChecks a with bar := { f.bar with lastSeq := n, lastAns := x } } := by
    rw [hf, Field.readChecks_bar]
  have hbar : (f.readChecks a).bar = f.bar := by rw [f.readChecks_rest]
  have hstays : { k.s.f.readChecks a with bar := f.bar } = f.readChecks a := by
    rw [hchecks, ← hbar]
  have hshows : (k.s.f.readChecks a).shows a = (f.readChecks a).shows a := by
    rw [hchecks, ← hbar, Field.shows_seq]
  have hkbar : (k.s.f.readChecks a).bar = k.s.f.bar := by rw [hchecks, hf]
  rw [← hclk] at hsnap
  cases hin : inSnapshot a with
  | true =>
    obtain ⟨m, hread, hm, hmsnap⟩ := k.readField_snapshot hk.2.2 hin hsnap
    rw [← k.s.f.readChecks_snapshot hin] at hread hm
    refine ⟨m, hshows ▸ hread, hstays ▸ hk.trans hm hkbar, .inr ?_⟩
    rw [hmsnap, f.readChecks_clk, hclk]
  | false =>
    obtain ⟨m, hread, hm, hmsnap⟩ := k.readWord_checked hk.2.2 ha
    have hword : k.readField a = k.readWord a := if_neg (by rw [hin]; decide)
    refine ⟨m, hword.trans (hshows ▸ hread), hstays ▸ hk.trans hm hkbar, ?_⟩
    rw [hmsnap, f.readChecks_clk, ← hclk]
    exact hsnap

/-- Registers of the field window in turn. -/
theorem Lx.Reads.readRegs {l : Lx} : ∀ (n a : Nat) {k : Lx} {f : Field}, l.Reads k f → 0x1000 ≤ a →
    (∀ i < n, fieldMapped (a + 4 * i) = true) →
    ∃ m, k.readRegs a n = (m, .block ((List.range n).map fun i =>
      commas ['+' :: hexText 4 (a + 4 * i), (checked f a (i + 1)).shows (a + 4 * i)])) ∧ l.Reads m (checked f a n)
  | 0, a, k, f, h, _, _ => ⟨k, rfl, h⟩
  | n + 1, a, k, f, h, hlow, hmap => by
    have hshift (i : Nat) : a + 4 + 4 * i = a + 4 * (i + 1) := by omega
    obtain ⟨m, hread, hm⟩ := h.readField (hmap 0 (Nat.zero_lt_succ n))
    obtain ⟨p, hrest, hp⟩ := Lx.Reads.readRegs n (a + 4) hm (by omega)
      fun i hi => (hshift i).symm ▸ hmap (i + 1) (Nat.succ_lt_succ hi)
    have hreg : k.readReg a = (m, .val ((f.readChecks a).shows a)) := (if_pos hlow).trans hread
    refine ⟨p, ?_, checked_first f a n ▸ hp⟩
    simp only [hshift, ← checked_first] at hrest
    rw [Lx.readRegs, hreg]
    dsimp only
    rw [hrest, List.range_succ_eq_map, List.map_cons, List.map_map]
    rfl

/-- The bytes of `KEEP?` in turn (R599): what the last of them showed is dropped. -/
theorem Lx.Reads.readKeep {l k : Lx} {f : Field} (h : l.Reads k f) (n : Nat) : ∀ c, n + c ≤ 64 →
    ∃ m r, k.readKeep n c = (m, r) ∧ (∀ g, thenDo (m, r) g = g m) ∧ l.Reads m (checked f (0x1300 + 4 * n) c)
  | 0, _ => ⟨k, .ok, rfl, fun _ => rfl, h⟩
  | c + 1, hc => by
    obtain ⟨m, r, hkeep, hgo, hm⟩ := Lx.Reads.readKeep h n c (by omega)
    have haddr : 0x1300 + 4 * (n + c) = 0x1300 + 4 * n + 4 * c := by omega
    have hmap : fieldMapped (0x1300 + 4 * n + 4 * c) = true := haddr ▸ fieldMapped_keep (n + c) (by omega)
    obtain ⟨p, hread, hp⟩ := hm.readField hmap
    have hlast : k.readKeep n (c + 1) = m.readField (0x1300 + 4 * n + 4 * c) := by rw [Lx.readKeep, hkeep, hgo, haddr]
    exact ⟨p, _, hlast.trans hread, fun _ => rfl, checked_last f (0x1300 + 4 * n) c ▸ hp⟩

/-! ### The commands -/

/-- The line of one command on quiet lanes has read nothing yet. -/
theorem State.lineOf_reads (s : State) (i : Instr) (hs : Linked s) : (s.lineOf i 0).Reads (s.lineOf i 0) s.f :=
  ⟨.refl (s.lineOf_ready i hs), .inl rfl⟩

/-- A command that has only read registers of the field window, with their parity checks. -/
theorem State.textCmd_reads (s : State) (i : Instr) (k : Lx) (f : Field) (r : CmdRes) (ls : List Text) (hs : HostIdle s)
    (hrun : runCmd i (s.lineOf i 0) = (k, r)) (hr : answerLines r = some ls) (hk : (s.lineOf i 0).Reads k f) :
    Exchanged s (s.textCmd i) (sent s.h ls) f := by
  obtain ⟨⟨hx, hgoes, -⟩, -⟩ := hk
  rw [s.textCmd_answered i hs k r ls hrun hr hgoes]
  exact s.lineOf_exchanged k.s i f ls hs.2.1 hx

/-- `R` of the field window. -/
theorem registerRead_field (s : State) (a : BitVec 16) (n : Nat) (ls : List Text) (hs : Linked s) (hlow : 0x1000 ≤ a.toNat)
    (h : readAnswer (fun i => (checked s.f a.toNat (i + 1)).regValue s.f.clk (a.toNat + 4 * i)) a.toNat n = some ls) :
    ∃ t, exec (.registerRead a n) s = .next t ∧ Exchanged s t (sent s.h ls) (checked s.f a.toNat n) := by
  obtain ⟨hmin, hmax, hval, hls⟩ := readAnswer_some h
  have hmap (i : Nat) (hi : i < n) : fieldMapped (a.toNat + 4 * i) = true := (Field.regValue_isSome ..).symm.trans (hval i hi)
  have hat (i : Nat) (hi : i < n) : mappedAt (a.toNat + 4 * i) = true :=
    (Bool.and_eq_true_iff.mp ((fieldMapped_eq _).symm.trans (hmap i hi))).2
  have hcmd := cmdR_mapped a n (s.lineOf (.registerRead a n) 0) hmin hmax hat
  have hreads := s.lineOf_reads (.registerRead a n) hs
  have hshows (i : Nat) : (checked s.f a.toNat (i + 1)).shows (a.toNat + 4 * i) =
      hexText 8 (((checked s.f a.toNat (i + 1)).regValue s.f.clk (a.toNat + 4 * i)).getD 0#32).toNat := by
    rw [Field.shows, checked_clk]
  refine ⟨_, rfl, ?_⟩
  by_cases hone : n = 1
  · subst hone
    obtain ⟨k, hread, hk⟩ := hreads.readField (hmap 0 Nat.one_pos)
    rw [if_pos rfl, Lx.readReg, if_pos hlow] at hcmd
    rw [if_pos rfl] at hls
    exact s.textCmd_reads (.registerRead a 1) k _ _ ls hs.1 (hcmd.trans hread) (congrArg some ((congrArg valueLines (hshows 0)).trans hls.symm))
      hk
  · obtain ⟨k, hread, hk⟩ := hreads.readRegs n a.toNat hlow hmap
    rw [if_neg hone] at hcmd hls
    simp only [hshows] at hread
    exact s.textCmd_reads (.registerRead a n) k _ _ ls hs.1 (hcmd.trans hread) (congrArg some hls.symm) hk

/-- `KEEP?`. -/
theorem keepQuery_checked (s : State) (n c : Nat) (hs : Linked s) (hmin : 1 ≤ c) (hmax : c ≤ 16) (hlast : n + c ≤ 64) :
    ∃ t, exec (.keepQuery n c) s = .next t ∧
      Exchanged s t (sent s.h (valueLines ((checked s.f (0x1300 + 4 * n) c).keep.text n c))) (checked s.f (0x1300 + 4 * n) c) := by
  obtain ⟨k, r, hread, hgo, hk⟩ := (s.lineOf_reads (.keepQuery n c) hs).readKeep n c hlast
  obtain ⟨m, x, hf⟩ := hk.1.field_seq
  have hlink : ¬ (!(s.lineOf (.keepQuery n c) 0).s.h.bar.link) = true := by
    rw [show (s.lineOf (.keepQuery n c) 0).s.h.bar.link = true from hs.2.1]
    decide
  have hrange : ¬ (63 < n || c < 1 || 16 < c || 64 < n + c) = true := by
    simp
    omega
  have hrun : runCmd (.keepQuery n c) (s.lineOf (.keepQuery n c) 0) = (k, .val (k.s.f.keep.text n c)) := by
    refine (if_neg hlink).trans ((if_neg hrange).trans ?_)
    rw [hread, hgo]
  rw [hf] at hrun
  exact ⟨_, rfl, s.textCmd_reads (.keepQuery n c) k _ _ _ hs.1 hrun rfl hk⟩

/-- `R` of a field register on busy lanes. -/
theorem registerRead_asks (s : State) (a : BitVec 16) (hs : HostIdle s) (hlink : s.h.bar.link = true) (hquiet : s.quiet = false)
    (hlow : 0x1000 ≤ a.toNat) (hmap : s.mapped a.toNat = true) (hsnap : inSnapshot a.toNat = false) :
    ∃ t, exec (.registerRead a 1) s = .next t ∧
      OnlyHost s t ((s.h.ran.send .regrd [regWord 0 a.toNat] none).lineAsks (.registerRead a 1) (.read a.toNat)) := by
  have hbusy : (s.lineOf (.registerRead a 1) 0).access (.read a.toNat) = (s.lineOf (.registerRead a 1) 0, none) := by
    have hl : ¬ (!s.h.bar.link) = true := by simp [hlink]
    have hq : ¬ s.quiet = true := by simp [hquiet]
    exact (if_neg hl).trans (if_neg hq)
  have hcmd := cmdR_mapped a 1 (s.lineOf (.registerRead a 1) 0) (Nat.le_refl 1) (by decide) fun i hi => by
    obtain rfl : i = 0 := by omega
    exact (s.mapped_eq _).symm.trans hmap
  have hword : (s.lineOf (.registerRead a 1) 0).readReg a.toNat = (s.lineOf (.registerRead a 1) 0).readWord a.toNat :=
    (if_pos hlow).trans (if_neg (by rw [hsnap]; decide))
  refine ⟨_, rfl, s.textCmd_asks (.registerRead a 1) (.read a.toNat) hs (hcmd.trans ((if_pos rfl).trans (hword.trans ?_)))⟩
  rw [Lx.readWord, hbusy]

/-- Settles O3: `R` of the host windows is `registerRead_host`, of the field window `registerRead_field`, `KEEP?` is `keepQuery_checked`;
on busy lanes it is `registerRead_asks`. -/
theorem registerReadsShow : Obligations.RegisterReadsShow :=
  ⟨registerRead_host, registerRead_field, keepQuery_checked, registerRead_asks⟩

end Sys2Proof.Machine
end

section
/-! The learned table after a cold start (R171, R308, Tables 8-5 and 20-4). -/

namespace Sys2Proof.Machine

/-- `LTAB0` shows the first entry of the working set's learned table. -/
theorem Field.regValue_ltab (f : Field) (c : Clk) : f.regValue c 0x1140 = some (f.cal.ws.ltab[0]?.getD 0#32) := rfl

/-- A cold start takes the learned table from the part's fuses, which it keeps. -/
theorem fieldColdStart_ltab (s : State) (hpor : s.f.start.por = true) (hbest : s.f.sup.best ≠ .vbk) (hro : s.f.jrnRo = false) :
    ∃ t, exec .fieldColdStart s = .next t ∧ t.f.regValue t.f.clk 0x1140 = some (s.f.fuse.ws.ltab[0]?.getD 0#32) := by
  obtain ⟨t, ht, hfield, -, -⟩ := s.fieldStep .fieldColdStart rfl (doColdStart_starts s.f hpor hbest hro) rfl
  refine ⟨t, ht, ?_⟩
  rw [hfield, Field.regValue_ltab]
  rfl

/-- The part after reset, its fuses holding a learned table whose entries are 0.1 ppb. -/
def learnedPart : State :=
  { State.reset with f := { State.reset.f with fuse := { fuse with ws := { fuseWs with ltab := Vector.replicate 33 1#32 } } } }

/-- Refutes O58: the table of the field window claims `LTAB0` to be 0 after every cold start, but a state's fuses may hold another entry
(`learnedPart`), and a cold start shows what they hold. -/
theorem not_startsSetTheRegisters : ¬ Obligations.StartsSetTheRegisters := by
  rintro ⟨-, hcold, -, -⟩
  have hpor : learnedPart.f.start.por = true := rfl
  have hbest : learnedPart.f.sup.best ≠ .vbk := by decide +kernel
  obtain ⟨t, ht, hshows⟩ := hcold learnedPart hpor hbest rfl
  obtain ⟨u, hu, hltab⟩ := fieldColdStart_ltab learnedPart hpor hbest rfl
  obtain rfl : t = u := by
    rw [ht] at hu
    exact Host.Outcome.next.inj hu
  have hzero : t.f.regValue t.f.clk 0x1140 = some 0#32 := hshows (0x1140, 0x11C0, 0#32) (by decide +kernel) 0 (by decide)
  have hone : learnedPart.f.fuse.ws.ltab[0]?.getD 0#32 = 1#32 := rfl
  rw [hltab, hone] at hzero
  exact absurd hzero (by decide)

end Sys2Proof.Machine
end

section
/-! The in-service tests in slack, on both sides, and the telemetry slice (14_inservice_test.md, R48, R506 to R513, R525). -/

namespace Sys2Proof.Machine

/-! ### The rotation's registers (R509, R511) -/

/-- A slice that does not end the rotation. -/
theorem Rot.finish_next (r : Rot) {total : Nat} (h : r.done + 1 < total) : r.finish total = { r with done := r.done + 1 } :=
  if_neg (Nat.not_le.mpr h)

/-- What a failure leaves. -/
theorem Rot.verdict_fails (r : Rot) (key code idx : Nat) : r.verdict key code idx 1 =
    ({ r with
        lastCode := BitVec.ofNat 8 code, lastIdx := BitVec.ofNat 8 idx, fails := satAdd r.fails 1,
        failed := if r.failed.contains key then r.failed else r.failed ++ [key] }, !r.failed.contains key) := rfl

/-- A place whose slice has failed is among those that have. -/
theorem mem_failed (l : List Nat) (key : Nat) : key ∈ (if l.contains key then l else l ++ [key]) := by
  split
  · next h => simpa using h
  · simp

/-! ### The field side's rotation -/

/-- With no job and no foreground left, on a main, a slice is the rotation's (R48, R506). -/
theorem doFieldTest_rotation (f : Field) (applicable pass : Bool) (m l : Int) (hslices : f.slices = true) (hplan : f.sched.plan = [])
    (hmain : f.sup.sel = .vfld ∨ f.sup.sel = .iso) (hjob : f.tst.job = none) :
    doFieldTest applicable pass m l f = f.rotationTest applicable pass m l := by
  have hnot : ¬ (!(decide (f.sup.sel = .vfld) || decide (f.sup.sel = .iso))) = true := by
    rcases hmain with h | h <;> rw [h] <;> decide
  simp only [doFieldTest, hslices, hplan, hjob, Bool.not_true, Bool.false_eq_true, if_false]
  exact if_neg hnot

/-- The rotation is enabled and paced (R507, R508). -/
def Field.paced (f : Field) : Prop := bitOf f.tst.rot.cfg 0 = true ∧ fieldOf f.tst.rot.cfg 16 16 ≤ f.tst.rot.since

theorem Field.rotationTest_starts (f : Field) (applicable pass : Bool) (m l : Int) (hpace : f.paced)
    (hstarts : f.slackStarts f.tst.rot.done applicable = true) :
    f.rotationTest applicable pass m l =
      let r := f.runTest f.tst.rot.done applicable pass m l
      let g := { r.1 with tst := { r.1.tst with rot :=
        { r.1.tst.rot.finish 30 with since := if r.2 = 2 then r.1.tst.rot.since else 0 } } }
      if r.2 = 2 then g else g.slackTook (testLen (fieldTests[f.tst.rot.done]?.getD (1, 0)).1) := by
  obtain ⟨hon, hdue⟩ := hpace
  exact if_pos (by simp [hon, hdue, hstarts])

theorem Field.rotationTest_waits (f : Field) (applicable pass : Bool) (m l : Int)
    (hstarts : f.slackStarts f.tst.rot.done applicable = false) : f.rotationTest applicable pass m l = f :=
  if_neg (by simp [hstarts])

/-- A slice that is not applicable only forgets a failure of its place. -/
theorem Field.runTest_notApplicable (f : Field) (pos : Nat) (pass : Bool) (m l : Int) : f.runTest pos false pass m l =
    ({ f with tst := { f.tst with rot := { f.tst.rot with failed := f.tst.rot.failed.filter (· ≠ pos) } } }, 2) := by
  simp [Field.runTest, Rot.verdict]

/-- A slice that is not applicable goes on to the next and takes no time. -/
theorem Field.rotationTest_notApplicable (f : Field) (pass : Bool) (m l : Int) (hpace : f.paced) :
    f.rotationTest false pass m l =
      { f with tst := { f.tst with rot := Rot.finish { f.tst.rot with failed := f.tst.rot.failed.filter (· ≠ f.tst.rot.done) } 30 } } := by
  rw [f.rotationTest_starts false pass m l hpace (by simp [Field.slackStarts])]
  dsimp only
  rw [f.runTest_notApplicable]
  dsimp only
  rw [if_pos rfl, if_pos rfl, Rot.finish]
  split <;> rfl

/-- The first slice, of test 0x01, starts where its 16 ticks fit. -/
theorem Field.slackStarts_first (f : Field) : f.slackStarts 0 true = f.slackFits 16 := rfl

/-- The domains of the first slice. -/
def Field.firstDomains (f : Field) : Field := f.testDomains 1 0

/-- The first slice passes. -/
theorem Field.rotationTest_passes (f : Field) (m l : Int) (hpace : f.paced) (hdone : f.tst.rot.done = 0) (hfits : f.slackFits 16 = true) :
    ∃ x, f.rotationTest true true m l = { f with tst := x, sched := { f.sched with slack := f.sched.slack + 16 } } ∧
      x.rot = { f.tst.rot with done := 1, since := 0, failed := f.tst.rot.failed.filter (· ≠ 0) } := by
  have hrun : f.runTest 0 true true m l = ({ f.firstDomains with tst := { f.firstDomains.tst with
      rot := { f.tst.rot with failed := f.tst.rot.failed.filter (· ≠ 0) } } }, 0) := rfl
  rw [f.rotationTest_starts true true m l hpace (by rw [hdone, f.slackStarts_first, hfits]), hdone, hrun]
  dsimp only
  rw [if_neg (by decide : ¬ 0 = 2), if_neg (by decide : ¬ 0 = 2), Rot.finish_next _ (by rw [hdone]; decide)]
  exact ⟨_, rfl, by rw [hdone]⟩

/-- A record staged reaches the journal alone, whatever stands beside it. -/
theorem Field.stage_beside (f : Field) (x : Tst) (y : Stat) (a : Slot) :
    ({ f with tst := x, stat := y } : Field).stage a = { f with tst := x, stat := y, jrn := (f.stage a).jrn } := by
  have hjrn : (({ f with tst := x, stat := y } : Field).stage a).jrn = (f.stage a).jrn := by
    simp only [Field.stage, Field.stageRec, apply_ite Field.jrn]
    rfl
  rw [Field.stage_rest, hjrn]

/-- The field side after the first slice has failed, before its record. -/
def Field.firstFailed (f : Field) : Field :=
  { f with
    tst := { f.firstDomains.tst with rot := (f.tst.rot.verdict 0 1 0 1).1 }, stat := (f.setBit sbTestFail).stat }

/-- The first slice fails: its record, where it did not fail before (R512). -/
theorem Field.runTest_fails (f : Field) (m l : Int) : f.runTest 0 true false m l = ({ f.firstFailed with
    jrn := if 0 ∈ f.tst.rot.failed then f.jrn else (f.stage (recTest 1 1 0 f.clk.stamp m l)).jrn }, 1) := by
  have hrun : f.runTest 0 true false m l =
      (if !f.tst.rot.failed.contains 0 then f.firstFailed.stage (recTest 1 1 0 f.clk.stamp m l) else f.firstFailed, 1) := rfl
  have hstage : f.firstFailed.stage (recTest 1 1 0 f.clk.stamp m l) = { f.firstFailed with
      jrn := (f.stage (recTest 1 1 0 f.clk.stamp m l)).jrn } := f.stage_beside ..
  rw [hrun, hstage]
  by_cases hold : 0 ∈ f.tst.rot.failed
  · rw [if_pos hold, if_neg (by simpa using hold)]
    rfl
  · rw [if_neg hold, if_pos (by simpa using hold)]

/-- The first slice fails, and takes its time of the slack. -/
theorem Field.rotationTest_fails (f : Field) (m l : Int) (hpace : f.paced) (hdone : f.tst.rot.done = 0) (hfits : f.slackFits 16 = true) :
    ∃ x, f.rotationTest true false m l = { f with
        tst := x, stat := (f.setBit sbTestFail).stat, sched := { f.sched with slack := f.sched.slack + 16 },
        jrn := if 0 ∈ f.tst.rot.failed then f.jrn else (f.stage (recTest 1 1 0 f.clk.stamp m l)).jrn } ∧
      x.rot = { (f.tst.rot.verdict 0 1 0 1).1 with done := 1, since := 0 } := by
  have hnext : (f.tst.rot.verdict 0 1 0 1).1.done + 1 < 30 := by
    rw [Rot.verdict_fails, hdone]
    decide
  rw [f.rotationTest_starts true false m l hpace (by rw [hdone, f.slackStarts_first, hfits]), hdone, f.runTest_fails]
  dsimp only
  rw [if_neg (by decide : ¬ 1 = 2), if_neg (by decide : ¬ 1 = 2)]
  refine ⟨_, rfl, ?_⟩
  dsimp only [Field.firstFailed]
  rw [Rot.finish_next _ hnext, Rot.verdict_fails, hdone]

/-! ### The host side's rotation -/

/-- A failure is told by messages alone, or kept for the next `LINK` (R513). -/
theorem HostSide.send_rest (h : HostSide) (ty : MsgType) (ws : List Word) (cmd : Option FieldCmd) :
    h.send ty ws cmd = { h with bar := (h.send ty ws cmd).bar, freeCtr := (h.send ty ws cmd).freeCtr } := by
  unfold HostSide.send HostSide.pump
  dsimp only
  split
  · rfl
  · split
    · rfl
    · rw [HostSide.launch_rest]

theorem HostSide.sendFail_keeps (h : HostSide) (code idx : Nat) (m l : Int) :
    (h.sendFail code idx m l).rot = h.rot ∧ (h.sendFail code idx m l).latched = h.latched := by
  unfold HostSide.sendFail
  split
  · rw [HostSide.send_rest]
    exact ⟨rfl, rfl⟩
  · exact ⟨rfl, rfl⟩

theorem HostSide.attn_rot (h : HostSide) (n : Nat) : (h.attn n).rot = h.rot := by
  unfold HostSide.attn HostSide.notice
  simp only [apply_ite HostSide.rot, HostSide.push, ite_self]

theorem HostSide.setBit_rot (h : HostSide) (i : Nat) : (h.setBit i).rot = h.rot := by
  unfold HostSide.setBit HostSide.masked
  split
  · rfl
  · exact HostSide.attn_rot _ 3

/-- A host slice of the rotation, at most one in `PACE` frames (R506, R507). -/
theorem State.hostTest_rotation (s : State) (applicable pass : Bool) (m l : Int) (hjobs : s.h.testJobs = []) (hon : bitOf s.h.rot.cfg 0 = true)
    (hawake : s.h.awake = true) (hpace : fieldOf s.h.rot.cfg 16 16 ≤ s.h.rot.since) : s.hostTest applicable pass m l =
      let r := s.h.runTest s.h.rot.done false applicable pass m l
      { s with h := { r.1 with rot := { r.1.rot.finish 13 with since := if r.2 = 2 then s.h.rot.since else 0 } } } := by
  rw [State.hostTest, hjobs]
  exact if_pos (by simp [hon, hawake, hpace])

/-- The second slice, of test 0x11, is applicable while the radio sleeps (Table 14-1). -/
theorem HostSide.testRuns_second (h : HostSide) (hsleep : h.radio.st = .sleep) : h.testRuns 0x11 false = true := by
  simp [HostSide.testRuns, hsleep]

/-- The second slice passes. -/
theorem HostSide.runTest_passes (h : HostSide) (m l : Int) (hsleep : h.radio.st = .sleep) : h.runTest 1 false true true m l =
    ({ h with rot := { h.rot with failed := h.rot.failed.filter (· ≠ 1) } }, 0) := by
  have hplace : hostTests[1]?.getD (0x10, 0) = (0x11, 0) := rfl
  simp only [HostSide.runTest, hplace, h.testRuns_second hsleep]
  rfl

/-- The second slice fails: what stays is the registers and `TEST_FAIL`; the rest tells the field side. -/
theorem HostSide.runTest_fails (h : HostSide) (m l : Int) (hsleep : h.radio.st = .sleep) :
    ∃ k : HostSide, h.runTest 1 false true false m l = (k, 1) ∧ k.rot = (h.rot.verdict 1 0x11 0 1).1 ∧
      bitOf k.latched sbTestFail = true := by
  have hplace : hostTests[1]?.getD (0x10, 0) = (0x11, 0) := rfl
  have hrot := HostSide.setBit_rot { h with rot := (h.rot.verdict 1 0x11 0 1).1 } sbTestFail
  have hbit := HostSide.bit_setBit { h with rot := (h.rot.verdict 1 0x11 0 1).1 } (i := sbTestFail) (by decide)
  simp only [HostSide.runTest, hplace, h.testRuns_second hsleep, Bool.and_self, Bool.not_true, Bool.false_eq_true, if_false, if_true]
  refine ⟨_, rfl, ?_⟩
  split
  · obtain ⟨hsame, hlatched⟩ := HostSide.sendFail_keeps
      (HostSide.setBit { h with rot := (h.rot.verdict 1 0x11 0 1).1 } sbTestFail) 0x11 0 m l
    exact ⟨hsame.trans hrot, by rwa [hlatched]⟩
  · exact ⟨hrot, hbit⟩

theorem testSlice_hostPasses (s : State) (m l : Int) (hrun : s.h.run = true) (hjobs : s.h.testJobs = []) (hon : bitOf s.h.rot.cfg 0 = true)
    (hawake : s.h.awake = true) (hpace : fieldOf s.h.rot.cfg 16 16 ≤ s.h.rot.since) (hdone : s.h.rot.done = 1)
    (hsleep : s.h.radio.st = .sleep) :
    ∃ t, exec (.testSlice .host true true m l) s = .next t ∧ OnlyHost s t { s.h with rot := { s.h.rot with
      done := 2, since := 0, failed := s.h.rot.failed.filter (· ≠ 1) } } := by
  have hexec : exec (.testSlice .host true true m l) s = .next (s.hostTest true true m l) := congrArg Host.Outcome.next (if_pos hrun)
  refine ⟨_, hexec, ?_⟩
  rw [s.hostTest_rotation true true m l hjobs hon hawake hpace, hdone, s.h.runTest_passes m l hsleep]
  dsimp only
  rw [if_neg (by decide : ¬ 0 = 2), Rot.finish_next _ (by rw [hdone]; decide), hdone]
  exact ⟨rfl, rfl, rfl⟩

theorem testSlice_hostFails (s : State) (m l : Int) (hrun : s.h.run = true) (hjobs : s.h.testJobs = []) (hon : bitOf s.h.rot.cfg 0 = true)
    (hawake : s.h.awake = true) (hpace : fieldOf s.h.rot.cfg 16 16 ≤ s.h.rot.since) (hdone : s.h.rot.done = 1)
    (hsleep : s.h.radio.st = .sleep) :
    ∃ t, exec (.testSlice .host true false m l) s = .next t ∧ t.f = s.f ∧ t.h.rot.fails = satAdd s.h.rot.fails 1 ∧
      t.h.rot.lastCode = 0x11#8 ∧ t.h.rot.lastIdx = 0#8 ∧ bitOf t.h.latched sbTestFail = true := by
  have hexec : exec (.testSlice .host true false m l) s = .next (s.hostTest true false m l) := congrArg Host.Outcome.next (if_pos hrun)
  obtain ⟨k, hfails, hrot, hbit⟩ := s.h.runTest_fails m l hsleep
  have hnext : k.rot.done + 1 < 13 := by
    rw [hrot, Rot.verdict_fails, hdone]
    decide
  refine ⟨_, hexec, ?_⟩
  rw [s.hostTest_rotation true false m l hjobs hon hawake hpace, hdone, hfails]
  dsimp only
  rw [Rot.finish_next _ hnext, hrot]
  exact ⟨rfl, rfl, rfl, rfl, hbit⟩

/-! ### The field side's steps -/

/-- In slack the field side's step is the rotation's slice. -/
theorem State.testSlice_rotation (s : State) (applicable pass : Bool) (m l : Int) (hup : FieldUp s) (hwdog : s.f.start.wdog = false)
    (hplan : s.f.sched.plan = []) (hmain : s.f.sup.sel = .vfld ∨ s.f.sup.sel = .iso) (hjob : s.f.tst.job = none) :
    exec (.testSlice .field applicable pass m l) s = .next (s.withField (s.f.rotationTest applicable pass m l)) := by
  have hslices : s.f.slices = true := by simp [Field.slices, hup.1, hwdog]
  exact congrArg (fun f => Host.Outcome.next (s.withField f)) (doFieldTest_rotation s.f applicable pass m l hslices hplan hmain hjob)

/-- A slice fits between the end of the foreground and tick L − 50 (R48). -/
theorem Field.slackFits_iff (f : Field) (n : Nat) (hplan : f.sched.plan = []) :
    f.slackFits n = true ↔ 17 + f.sched.used + f.sched.slack + n + 50 ≤ f.clk.frameLen := by
  simp [Field.slackFits, hplan]

/-! ### Telemetry (R35, R525) -/

/-- The tests' state once the new counts are folded into the kept ones. -/
def Tst.folded (t : Tst) : Tst :=
  { t with domOn := (t.domOn.zip t.domNew).map fun (w, n) => satWord w n, domNew := Vector.replicate 92 0 }

theorem Tst.folded_count (t : Tst) (i : Fin 92) :
    t.folded.domOn[i] = BitVec.ofNat 32 (min (t.domOn[i].toNat + t.domNew[i]) 0xFFFFFFFF) := by
  simp [Tst.folded, satWord]

theorem doTelemetry_folds (f : Field) (hlane : f.laneFree 4 = true) :
    doTelemetry f = ({ f with tst := f.tst.folded }.laneTook 4).domain 88 := if_neg (by simp [hlane])

/-- Settles O38: the field side's slices by `Field.rotationTest`'s cases, the host side's by `testSlice_hostPasses` and
`testSlice_hostFails`, the counts by `Tst.folded_count`. -/
theorem testSlicesRotate : Obligations.TestSlicesRotate := by
  refine ⟨fun s m l hup hwdog hplan hmain hjob hon hdue => ⟨?skipped, fun hdone hfits => ⟨?passes, ?fails⟩, fun hdone hlate pass => ?waits⟩,
    fun s m l hrun hjobs hon hawake hpace hdone hsleep =>
      ⟨testSlice_hostPasses s m l hrun hjobs hon hawake hpace hdone hsleep, testSlice_hostFails s m l hrun hjobs hon hawake hpace hdone hsleep⟩,
    fun s hup hlane => ?folds, fun s hup hlane => ?busy⟩
  case skipped =>
    obtain ⟨t, ht, hfield, hhost, -⟩ := s.fieldStep _ (s.testSlice_rotation false true m l hup hwdog hplan hmain hjob)
      (s.f.rotationTest_notApplicable true m l ⟨hon, hdue⟩) hup.2
    refine ⟨t, ht, hhost, ?_⟩
    rw [hfield]
    dsimp only [Rot.finish]
    by_cases hlast : s.f.tst.rot.done < 29
    · rw [if_neg (by omega), if_pos hlast, if_pos hlast]
      exact ⟨rfl, rfl, rfl, rfl, rfl, rfl, rfl⟩
    · rw [if_pos (by omega), if_neg hlast, if_neg hlast]
      exact ⟨rfl, rfl, rfl, rfl, rfl, rfl, rfl⟩
  case passes =>
    obtain ⟨x, hstep, hrot⟩ := s.f.rotationTest_passes m l ⟨hon, hdue⟩ hdone ((s.f.slackFits_iff 16 hplan).mpr hfits)
    obtain ⟨t, ht, hfield, hhost, -⟩ := s.fieldStep _ (s.testSlice_rotation true true m l hup hwdog hplan hmain hjob) hstep hup.2
    exact ⟨t, ht, hhost, by rw [hfield], by rw [hfield, hrot]⟩
  case fails =>
    obtain ⟨x, hstep, hrot⟩ := s.f.rotationTest_fails m l ⟨hon, hdue⟩ hdone ((s.f.slackFits_iff 16 hplan).mpr hfits)
    obtain ⟨t, ht, hfield, hhost, -⟩ := s.fieldStep _ (s.testSlice_rotation true false m l hup hwdog hplan hmain hjob) hstep hup.2
    have hbit : (s.f.setBit sbTestFail).bit sbTestFail = true := s.f.bit_setBit (by decide)
    refine ⟨t, ht, hhost, ?_⟩
    rw [hfield]
    dsimp only
    rw [hrot, Rot.verdict_fails]
    exact ⟨hbit, rfl, rfl, rfl, rfl, mem_failed _ 0, rfl, rfl⟩
  case waits =>
    have hstarts : s.f.slackStarts s.f.tst.rot.done true = false := by
      rw [hdone, s.f.slackStarts_first, Bool.eq_false_iff, ne_eq, s.f.slackFits_iff 16 hplan]
      omega
    exact s.fieldStep _ (s.testSlice_rotation true pass m l hup hwdog hplan hmain hjob) (s.f.rotationTest_waits true pass m l hstarts) hup.2
  case folds =>
    obtain ⟨t, ht, hfield, hhost, -⟩ := s.fieldStep .telemetrySlice rfl (doTelemetry_folds s.f hlane) hup.2
    refine ⟨t, ht, hhost, by rw [hfield]; rfl, by rw [hfield]; rfl, by rw [hfield]; rfl, fun i => ?_⟩
    rw [hfield]
    exact s.f.tst.folded_count i
  case busy =>
    exact s.fieldStep .telemetrySlice rfl (if_pos (by simp [hlane])) hup.2

end Sys2Proof.Machine
end

section
/-! The life of a transmission (18_radio.md, R654 to R676, R732): its request, the grant, the packet on air and its end. -/

namespace Sys2Proof.Machine

/-! ### The start of the packet (R658, R659, R665) -/

theorem HostSide.setBit_radio (h : HostSide) (i : Nat) : (h.setBit i).radio = h.radio := (h.setBit_jobsOnly i).radio

/-- The transmission on air, with its entry of the power table and its PHR and octets as they are sent. -/
def TxPend.onAir (x : TxPend) (r : Radio) (entry : Nat) : TxPend :=
  { x with
    phase := .air, entry := entry, comp := fieldOf r.pa 8 2,
    air := some (phrOf (bitOf r.frm 12) (bitOf r.frm 11) x.psdu.length, if bitOf r.frm 11 then whiten x.psdu else x.psdu) }

/-- The PA calibration falls due at a start whose supply has moved by more than 100 mV since the last one (R476). -/
def HostSide.paDue (h : HostSide) (v : Nat) : RfCal :=
  if (match h.radio.vpaCal with
    | some u => decide (u + 100 < v) || decide (v + 100 < u)
    | none => false) then ⟨some h.hf, h.radio.calPa.run1⟩ else h.radio.calPa

/-- The host side with the packet `x` on air at an entry of the power table, before a report of its supply. -/
def HostSide.airs (h : HostSide) (x : TxPend) (ht : Byte) (v entry : Nat) : HostSide :=
  HostSide.rfTo (HostSide.domain { h with radio := { h.radio with
    tx := some (x.onAir h.radio entry), htemp := ht, vpaMv := BitVec.ofNat 12 v, lastEntry := entry, calPa := h.paDue v } } 51) .tx

/-- The supply is too low for the entry asked for (R665). -/
def HostSide.clips (h : HostSide) (v : Nat) : Bool := decide (v < 3000) && decide (47 < fieldOf h.radio.pa 0 6)

theorem HostSide.txStart_eq (h : HostSide) (x : TxPend) (ht : Byte) (v : Nat) : h.txStart x ht v =
    if h.clips v then (h.airs x ht v 47).rfErr 4 else h.airs x ht v (fieldOf h.radio.pa 0 6) := by
  have hstart : h.txStart x ht v = (let k := h.airs x ht v (if h.clips v then 47 else fieldOf h.radio.pa 0 6)
      if h.clips v then k.rfErr 4 else k) := rfl
  rw [hstart]
  cases h.clips v <;> rfl

/-- A start puts the packet on air. -/
theorem HostSide.txStart_radio (h : HostSide) (x : TxPend) (ht : Byte) (v : Nat) :
    (h.txStart x ht v).radio.st = .tx ∧ ∃ entry, (h.txStart x ht v).radio.tx = some (x.onAir h.radio entry) := by
  rw [h.txStart_eq]
  split
  · obtain ⟨e, herr, -⟩ := HostSide.rfErr_radio (h.airs x ht v 47) (by decide : 4 < 5)
    rw [herr]
    exact ⟨rfl, _, rfl⟩
  · exact ⟨rfl, _, rfl⟩

/-- With a supply that suffices the entry is the one asked for. -/
theorem HostSide.txStart_supplied (h : HostSide) (x : TxPend) (ht : Byte) {v : Nat} (hv : 3000 ≤ v) :
    h.txStart x ht v = h.airs x ht v (fieldOf h.radio.pa 0 6) := by
  have hclip : h.clips v = false := by simp [HostSide.clips, Nat.not_lt.mpr hv]
  rw [h.txStart_eq, hclip]
  rfl

/-! ### The request (R655, R657) -/

/-- The transmission after a slice has moved octets to the buffer banks (R655). -/
def TxPend.filled (x : TxPend) : TxPend := { x with moved := min x.psdu.length (x.moved + 512) }

/-- With the first bank filled, no packet being received and no transition under way, the transmission is requested. -/
theorem HostSide.rfService_requests (h : HostSide) {x : TxPend} (ht : Byte) (v : Nat) (htx : h.radio.tx = some x) (hphase : x.phase = .bank)
    (hjob : x.job = none) (hnow : h.radio.rxNow = none) (hgoal : h.radio.goal = none) :
    h.rfService ht v = HostSide.txRequest { h with radio := { h.radio with tx := some x.filled } } x.filled ht v := by
  have hready : (decide (x.phase = .bank) && h.radio.rxNow.isNone && h.radio.goal.isNone) = true := by simp [hphase, hnow, hgoal]
  obtain ⟨id, psdu, moved, job, phase, prior, entry, comp, air, resample⟩ := x
  obtain rfl : job = none := hjob
  rw [HostSide.rfService, htx]
  exact if_pos hready

/-! ### The grant (R673, R674, R678) -/

theorem HostSide.cxSample_granted (h : HostSide) {x : TxPend} (ht : Byte) (v : Nat) (hask : h.radio.rxAsk = false) (htx : h.radio.tx = some x)
    (hphase : x.phase = .sample) : h.cxSample true ht v = (h.txStart x ht v, none) := by
  simp [HostSide.cxSample, hask, htx, hphase]

theorem HostSide.cxSample_waits (h : HostSide) {x : TxPend} (ht : Byte) (v : Nat) (hask : h.radio.rxAsk = false) (htx : h.radio.tx = some x)
    (hphase : x.phase = .sample) : h.cxSample false ht v =
      (HostSide.rfTo { h with radio := { h.radio with tx := some { x with phase := .wait } } } .txwait, none) := by
  simp [HostSide.cxSample, hask, htx, hphase]

/-- The host side after RX was denied, before its bit is set. -/
def HostSide.rxDenied (h : HostSide) : HostSide :=
  HostSide.rfCount (HostSide.cxRelease { h with radio := { h.radio with rxAsk := false } }) cCxRxDeny

theorem HostSide.cxSample_denied (h : HostSide) (ht : Byte) (v : Nat) (hask : h.radio.rxAsk = true) : h.cxSample false ht v =
    (HostSide.rfTo { h.rxDenied.setBit sbCxDeny with radio := { (h.rxDenied.setBit sbCxDeny).radio with goal := none } } .stby, some 71) := by
  simp only [HostSide.cxSample, hask, if_true, Bool.false_eq_true, if_false]
  rfl

/-- A sample that no line hears of. -/
theorem cxGrantSample_silent (s : State) (level : Bool) (ht : Byte) (v : Nat) {k : HostSide} (hrun : s.h.run = true)
    (hsample : s.h.cxSample level ht v = (k, none)) :
    ∃ t, exec (.cxGrantSample level ht v) s = .next t ∧ OnlyHost s t k := by
  have hexec : exec (.cxGrantSample level ht v) s = .next { s with h := k } := by
    simp only [exec, execCxGrantSample, hrun, hsample, Bool.not_true, Bool.false_eq_true, if_false]
  exact ⟨_, hexec, rfl, rfl, rfl⟩

/-- A denied RX that no line waits for. -/
theorem cxGrantSample_denied (s : State) (ht : Byte) (v : Nat) {k : HostSide} {e : Nat} (hrun : s.h.run = true) (hline : NoRadioLine s)
    (hcur : k.line.cur = s.h.line.cur) (hsample : s.h.cxSample false ht v = (k, some e)) :
    ∃ t, exec (.cxGrantSample false ht v) s = .next t ∧ OnlyHost s t k := by
  have hwait : State.waiting { s with h := k } ≠ some .radio := by
    simpa only [NoRadioLine, State.waiting, hcur] using hline
  have hexec : exec (.cxGrantSample false ht v) s = .next { s with h := k } := by
    simp only [exec, execCxGrantSample, hrun, hsample, Bool.not_true, Bool.false_eq_true, if_false, State.radioAnswer, if_neg hwait]
  exact ⟨_, hexec, rfl, rfl, rfl⟩

theorem HostSide.cxRise_starts (h : HostSide) {x : TxPend} (ht : Byte) (v : Nat) (htx : h.radio.tx = some x) (hphase : x.phase = .wait)
    (hnow : h.radio.rxNow = none) : h.cxRise ht v = HostSide.txStart { h with radio := { h.radio with susp := false } } x ht v := by
  simp [HostSide.cxRise, htx, hphase, hnow]

/-! ### The end (R658, R662, R673, R732) -/

/-- The radio after a transmission, back in the state from which it came. -/
def Radio.returned (r : Radio) (x : TxPend) : Radio :=
  { r with
    tx := none, cxPri := false, cxReq := if x.prior = .rx then r.cxReq else false, st := if x.prior = .rx then .rx else .stby,
    trsw := trswPath r.trswNow (false, decide (x.prior = .rx)) }

theorem HostSide.txReturn_returned (h : HostSide) (x : TxPend) : (h.txReturn x).radio = h.radio.returned x := by
  unfold HostSide.txReturn Radio.returned
  by_cases hrx : x.prior = .rx
  · simp only [hrx, if_true]
    rfl
  · simp only [hrx, if_false]
    rfl

/-- A transmission that no job has asked for ends with its result. -/
theorem HostSide.txEnd_alone (h : HostSide) {x : TxPend} (r : TxResult) (st : Option HStamp) (hjob : x.job = none) :
    h.txEnd x r st = HostSide.txReturn { h with radio := h.radio.putResult x.id r st } x := by
  simp only [HostSide.txEnd, hjob]

theorem HostSide.txEnd_radio (h : HostSide) {x : TxPend} (r : TxResult) (st : Option HStamp) (hjob : x.job = none) :
    (h.txEnd x r st).radio = (h.radio.putResult x.id r st).returned x := by
  rw [h.txEnd_alone r st hjob, HostSide.txReturn_returned]

/-- An end that is counted and told by `CX_DENY`. -/
theorem HostSide.denied_radio (h : HostSide) {r : Radio} (c : Nat) (hr : h.radio = r) :
    ((h.rfCount c).setBit sbCxDeny).radio = r.count c ∧ bitOf ((h.rfCount c).setBit sbCxDeny).latched sbCxDeny = true := by
  refine ⟨?_, HostSide.bit_setBit _ (by decide)⟩
  rw [HostSide.setBit_radio, ← hr]
  rfl

theorem HostSide.cxTimeout_ends (h : HostSide) {x : TxPend} (htx : h.radio.tx = some x) (hphase : x.phase = .wait) :
    h.cxTimeout = ((h.txEnd x .txDenied none).rfCount cTxDeny).setBit sbCxDeny := by
  simp [HostSide.cxTimeout, htx, hphase]

theorem HostSide.cxFall_aborts (h : HostSide) {x : TxPend} (hcx : h.radio.cxEn = true) (htx : h.radio.tx = some x) (hphase : x.phase = .air) :
    h.cxFall = ((h.txEnd x .cxAbort (h.cutStamp x)).freeNext.rfCount cCxAbort).setBit sbCxDeny := by
  simp [HostSide.cxFall, hcx, htx, hphase]

/-- Reception is suspended where a grant is needed for it (R679). -/
theorem HostSide.cxFall_suspends (h : HostSide) (hcx : h.radio.cxEn = true) (htx : h.radio.tx = none) (hst : h.radio.st = .rx)
    (hlisten : h.radio.listen = false) (hsusp : h.radio.susp = false) :
    h.cxFall = (HostSide.rfCount { h.rfDrop with radio := { h.rfDrop.radio with susp := true } } cCxRxDeny).setBit sbCxDeny := by
  simp [HostSide.cxFall, HostSide.cxSuspend, hcx, htx, hst, hlisten, hsusp]

/-- The correction of an entry is all that a packet's measured power moves (R664). -/
theorem Radio.learnPower_rest (r : Radio) (x : TxPend) (e : Int) : r.learnPower x e = { r with corr := (r.learnPower x e).corr } := by
  unfold Radio.learnPower
  split <;> rfl

theorem Radio.learnPower_none (r : Radio) {x : TxPend} (e : Int) (hcomp : x.comp ≠ 2) : r.learnPower x e = r :=
  if_neg (by simp [hcomp])

theorem HostSide.rfTxDone_ends (h : HostSide) {x : TxPend} (o : Nat) (e : Int) (htx : h.radio.tx = some x) (hphase : x.phase = .air) :
    h.rfTxDone o e = HostSide.rfCount (HostSide.txEnd { h with radio := h.radio.learnPower x e } x .sent (some (h.stampAt o))) cTxOk := by
  have hstamp : HostSide.stampAt { h with radio := h.radio.learnPower x e } o = h.stampAt o := by
    rw [h.radio.learnPower_rest]
    rfl
  simp only [HostSide.rfTxDone, htx, hphase, ne_eq, not_true_eq_false, if_false, hstamp]

/-! ### The steps -/

/-- What the statement says of a transmission that has gone on air. -/
theorem Radio.onAir_shown {r k : Radio} {x : TxPend} {entry : Nat} (h : k.tx = some (x.onAir r entry)) :
    (k.tx.map fun y => (y.phase, y.id, y.psdu)) = some (.air, x.id, x.psdu) := by
  rw [h]
  rfl

/-- The request's slice, with the grant still to be sampled (R657, R673). -/
theorem rfServiceSlice_samples (s : State) {x : TxPend} (ht : Byte) (v : Nat) (hrun : s.h.run = true) (htx : s.h.radio.tx = some x)
    (hphase : x.phase = .bank) (hjob : x.job = none) (hnow : s.h.radio.rxNow = none) (hgoal : s.h.radio.goal = none)
    (hcx : s.h.radio.cxEn = true) :
    ∃ t, exec (.rfServiceSlice ht v) s = .next t ∧ OnlyHost s t { s.h with radio := { s.h.radio with
      tx := some { x with moved := min x.psdu.length (x.moved + 512), phase := .sample }, cxReq := true,
      cxPri := s.h.radio.cxPriCfg } } :=
  s.hostStep (.rfServiceSlice ht v) rfl hrun ((s.h.rfService_requests ht v htx hphase hjob hnow hgoal).trans (if_pos hcx))

/-- The request's slice without coexistence: the packet goes on air (R657, R658). -/
theorem rfServiceSlice_sends (s : State) {x : TxPend} (ht : Byte) {v : Nat} (hrun : s.h.run = true) (htx : s.h.radio.tx = some x)
    (hphase : x.phase = .bank) (hjob : x.job = none) (hnow : s.h.radio.rxNow = none) (hgoal : s.h.radio.goal = none)
    (hcx : s.h.radio.cxEn = false) (hv : 3000 ≤ v) :
    ∃ t, exec (.rfServiceSlice ht v) s = .next t ∧
      OnlyHost s t (HostSide.airs { s.h with radio := { s.h.radio with tx := some x.filled } } x.filled ht v (fieldOf s.h.radio.pa 0 6)) :=
  s.hostStep (.rfServiceSlice ht v) rfl hrun ((s.h.rfService_requests ht v htx hphase hjob hnow hgoal).trans
    ((if_neg (by exact Bool.eq_false_iff.mp hcx)).trans (HostSide.txStart_supplied _ _ ht hv)))

/-- Settles O54: the request by `rfServiceSlice_samples` and `rfServiceSlice_sends`, the grant by `cxSample` and `cxRise`, each end by
`txEnd_radio`. -/
theorem transmissionsRun : Obligations.TransmissionsRun := by
  refine ⟨fun s x ht v hrun htx hphase hjob hnow hgoal => ⟨fun hcx => ?requested, fun hcx hv => ?sends⟩,
    fun s x ht v hrun hask htx hphase => ⟨?waits, ?granted⟩, fun s ht v hrun hline hask => ?denied,
    fun s x ht v hrun htx hphase hnow => ⟨?rises, fun hjob => ?late⟩, fun s x hrun htx hphase hjob hcx => ?aborted,
    fun s hrun htx hcx hst hlisten hsusp => ?suspended, fun s x o e hrun htx hphase hjob hcomp hprior => ?sentStby,
    fun s x o e hrun htx hphase hjob => ?sent⟩
  case requested => exact rfServiceSlice_samples s ht v hrun htx hphase hjob hnow hgoal hcx
  case sends =>
    obtain ⟨t, ht', hhost, hfield, -⟩ := rfServiceSlice_sends s ht hrun htx hphase hjob hnow hgoal hcx hv
    refine ⟨t, x.filled.onAir s.h.radio (fieldOf s.h.radio.pa 0 6), ht', hfield, ?_⟩
    rw [hhost]
    exact ⟨rfl, rfl, rfl, rfl, rfl, rfl, rfl, rfl, rfl, rfl, rfl⟩
  case waits => exact cxGrantSample_silent s false ht v hrun (s.h.cxSample_waits ht v hask htx hphase)
  case granted =>
    obtain ⟨t, hstep, hhost, hfield, -⟩ := cxGrantSample_silent s true ht v hrun (s.h.cxSample_granted ht v hask htx hphase)
    obtain ⟨hst, entry, hair⟩ := s.h.txStart_radio x ht v
    rw [← hhost] at hst hair
    exact ⟨t, hstep, hfield, hst, Radio.onAir_shown hair⟩
  case denied =>
    obtain ⟨hradio, hbit⟩ := HostSide.denied_radio (HostSide.cxRelease { s.h with radio := { s.h.radio with rxAsk := false } }) cCxRxDeny rfl
    have hline' : (s.h.rxDenied.setBit sbCxDeny).line.cur = s.h.line.cur := by
      rw [s.h.rxDenied.setBit_jobsOnly sbCxDeny]
      rfl
    obtain ⟨t, hstep, hhost, hfield, -⟩ := cxGrantSample_denied s ht v hrun hline (by exact hline') (s.h.cxSample_denied ht v hask)
    rw [HostSide.rxDenied, hradio] at hhost
    refine ⟨t, hstep, hfield, ?_⟩
    rw [hhost]
    exact ⟨rfl, rfl, rfl, rfl, hbit, rfl⟩
  case rises =>
    obtain ⟨t, hstep, hhost, hfield, -⟩ := s.hostStep (.cxGrantRise ht v) rfl hrun (s.h.cxRise_starts ht v htx hphase hnow)
    obtain ⟨hst, entry, hair⟩ := HostSide.txStart_radio { s.h with radio := { s.h.radio with susp := false } } x ht v
    rw [← hhost] at hst hair
    exact ⟨t, hstep, hfield, hst, Radio.onAir_shown hair⟩
  case late =>
    obtain ⟨t, hstep, hhost, hfield, -⟩ := s.hostStep .cxTimeout rfl hrun (s.h.cxTimeout_ends htx hphase)
    obtain ⟨hradio, hbit⟩ := HostSide.denied_radio _ cTxDeny (s.h.txEnd_radio .txDenied none hjob)
    rw [← hhost] at hradio hbit
    refine ⟨t, hstep, hfield, ?_⟩
    rw [hradio]
    exact ⟨rfl, hbit, rfl, rfl, rfl⟩
  case aborted =>
    obtain ⟨t, hstep, hhost, hfield, -⟩ := s.hostStep .cxGrantFall rfl hrun (s.h.cxFall_aborts hcx htx hphase)
    obtain ⟨hradio, hbit⟩ := HostSide.denied_radio (s.h.txEnd x .cxAbort (s.h.cutStamp x)).freeNext cCxAbort
      (s.h.txEnd_radio .cxAbort (s.h.cutStamp x) hjob)
    rw [← hhost] at hradio hbit
    refine ⟨t, s.h.cutStamp x, hstep, hfield, ?_⟩
    rw [hradio]
    exact ⟨rfl, hbit, rfl, rfl, rfl⟩
  case suspended =>
    obtain ⟨t, hstep, hhost, hfield, -⟩ := s.hostStep .cxGrantFall rfl hrun (s.h.cxFall_suspends hcx htx hst hlisten hsusp)
    obtain ⟨hradio, hbit⟩ := HostSide.denied_radio { s.h.rfDrop with radio := { s.h.rfDrop.radio with susp := true } } cCxRxDeny rfl
    rw [← hhost] at hradio hbit
    rw [s.h.rfDrop_counts] at hradio
    refine ⟨t, hstep, hfield, ?_⟩
    rw [hradio]
    refine ⟨rfl, rfl, ?_, hbit⟩
    dsimp only [Radio.count]
    split <;> exact hst
  case sentStby =>
    have hends := s.h.rfTxDone_ends o e htx hphase
    rw [s.h.radio.learnPower_none e hcomp, HostSide.txEnd_alone _ _ _ hjob] at hends
    exact s.hostStep (.rfTxEnd o e) rfl hrun (hends.trans (by simp only [HostSide.txReturn, hprior]; rfl))
  case sent =>
    obtain ⟨t, hstep, hhost, hfield, -⟩ := s.hostStep (.rfTxEnd o e) rfl hrun (s.h.rfTxDone_ends o e htx hphase)
    have hradio : t.h.radio = Radio.count (((s.h.radio.learnPower x e).putResult x.id .sent (some (s.h.stampAt o))).returned x) cTxOk := by
      rw [hhost, ← HostSide.txEnd_radio { s.h with radio := s.h.radio.learnPower x e } .sent (some (s.h.stampAt o)) hjob]
      rfl
    rw [s.h.radio.learnPower_rest] at hradio
    refine ⟨t, hstep, hfield, ?_⟩
    rw [hradio]
    exact ⟨rfl, rfl, rfl, rfl, rfl, rfl⟩

end Sys2Proof.Machine
end
